-- ==== Sys2Proof/Word.lean ====
section
/-! DEFINITION. The words of the machine (00_scope.md R10, R11). -/
namespace Sys2Proof

/-- A byte is 8 bits (00_scope.md R11). -/
abbrev Byte := BitVec 8

/-- A word is 16 bits: every register, the flags word, an offset (00_scope.md R10, R11). -/
abbrev Word := BitVec 16

end Sys2Proof
end

