-- ==== Sys2Proof/Config.lean ====
section
/-! DEFINITION. What an implementation fixes (00_scope.md R9) and the free values: constants without a body, of which
nothing can be proved (00_scope.md R14, logs 6, 9, 13 to 20, 46). -/
namespace Sys2Proof

/-- `CPU_MODEL` (00_scope.md R9). -/
inductive CpuModel where
  | i8088 | i8086 | v20 | v30
  deriving DecidableEq, Repr

/-- What stands at an address of the platform's memory map (20_memory.md R76, R77, R79). -/
inductive RegionKind where
  | ram | rom | unmapped | device
  deriving DecidableEq, Repr

/-- One region of the memory map, in linear addresses (20_memory.md R77). -/
structure Region where
  base : Nat
  size : Nat
  kind : RegionKind
  deriving DecidableEq, Repr

/-- `QUEUE_CAPACITY` (00_scope.md R9, 21_prefetch_queue.md R110). -/
inductive QueueCapacity where
  | four | six
  deriving DecidableEq, Repr

/-- `BUS_WIDTH` (00_scope.md R9). -/
inductive BusWidth where
  | byte | word
  deriving DecidableEq, Repr

/-- `ADDR_BITS`: the one value that 00_scope.md R9 gives. -/
inductive AddrBits where
  | twenty
  deriving DecidableEq, Repr

/-- The width of a physical address in bits. -/
def AddrBits.bits : AddrBits → Nat
  | .twenty => 20

/-- `IO_ADDR_BITS`: the one value that 00_scope.md R9 gives. -/
inductive IoAddrBits where
  | sixteen
  deriving DecidableEq, Repr

/-- The width of a port number in bits. -/
def IoAddrBits.bits : IoAddrBits → Nat
  | .sixteen => 16

/-- `EU_TIMING`, which 00_scope.md R9 leaves open: what the EU does in which tick is what the agenda says (log 7). -/
inductive EuTiming where
  | agenda
  deriving DecidableEq, Repr

/-- `UNDEF_FLAG_POLICY`: the one value that 00_scope.md R9 gives, any value, a draw. -/
inductive UndefFlagPolicy where
  | anyValue
  deriving DecidableEq, Repr

/-- `TEST_PIN`: the open input `Pins.test`, as 00_scope.md R9 has it, or tied to a level (log 35). -/
inductive TestPin where
  | input
  | tied (active : Bool)
  deriving DecidableEq, Repr

/-- The wait states of the accesses to one region, in linear addresses or ports (20_memory.md R75). -/
structure WaitRegion where
  base : Nat
  size : Nat
  wait : Nat
  deriving DecidableEq, Repr

/-- The parameters of the block, every one that 00_scope.md R9 names (log 35), and the memory map. No step writes them. -/
structure Cfg where
  /-- `CPU_MODEL` -/
  cpu : CpuModel
  /-- `QUEUE_CAPACITY` -/
  queueCapacity : QueueCapacity
  /-- `BUS_WIDTH` -/
  busWidth : BusWidth
  /-- `ADDR_BITS`: a linear address has the type `BitVec 20`, as its one value says. -/
  addrBits : AddrBits
  /-- `IO_ADDR_BITS`: a port number is a `Word`, as its one value says. -/
  ioAddrBits : IoAddrBits
  /-- `SHIFT_COUNT_MASK` -/
  shiftCountMask : Byte
  /-- `UNMAPPED_FILL` -/
  unmappedFill : Byte
  /-- The memory map: the first region that holds an address decides, an address in no region is RAM (log 5). -/
  regions : List Region
  /-- `read_wait`, by address: the part of the wait count that does not depend on the time (log 42). -/
  readWait : List WaitRegion
  /-- `write_wait`, by address. -/
  writeWait : List WaitRegion
  /-- `io_write_wait`, by port. -/
  ioWriteWait : List WaitRegion
  /-- `IDIV_MIN_QUOTIENT_TRAPS`; on the V20/V30 either may happen (47_v20_v30_extensions.md R597, log 17). -/
  idivMinTraps : Bool
  /-- `BOUND_RETURN_IP`: false is the start of the instruction, true the next instruction. -/
  boundReturnsNext : Bool
  /-- `REP_TF_PER_ITERATION` -/
  repTfPerIteration : Bool
  /-- `REP_RESUME_AT_LAST_PREFIX`; on the V20/V30 either may happen (47_v20_v30_extensions.md R597, log 17). -/
  repResumeAtLastPrefix : Bool
  /-- `REFRESH_PERIOD` -/
  refreshPeriod : Nat
  /-- `DMA_OPERATING_STEPS` -/
  dmaOperatingSteps : Nat
  /-- `DMA_WAIT_STATES` -/
  dmaWaitStates : Nat
  /-- `EU_TIMING` -/
  euTiming : EuTiming
  /-- `UNDEF_FLAG_POLICY` -/
  undefFlags : UndefFlagPolicy
  /-- `TEST_PIN` -/
  testPin : TestPin
  deriving DecidableEq, Repr

/-- A free bit for each draw (logs 9, 14, 16, 17, 20). -/
opaque Config.freeBit : Nat → Bool

/-- A free byte for each draw (logs 6, 14, 17, 20). -/
opaque Config.freeByte : Nat → Byte

/-- A free word for each draw: `UNDEF_FLAG_POLICY` of 00_scope.md R9 (logs 13, 15). -/
opaque Config.freeWord : Nat → Word

/-- What a code fetch from a device address returns, by address and EU step (log 6). -/
opaque Config.deviceCode : Nat → Nat → Byte

/-- Which segment a code byte comes from after CS was loaded without a flush, by offset and EU step (U19, log 46). -/
opaque Config.codeSegment : Nat → Nat → Nat

end Sys2Proof
end

