-- ==== Sys2Proof/Syntax.lean ====
section
/-! DEFINITION. The instructions of the 8088/8086 and of the NEC V20/V30 (spec/opcode_table.json, one constructor per
row; 30_encoding.md R200 to R203, 47_v20_v30_extensions.md R598) and their operands. -/
namespace Sys2Proof

/-- The 8-bit registers, in the order of their numbers (10_state.md R23). -/
inductive Reg8 where
  | al | cl | dl | bl | ah | ch | dh | bh
  deriving DecidableEq, Repr

/-- The 16-bit general registers, in the order of their numbers (10_state.md R22). -/
inductive Reg16 where
  | ax | cx | dx | bx | sp | bp | si | di
  deriving DecidableEq, Repr

/-- The segment registers, in the order of their numbers (10_state.md R41). -/
inductive SReg where
  | es | cs | ss | ds
  deriving DecidableEq, Repr

/-- The base and index registers of a memory form, in the order of the `rm` field (31_modrm_ea.md R232). -/
inductive Base where
  | bxsi | bxdi | bpsi | bpdi | si | di | bp | bx
  deriving DecidableEq, Repr

/-- A memory form with its displacement (31_modrm_ea.md R231, R232). `ind` is `mod = 0`, `direct` the form
`mod = 0, rm = 6`, `disp8` is `mod = 1`, `disp16` is `mod = 2`. `ind .bp` has no encoding. -/
inductive Mem where
  | ind (b : Base)
  | direct (o : Word)
  | disp8 (b : Base) (d : Byte)
  | disp16 (b : Base) (d : Word)
  deriving DecidableEq, Repr

/-- A byte operand selected by `mod` and `rm` (00_scope.md R15). -/
inductive RM8 where
  | reg (r : Reg8)
  | mem (m : Mem)
  deriving DecidableEq, Repr

/-- A word operand selected by `mod` and `rm` (00_scope.md R15). -/
inductive RM16 where
  | reg (r : Reg16)
  | mem (m : Mem)
  deriving DecidableEq, Repr

/-- An operand of the rows whose opcode bit 0 is the width (30_encoding.md R194, the `w` bit). -/
inductive RMW where
  | byte (rm : RM8)
  | word (rm : RM16)
  deriving DecidableEq, Repr

/-- The count of a group-2 shift: 1, or the register CL (42_logic_shift_rotate.md R406, opcode bit 1). -/
inductive ShiftCount where
  | one | cl
  deriving DecidableEq, Repr

/-- An operand of the decoded-instruction record: of the kinds of 30_encoding.md R198 those that an undefined encoding of the V20/V30
has. -/
inductive Operand where
  | none
  | register8 (r : Reg8)
  | register16 (r : Reg16)
  | immediate8 (v : Byte)
  | addressingMode (m : Mem)
  /-- Fixed by the opcode: the count 1 or CL of group 2. -/
  | implicit
  deriving DecidableEq, Repr

/-- The size of the operand that `mod` and `rm` select (30_encoding.md R198, 32_decode_sequencer.md R270). -/
inductive OperandSize where
  | operand8 | operand16 | noSize
  deriving DecidableEq, Repr

/-- The operand pair of the decoded-instruction record, and its size (32_decode_sequencer.md R262). -/
structure OperandPair where
  first : Operand
  second : Operand
  size : OperandSize
  deriving DecidableEq, Repr

/-- No operands. -/
def OperandPair.empty : OperandPair := { first := .none, second := .none, size := .noSize }

/-- Every row of the opcode table. The comment after a constructor
is its first byte, its `/n` where it has one, and the rule of its row. Constructors with operands come first, because a
compiled constructor that carries data must be among the first 244. An encoding that only traps as undefined, or that the
spec has a model refuse, carries no operands; the opcode byte and the operand pair of an undefined one stand in the decode state
(`opcodeByte`, `undefinedOperands`, log 24). -/
inductive Instr where
  | addEbGb (rm : RM8) (r : Reg8)  -- 00 (R354)
  | addEvGv (rm : RM16) (r : Reg16)  -- 01 (R354)
  | addGbEb (r : Reg8) (rm : RM8)  -- 02 (R354)
  | addGvEv (r : Reg16) (rm : RM16)  -- 03 (R354)
  | addAlIb (imm : Byte)  -- 04 (R354)
  | addAxIv (imm : Word)  -- 05 (R354)
  | orEbGb (rm : RM8) (r : Reg8)  -- 08 (R402)
  | orEvGv (rm : RM16) (r : Reg16)  -- 09 (R402)
  | orGbEb (r : Reg8) (rm : RM8)  -- 0A (R402)
  | orGvEv (r : Reg16) (rm : RM16)  -- 0B (R402)
  | orAlIb (imm : Byte)  -- 0C (R402)
  | orAxIv (imm : Word)  -- 0D (R402)
  | adcEbGb (rm : RM8) (r : Reg8)  -- 10 (R355)
  | adcEvGv (rm : RM16) (r : Reg16)  -- 11 (R355)
  | adcGbEb (r : Reg8) (rm : RM8)  -- 12 (R355)
  | adcGvEv (r : Reg16) (rm : RM16)  -- 13 (R355)
  | adcAlIb (imm : Byte)  -- 14 (R355)
  | adcAxIv (imm : Word)  -- 15 (R355)
  | sbbEbGb (rm : RM8) (r : Reg8)  -- 18 (R359)
  | sbbEvGv (rm : RM16) (r : Reg16)  -- 19 (R359)
  | sbbGbEb (r : Reg8) (rm : RM8)  -- 1A (R359)
  | sbbGvEv (r : Reg16) (rm : RM16)  -- 1B (R359)
  | sbbAlIb (imm : Byte)  -- 1C (R359)
  | sbbAxIv (imm : Word)  -- 1D (R359)
  | andEbGb (rm : RM8) (r : Reg8)  -- 20 (R401)
  | andEvGv (rm : RM16) (r : Reg16)  -- 21 (R401)
  | andGbEb (r : Reg8) (rm : RM8)  -- 22 (R401)
  | andGvEv (r : Reg16) (rm : RM16)  -- 23 (R401)
  | andAlIb (imm : Byte)  -- 24 (R401)
  | andAxIv (imm : Word)  -- 25 (R401)
  | subEbGb (rm : RM8) (r : Reg8)  -- 28 (R358)
  | subEvGv (rm : RM16) (r : Reg16)  -- 29 (R358)
  | subGbEb (r : Reg8) (rm : RM8)  -- 2A (R358)
  | subGvEv (r : Reg16) (rm : RM16)  -- 2B (R358)
  | subAlIb (imm : Byte)  -- 2C (R358)
  | subAxIv (imm : Word)  -- 2D (R358)
  | xorEbGb (rm : RM8) (r : Reg8)  -- 30 (R403)
  | xorEvGv (rm : RM16) (r : Reg16)  -- 31 (R403)
  | xorGbEb (r : Reg8) (rm : RM8)  -- 32 (R403)
  | xorGvEv (r : Reg16) (rm : RM16)  -- 33 (R403)
  | xorAlIb (imm : Byte)  -- 34 (R403)
  | xorAxIv (imm : Word)  -- 35 (R403)
  | cmpEbGb (rm : RM8) (r : Reg8)  -- 38 (R363)
  | cmpEvGv (rm : RM16) (r : Reg16)  -- 39 (R363)
  | cmpGbEb (r : Reg8) (rm : RM8)  -- 3A (R363)
  | cmpGvEv (r : Reg16) (rm : RM16)  -- 3B (R363)
  | cmpAlIb (imm : Byte)  -- 3C (R363)
  | cmpAxIv (imm : Word)  -- 3D (R363)
  | incR16 (r : Reg16)  -- 40 (R357)
  | decR16 (r : Reg16)  -- 48 (R361)
  | pushR16 (r : Reg16)  -- 50 (R306)
  | popR16 (r : Reg16)  -- 58 (R309)
  | joDup60 (d : Byte)  -- 60 (R551)
  | jnoDup61 (d : Byte)  -- 61 (R551)
  | jbDup62 (d : Byte)  -- 62 (R551)
  | jnbDup63 (d : Byte)  -- 63 (R551)
  | jzDup64 (d : Byte)  -- 64 (R551)
  | jnzDup65 (d : Byte)  -- 65 (R551)
  | jbeDup66 (d : Byte)  -- 66 (R551)
  | jaDup67 (d : Byte)  -- 67 (R551)
  | jsDup68 (d : Byte)  -- 68 (R551)
  | jnsDup69 (d : Byte)  -- 69 (R551)
  | jpDup6A (d : Byte)  -- 6A (R551)
  | jnpDup6B (d : Byte)  -- 6B (R551)
  | jlDup6C (d : Byte)  -- 6C (R551)
  | jgeDup6D (d : Byte)  -- 6D (R551)
  | jleDup6E (d : Byte)  -- 6E (R551)
  | jgDup6F (d : Byte)  -- 6F (R551)
  | jo (d : Byte)  -- 70 (R472)
  | jno (d : Byte)  -- 71 (R472)
  | jb (d : Byte)  -- 72 (R472)
  | jnb (d : Byte)  -- 73 (R472)
  | jz (d : Byte)  -- 74 (R472)
  | jnz (d : Byte)  -- 75 (R472)
  | jbe (d : Byte)  -- 76 (R472)
  | ja (d : Byte)  -- 77 (R472)
  | js (d : Byte)  -- 78 (R472)
  | jns (d : Byte)  -- 79 (R472)
  | jp (d : Byte)  -- 7A (R472)
  | jnp (d : Byte)  -- 7B (R472)
  | jl (d : Byte)  -- 7C (R472)
  | jge (d : Byte)  -- 7D (R472)
  | jle (d : Byte)  -- 7E (R472)
  | jg (d : Byte)  -- 7F (R472)
  | addEbIb (rm : RM8) (imm : Byte)  -- 80 /0 (R354)
  | orEbIb (rm : RM8) (imm : Byte)  -- 80 /1 (R402)
  | adcEbIb (rm : RM8) (imm : Byte)  -- 80 /2 (R355)
  | sbbEbIb (rm : RM8) (imm : Byte)  -- 80 /3 (R359)
  | andEbIb (rm : RM8) (imm : Byte)  -- 80 /4 (R401)
  | subEbIb (rm : RM8) (imm : Byte)  -- 80 /5 (R358)
  | xorEbIb (rm : RM8) (imm : Byte)  -- 80 /6 (R403)
  | cmpEbIb (rm : RM8) (imm : Byte)  -- 80 /7 (R363)
  | addEvIv (rm : RM16) (imm : Word)  -- 81 /0 (R354)
  | orEvIv (rm : RM16) (imm : Word)  -- 81 /1 (R402)
  | adcEvIv (rm : RM16) (imm : Word)  -- 81 /2 (R355)
  | sbbEvIv (rm : RM16) (imm : Word)  -- 81 /3 (R359)
  | andEvIv (rm : RM16) (imm : Word)  -- 81 /4 (R401)
  | subEvIv (rm : RM16) (imm : Word)  -- 81 /5 (R358)
  | xorEvIv (rm : RM16) (imm : Word)  -- 81 /6 (R403)
  | cmpEvIv (rm : RM16) (imm : Word)  -- 81 /7 (R363)
  | addEbIb82 (rm : RM8) (imm : Byte)  -- 82 /0 (R554)
  | orEbIb82 (rm : RM8) (imm : Byte)  -- 82 /1 (R554)
  | adcEbIb82 (rm : RM8) (imm : Byte)  -- 82 /2 (R554)
  | sbbEbIb82 (rm : RM8) (imm : Byte)  -- 82 /3 (R554)
  | andEbIb82 (rm : RM8) (imm : Byte)  -- 82 /4 (R554)
  | subEbIb82 (rm : RM8) (imm : Byte)  -- 82 /5 (R554)
  | xorEbIb82 (rm : RM8) (imm : Byte)  -- 82 /6 (R554)
  | cmpEbIb82 (rm : RM8) (imm : Byte)  -- 82 /7 (R554)
  | addEvIbs (rm : RM16) (imm : Byte)  -- 83 /0 (R354)
  | orEvIbs (rm : RM16) (imm : Byte)  -- 83 /1 (R402)
  | adcEvIbs (rm : RM16) (imm : Byte)  -- 83 /2 (R355)
  | sbbEvIbs (rm : RM16) (imm : Byte)  -- 83 /3 (R359)
  | andEvIbs (rm : RM16) (imm : Byte)  -- 83 /4 (R401)
  | subEvIbs (rm : RM16) (imm : Byte)  -- 83 /5 (R358)
  | xorEvIbs (rm : RM16) (imm : Byte)  -- 83 /6 (R403)
  | cmpEvIbs (rm : RM16) (imm : Byte)  -- 83 /7 (R363)
  | testEbGb (rm : RM8) (r : Reg8)  -- 84 (R404)
  | testEvGv (rm : RM16) (r : Reg16)  -- 85 (R404)
  | xchgEbGb (rm : RM8) (r : Reg8)  -- 86 (R312)
  | xchgEvGv (rm : RM16) (r : Reg16)  -- 87 (R312)
  | movEbGb (rm : RM8) (r : Reg8)  -- 88 (R300)
  | movEvGv (rm : RM16) (r : Reg16)  -- 89 (R300)
  | movGbEb (r : Reg8) (rm : RM8)  -- 8A (R300)
  | movGvEv (r : Reg16) (rm : RM16)  -- 8B (R300)
  | movEwSw (rm : RM16) (sr : SReg)  -- 8C /0 (R304)
  | movEwSwHigh (rm : RM16) (sr : SReg)  -- 8C /4 (R560)
  | leaMod01 (r : Reg16) (m : Mem)  -- 8D (R320)
  | leaMod2 (r : Reg16) (m : Mem)  -- 8D (R320)
  | leaMod3 (r : Reg16) (rm : Reg16)  -- 8D (R564)
  | movEsEw (rm : RM16)  -- 8E /0 (R305)
  | movCsEw (rm : RM16)  -- 8E /1 (R565)
  | movSsEw (rm : RM16)  -- 8E /2 (R305)
  | movDsEw (rm : RM16)  -- 8E /3 (R305)
  | movEsEw4 (rm : RM16)  -- 8E /4 (R560)
  | movCsEw5 (rm : RM16)  -- 8E /5 (R565)
  | movSsEw6 (rm : RM16)  -- 8E /6 (R560)
  | movDsEw7 (rm : RM16)  -- 8E /7 (R560)
  | popEv (rm : RM16)  -- 8F /0 (R311)
  | popEvReg1 (rm : RM16)  -- 8F /1 (R561)
  | popEvReg2 (rm : RM16)  -- 8F /2 (R561)
  | popEvReg3 (rm : RM16)  -- 8F /3 (R561)
  | popEvReg4 (rm : RM16)  -- 8F /4 (R561)
  | popEvReg5 (rm : RM16)  -- 8F /5 (R561)
  | popEvReg6 (rm : RM16)  -- 8F /6 (R561)
  | popEvReg7 (rm : RM16)  -- 8F /7 (R561)
  | callAp (off : Word) (sg : Word)  -- 9A (R480)
  | movAlOb (o : Word)  -- A0 (R303)
  | movAxOv (o : Word)  -- A1 (R303)
  | movObAl (o : Word)  -- A2 (R303)
  | movOvAx (o : Word)  -- A3 (R303)
  | testAlIb (imm : Byte)  -- A8 (R404)
  | testAxIv (imm : Word)  -- A9 (R404)
  | movR8Ib (r : Reg8) (imm : Byte)  -- B0 (R302)
  | movR16Iv (r : Reg16) (imm : Word)  -- B8 (R302)
  | retIwC0 (imm : Word)  -- C0 (R552)
  | retIw (imm : Word)  -- C2 (R483)
  | lesMod01 (r : Reg16) (m : Mem)  -- C4 (R322)
  | lesMod2 (r : Reg16) (m : Mem)  -- C4 (R322)
  | lesMod3 (r : Reg16) (rm : Reg16)  -- C4 (R564)
  | ldsMod01 (r : Reg16) (m : Mem)  -- C5 (R321)
  | ldsMod2 (r : Reg16) (m : Mem)  -- C5 (R321)
  | ldsMod3 (r : Reg16) (rm : Reg16)  -- C5 (R564)
  | movEbIb (rm : RM8) (imm : Byte)  -- C6 /0 (R301)
  | movEbIbReg1 (rm : RM8) (imm : Byte)  -- C6 /1 (R561)
  | movEbIbReg2 (rm : RM8) (imm : Byte)  -- C6 /2 (R561)
  | movEbIbReg3 (rm : RM8) (imm : Byte)  -- C6 /3 (R561)
  | movEbIbReg4 (rm : RM8) (imm : Byte)  -- C6 /4 (R561)
  | movEbIbReg5 (rm : RM8) (imm : Byte)  -- C6 /5 (R561)
  | movEbIbReg6 (rm : RM8) (imm : Byte)  -- C6 /6 (R561)
  | movEbIbReg7 (rm : RM8) (imm : Byte)  -- C6 /7 (R561)
  | movEvIv (rm : RM16) (imm : Word)  -- C7 /0 (R301)
  | movEvIvReg1 (rm : RM16) (imm : Word)  -- C7 /1 (R561)
  | movEvIvReg2 (rm : RM16) (imm : Word)  -- C7 /2 (R561)
  | movEvIvReg3 (rm : RM16) (imm : Word)  -- C7 /3 (R561)
  | movEvIvReg4 (rm : RM16) (imm : Word)  -- C7 /4 (R561)
  | movEvIvReg5 (rm : RM16) (imm : Word)  -- C7 /5 (R561)
  | movEvIvReg6 (rm : RM16) (imm : Word)  -- C7 /6 (R561)
  | movEvIvReg7 (rm : RM16) (imm : Word)  -- C7 /7 (R561)
  | retfIwC8 (imm : Word)  -- C8 (R552)
  | retfIw (imm : Word)  -- CA (R485)
  | intIb (imm : Byte)  -- CD (R490)
  | rolEbEv (rm : RMW) (n : ShiftCount)  -- D0 /0 (R412)
  | rorEbEv (rm : RMW) (n : ShiftCount)  -- D0 /1 (R413)
  | rclEbEv (rm : RMW) (n : ShiftCount)  -- D0 /2 (R414)
  | rcrEbEv (rm : RMW) (n : ShiftCount)  -- D0 /3 (R415)
  | shlEbEv (rm : RMW) (n : ShiftCount)  -- D0 /4 (R409)
  | shrEbEv (rm : RMW) (n : ShiftCount)  -- D0 /5 (R410)
  | setmo (rm : RMW)  -- D0 /6 (R557)
  | setmoc (rm : RMW)  -- D2 /6 (R557)
  | sarEbEv (rm : RMW) (n : ShiftCount)  -- D0 /7 (R411)
  | aamIb (imm : Byte)  -- D4 (R372)
  | aadIb (imm : Byte)  -- D5 (R373)
  | esc (op : BitVec 3) (ext : BitVec 3) (rm : RM16)  -- D8 (R529)
  | loopnz (d : Byte)  -- E0 (R488)
  | loopz (d : Byte)  -- E1 (R487)
  | loop (d : Byte)  -- E2 (R486)
  | jcxz (d : Byte)  -- E3 (R489)
  | inAlIb (imm : Byte)  -- E4 (R315)
  | inAxIb (imm : Byte)  -- E5 (R315)
  | outIbAl (imm : Byte)  -- E6 (R317)
  | outIbAx (imm : Byte)  -- E7 (R317)
  | callJv (d : Word)  -- E8 (R478)
  | jmpJv (d : Word)  -- E9 (R474)
  | jmpAp (off : Word) (sg : Word)  -- EA (R476)
  | jmpJb (d : Byte)  -- EB (R473)
  | testEbIb (rm : RM8) (imm : Byte)  -- F6 /0 (R404)
  | testEbIbReg1 (rm : RM8) (imm : Byte)  -- F6 /1 (R558)
  | testEvIv (rm : RM16) (imm : Word)  -- F7 /0 (R404)
  | testEvIvReg1 (rm : RM16) (imm : Word)  -- F7 /1 (R558)
  | notEbEv (rm : RMW)  -- F6 /2 (R405)
  | negEbEv (rm : RMW)  -- F6 /3 (R362)
  | mulEbEv (rm : RMW)  -- F6 /4 (R368)
  | imulEbEv (rm : RMW)  -- F6 /5 (R369)
  | divEbEv (rm : RMW)  -- F6 /6 (R370)
  | idivEbEv (rm : RMW)  -- F6 /7 (R371)
  | incEbEv (rm : RMW)  -- FE /0 (R356)
  | decEbEv (rm : RMW)  -- FE /1 (R360)
  | callEv (rm : RM16)  -- FF /2 (R479)
  | callMpMod01 (m : Mem)  -- FF /3 (R481)
  | callMpMod2 (m : Mem)  -- FF /3 (R481)
  | callMpMod3 (rm : Reg16)  -- FF /3 (R564)
  | jmpEv (rm : RM16)  -- FF /4 (R475)
  | jmpMpMod01 (m : Mem)  -- FF /5 (R477)
  | jmpMpMod2 (m : Mem)  -- FF /5 (R477)
  | jmpMpMod3 (rm : Reg16)  -- FF /5 (R564)
  | pushEv (rm : RM16)  -- FF /6 (R308)
  | pushEvReg7 (rm : RM16)  -- FF /7 (R562)
  | ext0F (op2 : Byte)  -- 0F (R581)
  | boundMod01 (r : Reg16) (m : Mem)  -- 62 (R587)
  | boundMod2 (r : Reg16) (m : Mem)  -- 62 (R587)
  | pushIv (imm : Word)  -- 68 (R588)
  | imulGvEvIv (r : Reg16) (rm : RM16) (imm : Word)  -- 69 (R589)
  | pushIbs (imm : Byte)  -- 6A (R588)
  | imulGvEvIbs (r : Reg16) (rm : RM16) (imm : Byte)  -- 6B (R589)
  | rolEbEvIb (rm : RMW) (imm : Byte)  -- C0 /0 (R591)
  | rorEbEvIb (rm : RMW) (imm : Byte)  -- C0 /1 (R591)
  | rclEbEvIb (rm : RMW) (imm : Byte)  -- C0 /2 (R591)
  | rcrEbEvIb (rm : RMW) (imm : Byte)  -- C0 /3 (R591)
  | shlEbEvIb (rm : RMW) (imm : Byte)  -- C0 /4 (R591)
  | shrEbEvIb (rm : RMW) (imm : Byte)  -- C0 /5 (R591)
  | sarEbEvIb (rm : RMW) (imm : Byte)  -- C0 /7 (R591)
  | enter (size : Word) (level : Byte)  -- C8 (R592)
  -- without operands (or with operands that change nothing: refused and undefined encodings)
  | pushEs  -- 06 (R307)
  | popEs  -- 07 (R310)
  | pushCs  -- 0E (R307)
  | popCs  -- 0F (R553)
  | pushSs  -- 16 (R307)
  | popSs  -- 17 (R310)
  | pushDs  -- 1E (R307)
  | popDs  -- 1F (R310)
  | segEs  -- 26 (R531)
  | daa  -- 27 (R366)
  | segCs  -- 2E (R531)
  | das  -- 2F (R367)
  | segSs  -- 36 (R531)
  | aaa  -- 37 (R364)
  | segDs  -- 3E (R531)
  | aas  -- 3F (R365)
  | nop  -- 90 (R314)
  | xchgAxCx  -- 91 (R313)
  | xchgAxDx  -- 92 (R313)
  | xchgAxBx  -- 93 (R313)
  | xchgAxSp  -- 94 (R313)
  | xchgAxBp  -- 95 (R313)
  | xchgAxSi  -- 96 (R313)
  | xchgAxDi  -- 97 (R313)
  | cbw  -- 98 (R374)
  | cwd  -- 99 (R375)
  | wait  -- 9B (R528)
  | pushf  -- 9C (R325)
  | popf  -- 9D (R326)
  | sahf  -- 9E (R324)
  | lahf  -- 9F (R323)
  | movsb  -- A4 (R442)
  | movsw  -- A5 (R442)
  | cmpsb  -- A6 (R443)
  | cmpsw  -- A7 (R443)
  | stosb  -- AA (R446)
  | stosw  -- AB (R446)
  | lodsb  -- AC (R445)
  | lodsw  -- AD (R445)
  | scasb  -- AE (R444)
  | scasw  -- AF (R444)
  | retC1  -- C1 (R552)
  | ret  -- C3 (R482)
  | retfC9  -- C9 (R552)
  | retf  -- CB (R484)
  | int3  -- CC (R491)
  | into  -- CE (R492)
  | iret  -- CF (R493)
  | salc  -- D6 (R556)
  | xlat  -- D7 (R319)
  | inAlDx  -- EC (R316)
  | inAxDx  -- ED (R316)
  | outDxAl  -- EE (R318)
  | outDxAx  -- EF (R318)
  | lock  -- F0 (R530)
  | lockF1  -- F1 (R555)
  | repne  -- F2 (R441)
  | rep  -- F3 (R441)
  | hlt  -- F4 (R527)
  | cmc  -- F5 (R522)
  | clc  -- F8 (R520)
  | stc  -- F9 (R521)
  | cli  -- FA (R525)
  | sti  -- FB (R526)
  | cld  -- FC (R523)
  | std  -- FD (R524)
  | fe2  -- FE /2 (R563)
  | fe3  -- FE /3 (R563)
  | fe4  -- FE /4 (R563)
  | fe5  -- FE /5 (R563)
  | fe6  -- FE /6 (R563)
  | fe7  -- FE /7 (R563)
  | pusha  -- 60 (R585)
  | popa  -- 61 (R586)
  | undef62Mod3  -- 62 (R583)
  | undef63  -- 63 (R583)
  | repnc  -- 64 (R582)
  | repc  -- 65 (R582)
  | undef66  -- 66 (R596)
  | undef67  -- 67 (R596)
  | insb  -- 6C (R590)
  | insw  -- 6D (R590)
  | outsb  -- 6E (R590)
  | outsw  -- 6F (R590)
  | undefC0Reg6  -- C0 /6 (R583)
  | leave  -- C9 (R593)
  | undefD0Reg6  -- D0 /6 (R583)
  | undefD6  -- D6 (R596)
  | undefF1  -- F1 (R596)
  | undefFe2  -- FE /2 (R583)
  | undefFe3  -- FE /3 (R583)
  | undefFe4  -- FE /4 (R583)
  | undefFe5  -- FE /5 (R583)
  | undefFe6  -- FE /6 (R583)
  | undefFe7  -- FE /7 (R583)
  | undef8DMod3  -- 8D (R583)
  | undefC4Mod3  -- C4 (R583)
  | undefC5Mod3  -- C5 (R583)
  | undefFfReg3  -- FF /3 (R583)
  | undefFfReg5  -- FF /5 (R583)
  | add4s  -- 0F 20 (R594)
  | sub4s  -- 0F 22 (R594)
  | cmp4s  -- 0F 26 (R594)
  | test1EbCl  -- 0F 10 (R595)
  | test1EvCl  -- 0F 11 (R595)
  | clr1EbCl  -- 0F 12 (R595)
  | clr1EvCl  -- 0F 13 (R595)
  | set1EbCl  -- 0F 14 (R595)
  | set1EvCl  -- 0F 15 (R595)
  | not1EbCl  -- 0F 16 (R595)
  | not1EvCl  -- 0F 17 (R595)
  | test1EbIb  -- 0F 18 (R595)
  | test1EvIb  -- 0F 19 (R595)
  | clr1EbIb  -- 0F 1A (R595)
  | clr1EvIb  -- 0F 1B (R595)
  | set1EbIb  -- 0F 1C (R595)
  | set1EvIb  -- 0F 1D (R595)
  | not1EbIb  -- 0F 1E (R595)
  | not1EvIb  -- 0F 1F (R595)
  | rol4  -- 0F 28 (R595)
  | ror4  -- 0F 2A (R595)
  | insFieldReg  -- 0F 31 (R595)
  | insFieldImm  -- 0F 39 (R595)
  | extFieldReg  -- 0F 33 (R595)
  | extFieldImm  -- 0F 3B (R595)
  | brkem  -- 0F FF (R595)
  deriving DecidableEq, Repr

end Sys2Proof
end

