-- ==== Sys2Proof/WellFormed.lean ====
section
/-! DEFINITION. Which terms of `Instr` stand for an instruction that has an encoding (31_modrm_ea.md R232,
30_encoding.md R201), and on which CPU a row of the opcode table applies (R201, 47_v20_v30_extensions.md R598). -/
namespace Sys2Proof

/-- `mod = 0, rm = 6` is the direct form, so `[BP]` without displacement has no encoding (31_modrm_ea.md R232). -/
def Mem.wf : Mem → Bool
  | .ind .bp => false
  | .ind _ => true
  | .direct _ => true
  | .disp8 _ _ => true
  | .disp16 _ _ => true

/-- The memory form has `mod = 2` (30_encoding.md R201 splits memory-only rows by it). -/
def Mem.isMod2 : Mem → Bool
  | .disp16 _ _ => true
  | .ind _ => false
  | .direct _ => false
  | .disp8 _ _ => false

def RM8.wf : RM8 → Bool
  | .reg _ => true
  | .mem m => m.wf

def RM16.wf : RM16 → Bool
  | .reg _ => true
  | .mem m => m.wf

def RMW.wf : RMW → Bool
  | .byte rm => rm.wf
  | .word rm => rm.wf

/-- The second bytes after `0F` that have a row of their own (47_v20_v30_extensions.md R594, R595). -/
def isExtOpcode (op2 : Byte) : Bool :=
  [0x10, 0x11, 0x12, 0x13, 0x14, 0x15, 0x16, 0x17, 0x18, 0x19, 0x1A, 0x1B, 0x1C, 0x1D, 0x1E, 0x1F, 0x20, 0x22, 0x26, 0x28, 0x2A, 0x31, 0x33, 0x39, 0x3B, 0xFF].contains op2.toNat

/-- The term has an encoding: its memory form exists, a memory-only row split by `mod` holds a form of its side, and the
default row of `0F` holds a second byte that no other row takes. -/
def Instr.wf : Instr → Bool
  | .addEbGb rm _ => rm.wf
  | .addEvGv rm _ => rm.wf
  | .addGbEb _ rm => rm.wf
  | .addGvEv _ rm => rm.wf
  | .addAlIb _ => true
  | .addAxIv _ => true
  | .orEbGb rm _ => rm.wf
  | .orEvGv rm _ => rm.wf
  | .orGbEb _ rm => rm.wf
  | .orGvEv _ rm => rm.wf
  | .orAlIb _ => true
  | .orAxIv _ => true
  | .adcEbGb rm _ => rm.wf
  | .adcEvGv rm _ => rm.wf
  | .adcGbEb _ rm => rm.wf
  | .adcGvEv _ rm => rm.wf
  | .adcAlIb _ => true
  | .adcAxIv _ => true
  | .sbbEbGb rm _ => rm.wf
  | .sbbEvGv rm _ => rm.wf
  | .sbbGbEb _ rm => rm.wf
  | .sbbGvEv _ rm => rm.wf
  | .sbbAlIb _ => true
  | .sbbAxIv _ => true
  | .andEbGb rm _ => rm.wf
  | .andEvGv rm _ => rm.wf
  | .andGbEb _ rm => rm.wf
  | .andGvEv _ rm => rm.wf
  | .andAlIb _ => true
  | .andAxIv _ => true
  | .subEbGb rm _ => rm.wf
  | .subEvGv rm _ => rm.wf
  | .subGbEb _ rm => rm.wf
  | .subGvEv _ rm => rm.wf
  | .subAlIb _ => true
  | .subAxIv _ => true
  | .xorEbGb rm _ => rm.wf
  | .xorEvGv rm _ => rm.wf
  | .xorGbEb _ rm => rm.wf
  | .xorGvEv _ rm => rm.wf
  | .xorAlIb _ => true
  | .xorAxIv _ => true
  | .cmpEbGb rm _ => rm.wf
  | .cmpEvGv rm _ => rm.wf
  | .cmpGbEb _ rm => rm.wf
  | .cmpGvEv _ rm => rm.wf
  | .cmpAlIb _ => true
  | .cmpAxIv _ => true
  | .incR16 _ => true
  | .decR16 _ => true
  | .pushR16 _ => true
  | .popR16 _ => true
  | .joDup60 _ => true
  | .jnoDup61 _ => true
  | .jbDup62 _ => true
  | .jnbDup63 _ => true
  | .jzDup64 _ => true
  | .jnzDup65 _ => true
  | .jbeDup66 _ => true
  | .jaDup67 _ => true
  | .jsDup68 _ => true
  | .jnsDup69 _ => true
  | .jpDup6A _ => true
  | .jnpDup6B _ => true
  | .jlDup6C _ => true
  | .jgeDup6D _ => true
  | .jleDup6E _ => true
  | .jgDup6F _ => true
  | .jo _ => true
  | .jno _ => true
  | .jb _ => true
  | .jnb _ => true
  | .jz _ => true
  | .jnz _ => true
  | .jbe _ => true
  | .ja _ => true
  | .js _ => true
  | .jns _ => true
  | .jp _ => true
  | .jnp _ => true
  | .jl _ => true
  | .jge _ => true
  | .jle _ => true
  | .jg _ => true
  | .addEbIb rm _ => rm.wf
  | .orEbIb rm _ => rm.wf
  | .adcEbIb rm _ => rm.wf
  | .sbbEbIb rm _ => rm.wf
  | .andEbIb rm _ => rm.wf
  | .subEbIb rm _ => rm.wf
  | .xorEbIb rm _ => rm.wf
  | .cmpEbIb rm _ => rm.wf
  | .addEvIv rm _ => rm.wf
  | .orEvIv rm _ => rm.wf
  | .adcEvIv rm _ => rm.wf
  | .sbbEvIv rm _ => rm.wf
  | .andEvIv rm _ => rm.wf
  | .subEvIv rm _ => rm.wf
  | .xorEvIv rm _ => rm.wf
  | .cmpEvIv rm _ => rm.wf
  | .addEbIb82 rm _ => rm.wf
  | .orEbIb82 rm _ => rm.wf
  | .adcEbIb82 rm _ => rm.wf
  | .sbbEbIb82 rm _ => rm.wf
  | .andEbIb82 rm _ => rm.wf
  | .subEbIb82 rm _ => rm.wf
  | .xorEbIb82 rm _ => rm.wf
  | .cmpEbIb82 rm _ => rm.wf
  | .addEvIbs rm _ => rm.wf
  | .orEvIbs rm _ => rm.wf
  | .adcEvIbs rm _ => rm.wf
  | .sbbEvIbs rm _ => rm.wf
  | .andEvIbs rm _ => rm.wf
  | .subEvIbs rm _ => rm.wf
  | .xorEvIbs rm _ => rm.wf
  | .cmpEvIbs rm _ => rm.wf
  | .testEbGb rm _ => rm.wf
  | .testEvGv rm _ => rm.wf
  | .xchgEbGb rm _ => rm.wf
  | .xchgEvGv rm _ => rm.wf
  | .movEbGb rm _ => rm.wf
  | .movEvGv rm _ => rm.wf
  | .movGbEb _ rm => rm.wf
  | .movGvEv _ rm => rm.wf
  | .movEwSw rm _ => rm.wf
  | .movEwSwHigh rm _ => rm.wf
  | .leaMod01 _ m => m.wf && !m.isMod2
  | .leaMod2 _ m => m.wf && m.isMod2
  | .leaMod3 _ _ => true
  | .movEsEw rm => rm.wf
  | .movCsEw rm => rm.wf
  | .movSsEw rm => rm.wf
  | .movDsEw rm => rm.wf
  | .movEsEw4 rm => rm.wf
  | .movCsEw5 rm => rm.wf
  | .movSsEw6 rm => rm.wf
  | .movDsEw7 rm => rm.wf
  | .popEv rm => rm.wf
  | .popEvReg1 rm => rm.wf
  | .popEvReg2 rm => rm.wf
  | .popEvReg3 rm => rm.wf
  | .popEvReg4 rm => rm.wf
  | .popEvReg5 rm => rm.wf
  | .popEvReg6 rm => rm.wf
  | .popEvReg7 rm => rm.wf
  | .callAp _ _ => true
  | .movAlOb _ => true
  | .movAxOv _ => true
  | .movObAl _ => true
  | .movOvAx _ => true
  | .testAlIb _ => true
  | .testAxIv _ => true
  | .movR8Ib _ _ => true
  | .movR16Iv _ _ => true
  | .retIwC0 _ => true
  | .retIw _ => true
  | .lesMod01 _ m => m.wf && !m.isMod2
  | .lesMod2 _ m => m.wf && m.isMod2
  | .lesMod3 _ _ => true
  | .ldsMod01 _ m => m.wf && !m.isMod2
  | .ldsMod2 _ m => m.wf && m.isMod2
  | .ldsMod3 _ _ => true
  | .movEbIb rm _ => rm.wf
  | .movEbIbReg1 rm _ => rm.wf
  | .movEbIbReg2 rm _ => rm.wf
  | .movEbIbReg3 rm _ => rm.wf
  | .movEbIbReg4 rm _ => rm.wf
  | .movEbIbReg5 rm _ => rm.wf
  | .movEbIbReg6 rm _ => rm.wf
  | .movEbIbReg7 rm _ => rm.wf
  | .movEvIv rm _ => rm.wf
  | .movEvIvReg1 rm _ => rm.wf
  | .movEvIvReg2 rm _ => rm.wf
  | .movEvIvReg3 rm _ => rm.wf
  | .movEvIvReg4 rm _ => rm.wf
  | .movEvIvReg5 rm _ => rm.wf
  | .movEvIvReg6 rm _ => rm.wf
  | .movEvIvReg7 rm _ => rm.wf
  | .retfIwC8 _ => true
  | .retfIw _ => true
  | .intIb _ => true
  | .rolEbEv rm _ => rm.wf
  | .rorEbEv rm _ => rm.wf
  | .rclEbEv rm _ => rm.wf
  | .rcrEbEv rm _ => rm.wf
  | .shlEbEv rm _ => rm.wf
  | .shrEbEv rm _ => rm.wf
  | .setmo rm => rm.wf
  | .setmoc rm => rm.wf
  | .sarEbEv rm _ => rm.wf
  | .aamIb _ => true
  | .aadIb _ => true
  | .esc _ _ rm => rm.wf
  | .loopnz _ => true
  | .loopz _ => true
  | .loop _ => true
  | .jcxz _ => true
  | .inAlIb _ => true
  | .inAxIb _ => true
  | .outIbAl _ => true
  | .outIbAx _ => true
  | .callJv _ => true
  | .jmpJv _ => true
  | .jmpAp _ _ => true
  | .jmpJb _ => true
  | .testEbIb rm _ => rm.wf
  | .testEbIbReg1 rm _ => rm.wf
  | .testEvIv rm _ => rm.wf
  | .testEvIvReg1 rm _ => rm.wf
  | .notEbEv rm => rm.wf
  | .negEbEv rm => rm.wf
  | .mulEbEv rm => rm.wf
  | .imulEbEv rm => rm.wf
  | .divEbEv rm => rm.wf
  | .idivEbEv rm => rm.wf
  | .incEbEv rm => rm.wf
  | .decEbEv rm => rm.wf
  | .callEv rm => rm.wf
  | .callMpMod01 m => m.wf && !m.isMod2
  | .callMpMod2 m => m.wf && m.isMod2
  | .callMpMod3 _ => true
  | .jmpEv rm => rm.wf
  | .jmpMpMod01 m => m.wf && !m.isMod2
  | .jmpMpMod2 m => m.wf && m.isMod2
  | .jmpMpMod3 _ => true
  | .pushEv rm => rm.wf
  | .pushEvReg7 rm => rm.wf
  | .ext0F op2 => !isExtOpcode op2
  | .boundMod01 _ m => m.wf && !m.isMod2
  | .boundMod2 _ m => m.wf && m.isMod2
  | .pushIv _ => true
  | .imulGvEvIv _ rm _ => rm.wf
  | .pushIbs _ => true
  | .imulGvEvIbs _ rm _ => rm.wf
  | .rolEbEvIb rm _ => rm.wf
  | .rorEbEvIb rm _ => rm.wf
  | .rclEbEvIb rm _ => rm.wf
  | .rcrEbEvIb rm _ => rm.wf
  | .shlEbEvIb rm _ => rm.wf
  | .shrEbEvIb rm _ => rm.wf
  | .sarEbEvIb rm _ => rm.wf
  | .enter _ _ => true
  | .pushEs => true
  | .popEs => true
  | .pushCs => true
  | .popCs => true
  | .pushSs => true
  | .popSs => true
  | .pushDs => true
  | .popDs => true
  | .segEs => true
  | .daa => true
  | .segCs => true
  | .das => true
  | .segSs => true
  | .aaa => true
  | .segDs => true
  | .aas => true
  | .nop => true
  | .xchgAxCx => true
  | .xchgAxDx => true
  | .xchgAxBx => true
  | .xchgAxSp => true
  | .xchgAxBp => true
  | .xchgAxSi => true
  | .xchgAxDi => true
  | .cbw => true
  | .cwd => true
  | .wait => true
  | .pushf => true
  | .popf => true
  | .sahf => true
  | .lahf => true
  | .movsb => true
  | .movsw => true
  | .cmpsb => true
  | .cmpsw => true
  | .stosb => true
  | .stosw => true
  | .lodsb => true
  | .lodsw => true
  | .scasb => true
  | .scasw => true
  | .retC1 => true
  | .ret => true
  | .retfC9 => true
  | .retf => true
  | .int3 => true
  | .into => true
  | .iret => true
  | .salc => true
  | .xlat => true
  | .inAlDx => true
  | .inAxDx => true
  | .outDxAl => true
  | .outDxAx => true
  | .lock => true
  | .lockF1 => true
  | .repne => true
  | .rep => true
  | .hlt => true
  | .cmc => true
  | .clc => true
  | .stc => true
  | .cli => true
  | .sti => true
  | .cld => true
  | .std => true
  | .fe2 => true
  | .fe3 => true
  | .fe4 => true
  | .fe5 => true
  | .fe6 => true
  | .fe7 => true
  | .pusha => true
  | .popa => true
  | .undef62Mod3 => true
  | .undef63 => true
  | .repnc => true
  | .repc => true
  | .undef66 => true
  | .undef67 => true
  | .insb => true
  | .insw => true
  | .outsb => true
  | .outsw => true
  | .undefC0Reg6 => true
  | .leave => true
  | .undefD0Reg6 => true
  | .undefD6 => true
  | .undefF1 => true
  | .undefFe2 => true
  | .undefFe3 => true
  | .undefFe4 => true
  | .undefFe5 => true
  | .undefFe6 => true
  | .undefFe7 => true
  | .undef8DMod3 => true
  | .undefC4Mod3 => true
  | .undefC5Mod3 => true
  | .undefFfReg3 => true
  | .undefFfReg5 => true
  | .add4s => true
  | .sub4s => true
  | .cmp4s => true
  | .test1EbCl => true
  | .test1EvCl => true
  | .clr1EbCl => true
  | .clr1EvCl => true
  | .set1EbCl => true
  | .set1EvCl => true
  | .not1EbCl => true
  | .not1EvCl => true
  | .test1EbIb => true
  | .test1EvIb => true
  | .clr1EbIb => true
  | .clr1EvIb => true
  | .set1EbIb => true
  | .set1EvIb => true
  | .not1EbIb => true
  | .not1EvIb => true
  | .rol4 => true
  | .ror4 => true
  | .insFieldReg => true
  | .insFieldImm => true
  | .extFieldReg => true
  | .extFieldImm => true
  | .brkem => true

/-- The CPUs on which a row of the opcode table applies. -/
inductive CpuSet where
  | both | intelOnly | necOnly
  deriving DecidableEq, Repr

/-- Rows of `cpu` V20/V30 replace the 8088/8086 rows that overlap them (30_encoding.md R201, 47_v20_v30_extensions.md R598). -/
def Instr.cpus : Instr → CpuSet
  | .addEbGb _ _ => .both
  | .addEvGv _ _ => .both
  | .addGbEb _ _ => .both
  | .addGvEv _ _ => .both
  | .addAlIb _ => .both
  | .addAxIv _ => .both
  | .orEbGb _ _ => .both
  | .orEvGv _ _ => .both
  | .orGbEb _ _ => .both
  | .orGvEv _ _ => .both
  | .orAlIb _ => .both
  | .orAxIv _ => .both
  | .adcEbGb _ _ => .both
  | .adcEvGv _ _ => .both
  | .adcGbEb _ _ => .both
  | .adcGvEv _ _ => .both
  | .adcAlIb _ => .both
  | .adcAxIv _ => .both
  | .sbbEbGb _ _ => .both
  | .sbbEvGv _ _ => .both
  | .sbbGbEb _ _ => .both
  | .sbbGvEv _ _ => .both
  | .sbbAlIb _ => .both
  | .sbbAxIv _ => .both
  | .andEbGb _ _ => .both
  | .andEvGv _ _ => .both
  | .andGbEb _ _ => .both
  | .andGvEv _ _ => .both
  | .andAlIb _ => .both
  | .andAxIv _ => .both
  | .subEbGb _ _ => .both
  | .subEvGv _ _ => .both
  | .subGbEb _ _ => .both
  | .subGvEv _ _ => .both
  | .subAlIb _ => .both
  | .subAxIv _ => .both
  | .xorEbGb _ _ => .both
  | .xorEvGv _ _ => .both
  | .xorGbEb _ _ => .both
  | .xorGvEv _ _ => .both
  | .xorAlIb _ => .both
  | .xorAxIv _ => .both
  | .cmpEbGb _ _ => .both
  | .cmpEvGv _ _ => .both
  | .cmpGbEb _ _ => .both
  | .cmpGvEv _ _ => .both
  | .cmpAlIb _ => .both
  | .cmpAxIv _ => .both
  | .incR16 _ => .both
  | .decR16 _ => .both
  | .pushR16 _ => .both
  | .popR16 _ => .both
  | .joDup60 _ => .intelOnly
  | .jnoDup61 _ => .intelOnly
  | .jbDup62 _ => .intelOnly
  | .jnbDup63 _ => .intelOnly
  | .jzDup64 _ => .intelOnly
  | .jnzDup65 _ => .intelOnly
  | .jbeDup66 _ => .intelOnly
  | .jaDup67 _ => .intelOnly
  | .jsDup68 _ => .intelOnly
  | .jnsDup69 _ => .intelOnly
  | .jpDup6A _ => .intelOnly
  | .jnpDup6B _ => .intelOnly
  | .jlDup6C _ => .intelOnly
  | .jgeDup6D _ => .intelOnly
  | .jleDup6E _ => .intelOnly
  | .jgDup6F _ => .intelOnly
  | .jo _ => .both
  | .jno _ => .both
  | .jb _ => .both
  | .jnb _ => .both
  | .jz _ => .both
  | .jnz _ => .both
  | .jbe _ => .both
  | .ja _ => .both
  | .js _ => .both
  | .jns _ => .both
  | .jp _ => .both
  | .jnp _ => .both
  | .jl _ => .both
  | .jge _ => .both
  | .jle _ => .both
  | .jg _ => .both
  | .addEbIb _ _ => .both
  | .orEbIb _ _ => .both
  | .adcEbIb _ _ => .both
  | .sbbEbIb _ _ => .both
  | .andEbIb _ _ => .both
  | .subEbIb _ _ => .both
  | .xorEbIb _ _ => .both
  | .cmpEbIb _ _ => .both
  | .addEvIv _ _ => .both
  | .orEvIv _ _ => .both
  | .adcEvIv _ _ => .both
  | .sbbEvIv _ _ => .both
  | .andEvIv _ _ => .both
  | .subEvIv _ _ => .both
  | .xorEvIv _ _ => .both
  | .cmpEvIv _ _ => .both
  | .addEbIb82 _ _ => .both
  | .orEbIb82 _ _ => .both
  | .adcEbIb82 _ _ => .both
  | .sbbEbIb82 _ _ => .both
  | .andEbIb82 _ _ => .both
  | .subEbIb82 _ _ => .both
  | .xorEbIb82 _ _ => .both
  | .cmpEbIb82 _ _ => .both
  | .addEvIbs _ _ => .both
  | .orEvIbs _ _ => .both
  | .adcEvIbs _ _ => .both
  | .sbbEvIbs _ _ => .both
  | .andEvIbs _ _ => .both
  | .subEvIbs _ _ => .both
  | .xorEvIbs _ _ => .both
  | .cmpEvIbs _ _ => .both
  | .testEbGb _ _ => .both
  | .testEvGv _ _ => .both
  | .xchgEbGb _ _ => .both
  | .xchgEvGv _ _ => .both
  | .movEbGb _ _ => .both
  | .movEvGv _ _ => .both
  | .movGbEb _ _ => .both
  | .movGvEv _ _ => .both
  | .movEwSw _ _ => .both
  | .movEwSwHigh _ _ => .both
  | .leaMod01 _ _ => .both
  | .leaMod2 _ _ => .both
  | .leaMod3 _ _ => .intelOnly
  | .movEsEw _ => .both
  | .movCsEw _ => .both
  | .movSsEw _ => .both
  | .movDsEw _ => .both
  | .movEsEw4 _ => .both
  | .movCsEw5 _ => .both
  | .movSsEw6 _ => .both
  | .movDsEw7 _ => .both
  | .popEv _ => .both
  | .popEvReg1 _ => .both
  | .popEvReg2 _ => .both
  | .popEvReg3 _ => .both
  | .popEvReg4 _ => .both
  | .popEvReg5 _ => .both
  | .popEvReg6 _ => .both
  | .popEvReg7 _ => .both
  | .callAp _ _ => .both
  | .movAlOb _ => .both
  | .movAxOv _ => .both
  | .movObAl _ => .both
  | .movOvAx _ => .both
  | .testAlIb _ => .both
  | .testAxIv _ => .both
  | .movR8Ib _ _ => .both
  | .movR16Iv _ _ => .both
  | .retIwC0 _ => .intelOnly
  | .retIw _ => .both
  | .lesMod01 _ _ => .both
  | .lesMod2 _ _ => .both
  | .lesMod3 _ _ => .intelOnly
  | .ldsMod01 _ _ => .both
  | .ldsMod2 _ _ => .both
  | .ldsMod3 _ _ => .intelOnly
  | .movEbIb _ _ => .both
  | .movEbIbReg1 _ _ => .both
  | .movEbIbReg2 _ _ => .both
  | .movEbIbReg3 _ _ => .both
  | .movEbIbReg4 _ _ => .both
  | .movEbIbReg5 _ _ => .both
  | .movEbIbReg6 _ _ => .both
  | .movEbIbReg7 _ _ => .both
  | .movEvIv _ _ => .both
  | .movEvIvReg1 _ _ => .both
  | .movEvIvReg2 _ _ => .both
  | .movEvIvReg3 _ _ => .both
  | .movEvIvReg4 _ _ => .both
  | .movEvIvReg5 _ _ => .both
  | .movEvIvReg6 _ _ => .both
  | .movEvIvReg7 _ _ => .both
  | .retfIwC8 _ => .intelOnly
  | .retfIw _ => .both
  | .intIb _ => .both
  | .rolEbEv _ _ => .both
  | .rorEbEv _ _ => .both
  | .rclEbEv _ _ => .both
  | .rcrEbEv _ _ => .both
  | .shlEbEv _ _ => .both
  | .shrEbEv _ _ => .both
  | .setmo _ => .intelOnly
  | .setmoc _ => .intelOnly
  | .sarEbEv _ _ => .both
  | .aamIb _ => .both
  | .aadIb _ => .both
  | .esc _ _ _ => .both
  | .loopnz _ => .both
  | .loopz _ => .both
  | .loop _ => .both
  | .jcxz _ => .both
  | .inAlIb _ => .both
  | .inAxIb _ => .both
  | .outIbAl _ => .both
  | .outIbAx _ => .both
  | .callJv _ => .both
  | .jmpJv _ => .both
  | .jmpAp _ _ => .both
  | .jmpJb _ => .both
  | .testEbIb _ _ => .both
  | .testEbIbReg1 _ _ => .both
  | .testEvIv _ _ => .both
  | .testEvIvReg1 _ _ => .both
  | .notEbEv _ => .both
  | .negEbEv _ => .both
  | .mulEbEv _ => .both
  | .imulEbEv _ => .both
  | .divEbEv _ => .both
  | .idivEbEv _ => .both
  | .incEbEv _ => .both
  | .decEbEv _ => .both
  | .callEv _ => .both
  | .callMpMod01 _ => .both
  | .callMpMod2 _ => .both
  | .callMpMod3 _ => .intelOnly
  | .jmpEv _ => .both
  | .jmpMpMod01 _ => .both
  | .jmpMpMod2 _ => .both
  | .jmpMpMod3 _ => .intelOnly
  | .pushEv _ => .both
  | .pushEvReg7 _ => .both
  | .ext0F _ => .necOnly
  | .boundMod01 _ _ => .necOnly
  | .boundMod2 _ _ => .necOnly
  | .pushIv _ => .necOnly
  | .imulGvEvIv _ _ _ => .necOnly
  | .pushIbs _ => .necOnly
  | .imulGvEvIbs _ _ _ => .necOnly
  | .rolEbEvIb _ _ => .necOnly
  | .rorEbEvIb _ _ => .necOnly
  | .rclEbEvIb _ _ => .necOnly
  | .rcrEbEvIb _ _ => .necOnly
  | .shlEbEvIb _ _ => .necOnly
  | .shrEbEvIb _ _ => .necOnly
  | .sarEbEvIb _ _ => .necOnly
  | .enter _ _ => .necOnly
  | .pushEs => .both
  | .popEs => .both
  | .pushCs => .both
  | .popCs => .intelOnly
  | .pushSs => .both
  | .popSs => .both
  | .pushDs => .both
  | .popDs => .both
  | .segEs => .both
  | .daa => .both
  | .segCs => .both
  | .das => .both
  | .segSs => .both
  | .aaa => .both
  | .segDs => .both
  | .aas => .both
  | .nop => .both
  | .xchgAxCx => .both
  | .xchgAxDx => .both
  | .xchgAxBx => .both
  | .xchgAxSp => .both
  | .xchgAxBp => .both
  | .xchgAxSi => .both
  | .xchgAxDi => .both
  | .cbw => .both
  | .cwd => .both
  | .wait => .both
  | .pushf => .both
  | .popf => .both
  | .sahf => .both
  | .lahf => .both
  | .movsb => .both
  | .movsw => .both
  | .cmpsb => .both
  | .cmpsw => .both
  | .stosb => .both
  | .stosw => .both
  | .lodsb => .both
  | .lodsw => .both
  | .scasb => .both
  | .scasw => .both
  | .retC1 => .intelOnly
  | .ret => .both
  | .retfC9 => .intelOnly
  | .retf => .both
  | .int3 => .both
  | .into => .both
  | .iret => .both
  | .salc => .intelOnly
  | .xlat => .both
  | .inAlDx => .both
  | .inAxDx => .both
  | .outDxAl => .both
  | .outDxAx => .both
  | .lock => .both
  | .lockF1 => .intelOnly
  | .repne => .both
  | .rep => .both
  | .hlt => .both
  | .cmc => .both
  | .clc => .both
  | .stc => .both
  | .cli => .both
  | .sti => .both
  | .cld => .both
  | .std => .both
  | .fe2 => .intelOnly
  | .fe3 => .intelOnly
  | .fe4 => .intelOnly
  | .fe5 => .intelOnly
  | .fe6 => .intelOnly
  | .fe7 => .intelOnly
  | .pusha => .necOnly
  | .popa => .necOnly
  | .undef62Mod3 => .necOnly
  | .undef63 => .necOnly
  | .repnc => .necOnly
  | .repc => .necOnly
  | .undef66 => .necOnly
  | .undef67 => .necOnly
  | .insb => .necOnly
  | .insw => .necOnly
  | .outsb => .necOnly
  | .outsw => .necOnly
  | .undefC0Reg6 => .necOnly
  | .leave => .necOnly
  | .undefD0Reg6 => .necOnly
  | .undefD6 => .necOnly
  | .undefF1 => .necOnly
  | .undefFe2 => .necOnly
  | .undefFe3 => .necOnly
  | .undefFe4 => .necOnly
  | .undefFe5 => .necOnly
  | .undefFe6 => .necOnly
  | .undefFe7 => .necOnly
  | .undef8DMod3 => .necOnly
  | .undefC4Mod3 => .necOnly
  | .undefC5Mod3 => .necOnly
  | .undefFfReg3 => .necOnly
  | .undefFfReg5 => .necOnly
  | .add4s => .necOnly
  | .sub4s => .necOnly
  | .cmp4s => .necOnly
  | .test1EbCl => .necOnly
  | .test1EvCl => .necOnly
  | .clr1EbCl => .necOnly
  | .clr1EvCl => .necOnly
  | .set1EbCl => .necOnly
  | .set1EvCl => .necOnly
  | .not1EbCl => .necOnly
  | .not1EvCl => .necOnly
  | .test1EbIb => .necOnly
  | .test1EvIb => .necOnly
  | .clr1EbIb => .necOnly
  | .clr1EvIb => .necOnly
  | .set1EbIb => .necOnly
  | .set1EvIb => .necOnly
  | .not1EbIb => .necOnly
  | .not1EvIb => .necOnly
  | .rol4 => .necOnly
  | .ror4 => .necOnly
  | .insFieldReg => .necOnly
  | .insFieldImm => .necOnly
  | .extFieldReg => .necOnly
  | .extFieldImm => .necOnly
  | .brkem => .necOnly

/-- The CPU is one of the NEC parts (00_scope.md R9). -/
def CpuModel.isNec : CpuModel → Bool
  | .i8088 => false
  | .i8086 => false
  | .v20 => true
  | .v30 => true

/-- The row applies on this CPU. -/
def Instr.on (cpu : CpuModel) (i : Instr) : Bool :=
  match i.cpus with
  | .both => true
  | .intelOnly => !cpu.isNec
  | .necOnly => cpu.isNec

end Sys2Proof
end

