-- ==== Sys2Proof/Decode.lean ====
section
/-! DEFINITION. The decoder from bytes to instructions and the encoder, both from 30_encoding.md R190 to R204 and
31_modrm_ea.md R232 (8088/8086), 47_v20_v30_extensions.md R580 to R598 (V20/V30); and the byte-order and sign-extension
helpers that they and the machine use. -/
namespace Sys2Proof

/-! ### Byte order and extension (20_memory.md R73, 30_encoding.md R197) -/

/-- The word whose byte at the lower address is `lo` (20_memory.md R73). -/
def wordOf (lo hi : Byte) : Word := (hi.setWidth 16 <<< 8) ||| lo.setWidth 16

def loByte (w : Word) : Byte := w.setWidth 8
def hiByte (w : Word) : Byte := (w >>> 8).setWidth 8

/-- The two bytes of a word in memory order (20_memory.md R73). -/
def wordBytes (w : Word) : List Byte := [loByte w, hiByte w]

/-- `sext_16` of a byte (00_scope.md R11). -/
def sext16 (b : Byte) : Word := b.signExtend 16

/-- `zext_16` of a byte (00_scope.md R11). -/
def zext16 (b : Byte) : Word := b.setWidth 16

/-! ### Register numbers (10_state.md R22, R23, R41; 31_modrm_ea.md R232) -/

def Reg8.code : Reg8 → BitVec 3
  | .al => 0 | .cl => 1 | .dl => 2 | .bl => 3 | .ah => 4 | .ch => 5 | .dh => 6 | .bh => 7

def Reg8.ofCode (n : BitVec 3) : Reg8 :=
  match n.toNat with
  | 0 => .al | 1 => .cl | 2 => .dl | 3 => .bl | 4 => .ah | 5 => .ch | 6 => .dh | _ => .bh

/-- The 16-bit register that holds an 8-bit one (10_state.md R23). -/
def Reg8.parent : Reg8 → Reg16
  | .al => .ax
  | .ah => .ax
  | .cl => .cx
  | .ch => .cx
  | .dl => .dx
  | .dh => .dx
  | .bl => .bx
  | .bh => .bx

/-- The 8-bit register is the high half (10_state.md R23). -/
def Reg8.isHigh : Reg8 → Bool
  | .ah => true
  | .ch => true
  | .dh => true
  | .bh => true
  | .al => false
  | .cl => false
  | .dl => false
  | .bl => false

def Reg16.code : Reg16 → BitVec 3
  | .ax => 0 | .cx => 1 | .dx => 2 | .bx => 3 | .sp => 4 | .bp => 5 | .si => 6 | .di => 7

def Reg16.ofCode (n : BitVec 3) : Reg16 :=
  match n.toNat with
  | 0 => .ax | 1 => .cx | 2 => .dx | 3 => .bx | 4 => .sp | 5 => .bp | 6 => .si | _ => .di

def SReg.code : SReg → BitVec 3
  | .es => 0 | .cs => 1 | .ss => 2 | .ds => 3

/-- Bit 2 of the `reg` field is not decoded (46_undefined_opcodes.md R560). -/
def SReg.ofCode (n : BitVec 3) : SReg :=
  match n.toNat % 4 with
  | 0 => .es | 1 => .cs | 2 => .ss | _ => .ds

def Base.code : Base → BitVec 3
  | .bxsi => 0 | .bxdi => 1 | .bpsi => 2 | .bpdi => 3 | .si => 4 | .di => 5 | .bp => 6 | .bx => 7

def Base.ofCode (n : BitVec 3) : Base :=
  match n.toNat with
  | 0 => .bxsi | 1 => .bxdi | 2 => .bpsi | 3 => .bpdi | 4 => .si | 5 => .di | 6 => .bp | _ => .bx

/-! ### Results of decoding -/

/-- Why bytes are not an instruction. Every first byte has a meaning (30_encoding.md R204), so only bytes that end before
the instruction does are rejected. -/
inductive DecodeError where
  | truncated
  deriving DecidableEq, Repr

/-- A decoded instruction with the bytes after it, or the reason why there is none. -/
inductive DecodeResult where
  | ok (i : Instr) (rest : List Byte)
  | rejected (e : DecodeError)
  deriving DecidableEq, Repr

/-! ### Reading the parts of an instruction -/

/-- Take one byte. -/
def withByte (bs : List Byte) (k : Byte → List Byte → DecodeResult) : DecodeResult :=
  match bs with
  | b :: bs => k b bs
  | [] => .rejected .truncated

/-- Take a word, low byte first (30_encoding.md R197). -/
def withWord (bs : List Byte) (k : Word → List Byte → DecodeResult) : DecodeResult :=
  match bs with
  | lo :: hi :: bs => k (wordOf lo hi) bs
  | [_] => .rejected .truncated
  | [] => .rejected .truncated

/-- What `mod` and `rm` select, before the width is known: a register number or a memory form. -/
inductive RMRaw where
  | reg (n : BitVec 3)
  | mem (m : Mem)
  deriving DecidableEq, Repr

def RMRaw.rm8 : RMRaw → RM8
  | .reg n => .reg (Reg8.ofCode n)
  | .mem m => .mem m

def RMRaw.rm16 : RMRaw → RM16
  | .reg n => .reg (Reg16.ofCode n)
  | .mem m => .mem m

/-- The width is bit 0 of the opcode byte (30_encoding.md R194). -/
def RMRaw.rmw (rm : RMRaw) (op : Byte) : RMW :=
  if op.getLsbD 0 then .word rm.rm16 else .byte rm.rm8

/-- Bit 1 of the opcode byte: count 1 or CL (42_logic_shift_rotate.md R406). -/
def ShiftCount.ofBit (op : Byte) : ShiftCount :=
  if op.getLsbD 1 then .cl else .one

/-- Read the ModR/M byte and its displacement: the `reg` field, what `mod` and `rm` select, and the bytes after them
(30_encoding.md R195, R196; 31_modrm_ea.md R232). -/
def readRM (bs : List Byte) : Option (BitVec 3 × RMRaw × List Byte) :=
  match bs with
  | [] => none
  | x :: bs =>
    let reg := x.extractLsb' 3 3
    let rm := x.extractLsb' 0 3
    match (x.extractLsb' 6 2).toNat, bs with
    | 0, bs =>
      if rm = 6#3 then
        match bs with
        | lo :: hi :: bs => some (reg, .mem (.direct (wordOf lo hi)), bs)
        | [_] => none
        | [] => none
      else some (reg, .mem (.ind (Base.ofCode rm)), bs)
    | 1, d :: bs => some (reg, .mem (.disp8 (Base.ofCode rm) d), bs)
    | 1, [] => none
    | 2, lo :: hi :: bs => some (reg, .mem (.disp16 (Base.ofCode rm) (wordOf lo hi)), bs)
    | 2, [_] => none
    | 2, [] => none
    | _, bs => some (reg, .reg rm, bs)

/-- Take the ModR/M byte and its displacement. -/
def withRM (bs : List Byte) (k : BitVec 3 → RMRaw → List Byte → DecodeResult) : DecodeResult :=
  match readRM bs with
  | some (reg, rm, rest) => k reg rm rest
  | none => .rejected .truncated

/-! ### The opcode map -/

/-- First bytes 0x00 to 0x0F of the 8088/8086 (30_encoding.md R202, R203, 46_undefined_opcodes.md). -/
def decodeRow0 (b : Byte) (bs : List Byte) : DecodeResult :=
  match b.toNat % 16 with
  | 0 => withRM bs fun reg rm bs => .ok (.addEbGb rm.rm8 (Reg8.ofCode reg)) bs
  | 1 => withRM bs fun reg rm bs => .ok (.addEvGv rm.rm16 (Reg16.ofCode reg)) bs
  | 2 => withRM bs fun reg rm bs => .ok (.addGbEb (Reg8.ofCode reg) rm.rm8) bs
  | 3 => withRM bs fun reg rm bs => .ok (.addGvEv (Reg16.ofCode reg) rm.rm16) bs
  | 4 => withByte bs fun imm bs => .ok (.addAlIb imm) bs
  | 5 => withWord bs fun imm bs => .ok (.addAxIv imm) bs
  | 6 => .ok .pushEs bs
  | 7 => .ok .popEs bs
  | 8 => withRM bs fun reg rm bs => .ok (.orEbGb rm.rm8 (Reg8.ofCode reg)) bs
  | 9 => withRM bs fun reg rm bs => .ok (.orEvGv rm.rm16 (Reg16.ofCode reg)) bs
  | 10 => withRM bs fun reg rm bs => .ok (.orGbEb (Reg8.ofCode reg) rm.rm8) bs
  | 11 => withRM bs fun reg rm bs => .ok (.orGvEv (Reg16.ofCode reg) rm.rm16) bs
  | 12 => withByte bs fun imm bs => .ok (.orAlIb imm) bs
  | 13 => withWord bs fun imm bs => .ok (.orAxIv imm) bs
  | 14 => .ok .pushCs bs
  | _ => .ok .popCs bs

/-- First bytes 0x10 to 0x1F of the 8088/8086 (30_encoding.md R202, R203, 46_undefined_opcodes.md). -/
def decodeRow1 (b : Byte) (bs : List Byte) : DecodeResult :=
  match b.toNat % 16 with
  | 0 => withRM bs fun reg rm bs => .ok (.adcEbGb rm.rm8 (Reg8.ofCode reg)) bs
  | 1 => withRM bs fun reg rm bs => .ok (.adcEvGv rm.rm16 (Reg16.ofCode reg)) bs
  | 2 => withRM bs fun reg rm bs => .ok (.adcGbEb (Reg8.ofCode reg) rm.rm8) bs
  | 3 => withRM bs fun reg rm bs => .ok (.adcGvEv (Reg16.ofCode reg) rm.rm16) bs
  | 4 => withByte bs fun imm bs => .ok (.adcAlIb imm) bs
  | 5 => withWord bs fun imm bs => .ok (.adcAxIv imm) bs
  | 6 => .ok .pushSs bs
  | 7 => .ok .popSs bs
  | 8 => withRM bs fun reg rm bs => .ok (.sbbEbGb rm.rm8 (Reg8.ofCode reg)) bs
  | 9 => withRM bs fun reg rm bs => .ok (.sbbEvGv rm.rm16 (Reg16.ofCode reg)) bs
  | 10 => withRM bs fun reg rm bs => .ok (.sbbGbEb (Reg8.ofCode reg) rm.rm8) bs
  | 11 => withRM bs fun reg rm bs => .ok (.sbbGvEv (Reg16.ofCode reg) rm.rm16) bs
  | 12 => withByte bs fun imm bs => .ok (.sbbAlIb imm) bs
  | 13 => withWord bs fun imm bs => .ok (.sbbAxIv imm) bs
  | 14 => .ok .pushDs bs
  | _ => .ok .popDs bs

/-- First bytes 0x20 to 0x2F of the 8088/8086 (30_encoding.md R202, R203, 46_undefined_opcodes.md). -/
def decodeRow2 (b : Byte) (bs : List Byte) : DecodeResult :=
  match b.toNat % 16 with
  | 0 => withRM bs fun reg rm bs => .ok (.andEbGb rm.rm8 (Reg8.ofCode reg)) bs
  | 1 => withRM bs fun reg rm bs => .ok (.andEvGv rm.rm16 (Reg16.ofCode reg)) bs
  | 2 => withRM bs fun reg rm bs => .ok (.andGbEb (Reg8.ofCode reg) rm.rm8) bs
  | 3 => withRM bs fun reg rm bs => .ok (.andGvEv (Reg16.ofCode reg) rm.rm16) bs
  | 4 => withByte bs fun imm bs => .ok (.andAlIb imm) bs
  | 5 => withWord bs fun imm bs => .ok (.andAxIv imm) bs
  | 6 => .ok .segEs bs
  | 7 => .ok .daa bs
  | 8 => withRM bs fun reg rm bs => .ok (.subEbGb rm.rm8 (Reg8.ofCode reg)) bs
  | 9 => withRM bs fun reg rm bs => .ok (.subEvGv rm.rm16 (Reg16.ofCode reg)) bs
  | 10 => withRM bs fun reg rm bs => .ok (.subGbEb (Reg8.ofCode reg) rm.rm8) bs
  | 11 => withRM bs fun reg rm bs => .ok (.subGvEv (Reg16.ofCode reg) rm.rm16) bs
  | 12 => withByte bs fun imm bs => .ok (.subAlIb imm) bs
  | 13 => withWord bs fun imm bs => .ok (.subAxIv imm) bs
  | 14 => .ok .segCs bs
  | _ => .ok .das bs

/-- First bytes 0x30 to 0x3F of the 8088/8086 (30_encoding.md R202, R203, 46_undefined_opcodes.md). -/
def decodeRow3 (b : Byte) (bs : List Byte) : DecodeResult :=
  match b.toNat % 16 with
  | 0 => withRM bs fun reg rm bs => .ok (.xorEbGb rm.rm8 (Reg8.ofCode reg)) bs
  | 1 => withRM bs fun reg rm bs => .ok (.xorEvGv rm.rm16 (Reg16.ofCode reg)) bs
  | 2 => withRM bs fun reg rm bs => .ok (.xorGbEb (Reg8.ofCode reg) rm.rm8) bs
  | 3 => withRM bs fun reg rm bs => .ok (.xorGvEv (Reg16.ofCode reg) rm.rm16) bs
  | 4 => withByte bs fun imm bs => .ok (.xorAlIb imm) bs
  | 5 => withWord bs fun imm bs => .ok (.xorAxIv imm) bs
  | 6 => .ok .segSs bs
  | 7 => .ok .aaa bs
  | 8 => withRM bs fun reg rm bs => .ok (.cmpEbGb rm.rm8 (Reg8.ofCode reg)) bs
  | 9 => withRM bs fun reg rm bs => .ok (.cmpEvGv rm.rm16 (Reg16.ofCode reg)) bs
  | 10 => withRM bs fun reg rm bs => .ok (.cmpGbEb (Reg8.ofCode reg) rm.rm8) bs
  | 11 => withRM bs fun reg rm bs => .ok (.cmpGvEv (Reg16.ofCode reg) rm.rm16) bs
  | 12 => withByte bs fun imm bs => .ok (.cmpAlIb imm) bs
  | 13 => withWord bs fun imm bs => .ok (.cmpAxIv imm) bs
  | 14 => .ok .segDs bs
  | _ => .ok .aas bs

/-- First bytes 0x40 to 0x4F of the 8088/8086 (30_encoding.md R202, R203, 46_undefined_opcodes.md). -/
def decodeRow4 (b : Byte) (bs : List Byte) : DecodeResult :=
  match b.toNat % 16 with
  | 0 => .ok (.incR16 (Reg16.ofCode (b.extractLsb' 0 3))) bs
  | 1 => .ok (.incR16 (Reg16.ofCode (b.extractLsb' 0 3))) bs
  | 2 => .ok (.incR16 (Reg16.ofCode (b.extractLsb' 0 3))) bs
  | 3 => .ok (.incR16 (Reg16.ofCode (b.extractLsb' 0 3))) bs
  | 4 => .ok (.incR16 (Reg16.ofCode (b.extractLsb' 0 3))) bs
  | 5 => .ok (.incR16 (Reg16.ofCode (b.extractLsb' 0 3))) bs
  | 6 => .ok (.incR16 (Reg16.ofCode (b.extractLsb' 0 3))) bs
  | 7 => .ok (.incR16 (Reg16.ofCode (b.extractLsb' 0 3))) bs
  | 8 => .ok (.decR16 (Reg16.ofCode (b.extractLsb' 0 3))) bs
  | 9 => .ok (.decR16 (Reg16.ofCode (b.extractLsb' 0 3))) bs
  | 10 => .ok (.decR16 (Reg16.ofCode (b.extractLsb' 0 3))) bs
  | 11 => .ok (.decR16 (Reg16.ofCode (b.extractLsb' 0 3))) bs
  | 12 => .ok (.decR16 (Reg16.ofCode (b.extractLsb' 0 3))) bs
  | 13 => .ok (.decR16 (Reg16.ofCode (b.extractLsb' 0 3))) bs
  | 14 => .ok (.decR16 (Reg16.ofCode (b.extractLsb' 0 3))) bs
  | _ => .ok (.decR16 (Reg16.ofCode (b.extractLsb' 0 3))) bs

/-- First bytes 0x50 to 0x5F of the 8088/8086 (30_encoding.md R202, R203, 46_undefined_opcodes.md). -/
def decodeRow5 (b : Byte) (bs : List Byte) : DecodeResult :=
  match b.toNat % 16 with
  | 0 => .ok (.pushR16 (Reg16.ofCode (b.extractLsb' 0 3))) bs
  | 1 => .ok (.pushR16 (Reg16.ofCode (b.extractLsb' 0 3))) bs
  | 2 => .ok (.pushR16 (Reg16.ofCode (b.extractLsb' 0 3))) bs
  | 3 => .ok (.pushR16 (Reg16.ofCode (b.extractLsb' 0 3))) bs
  | 4 => .ok (.pushR16 (Reg16.ofCode (b.extractLsb' 0 3))) bs
  | 5 => .ok (.pushR16 (Reg16.ofCode (b.extractLsb' 0 3))) bs
  | 6 => .ok (.pushR16 (Reg16.ofCode (b.extractLsb' 0 3))) bs
  | 7 => .ok (.pushR16 (Reg16.ofCode (b.extractLsb' 0 3))) bs
  | 8 => .ok (.popR16 (Reg16.ofCode (b.extractLsb' 0 3))) bs
  | 9 => .ok (.popR16 (Reg16.ofCode (b.extractLsb' 0 3))) bs
  | 10 => .ok (.popR16 (Reg16.ofCode (b.extractLsb' 0 3))) bs
  | 11 => .ok (.popR16 (Reg16.ofCode (b.extractLsb' 0 3))) bs
  | 12 => .ok (.popR16 (Reg16.ofCode (b.extractLsb' 0 3))) bs
  | 13 => .ok (.popR16 (Reg16.ofCode (b.extractLsb' 0 3))) bs
  | 14 => .ok (.popR16 (Reg16.ofCode (b.extractLsb' 0 3))) bs
  | _ => .ok (.popR16 (Reg16.ofCode (b.extractLsb' 0 3))) bs

/-- First bytes 0x60 to 0x6F of the 8088/8086 (30_encoding.md R202, R203, 46_undefined_opcodes.md). -/
def decodeRow6 (b : Byte) (bs : List Byte) : DecodeResult :=
  match b.toNat % 16 with
  | 0 => withByte bs fun d bs => .ok (.joDup60 d) bs
  | 1 => withByte bs fun d bs => .ok (.jnoDup61 d) bs
  | 2 => withByte bs fun d bs => .ok (.jbDup62 d) bs
  | 3 => withByte bs fun d bs => .ok (.jnbDup63 d) bs
  | 4 => withByte bs fun d bs => .ok (.jzDup64 d) bs
  | 5 => withByte bs fun d bs => .ok (.jnzDup65 d) bs
  | 6 => withByte bs fun d bs => .ok (.jbeDup66 d) bs
  | 7 => withByte bs fun d bs => .ok (.jaDup67 d) bs
  | 8 => withByte bs fun d bs => .ok (.jsDup68 d) bs
  | 9 => withByte bs fun d bs => .ok (.jnsDup69 d) bs
  | 10 => withByte bs fun d bs => .ok (.jpDup6A d) bs
  | 11 => withByte bs fun d bs => .ok (.jnpDup6B d) bs
  | 12 => withByte bs fun d bs => .ok (.jlDup6C d) bs
  | 13 => withByte bs fun d bs => .ok (.jgeDup6D d) bs
  | 14 => withByte bs fun d bs => .ok (.jleDup6E d) bs
  | _ => withByte bs fun d bs => .ok (.jgDup6F d) bs

/-- First bytes 0x70 to 0x7F of the 8088/8086 (30_encoding.md R202, R203, 46_undefined_opcodes.md). -/
def decodeRow7 (b : Byte) (bs : List Byte) : DecodeResult :=
  match b.toNat % 16 with
  | 0 => withByte bs fun d bs => .ok (.jo d) bs
  | 1 => withByte bs fun d bs => .ok (.jno d) bs
  | 2 => withByte bs fun d bs => .ok (.jb d) bs
  | 3 => withByte bs fun d bs => .ok (.jnb d) bs
  | 4 => withByte bs fun d bs => .ok (.jz d) bs
  | 5 => withByte bs fun d bs => .ok (.jnz d) bs
  | 6 => withByte bs fun d bs => .ok (.jbe d) bs
  | 7 => withByte bs fun d bs => .ok (.ja d) bs
  | 8 => withByte bs fun d bs => .ok (.js d) bs
  | 9 => withByte bs fun d bs => .ok (.jns d) bs
  | 10 => withByte bs fun d bs => .ok (.jp d) bs
  | 11 => withByte bs fun d bs => .ok (.jnp d) bs
  | 12 => withByte bs fun d bs => .ok (.jl d) bs
  | 13 => withByte bs fun d bs => .ok (.jge d) bs
  | 14 => withByte bs fun d bs => .ok (.jle d) bs
  | _ => withByte bs fun d bs => .ok (.jg d) bs

/-- First bytes 0x80 to 0x8F of the 8088/8086 (30_encoding.md R202, R203, 46_undefined_opcodes.md). -/
def decodeRow8 (b : Byte) (bs : List Byte) : DecodeResult :=
  match b.toNat % 16 with
  | 0 => withRM bs fun reg rm bs => match reg.toNat with
      | 0 => withByte bs fun imm bs => .ok (.addEbIb rm.rm8 imm) bs
      | 1 => withByte bs fun imm bs => .ok (.orEbIb rm.rm8 imm) bs
      | 2 => withByte bs fun imm bs => .ok (.adcEbIb rm.rm8 imm) bs
      | 3 => withByte bs fun imm bs => .ok (.sbbEbIb rm.rm8 imm) bs
      | 4 => withByte bs fun imm bs => .ok (.andEbIb rm.rm8 imm) bs
      | 5 => withByte bs fun imm bs => .ok (.subEbIb rm.rm8 imm) bs
      | 6 => withByte bs fun imm bs => .ok (.xorEbIb rm.rm8 imm) bs
      | _ => withByte bs fun imm bs => .ok (.cmpEbIb rm.rm8 imm) bs
  | 1 => withRM bs fun reg rm bs => match reg.toNat with
      | 0 => withWord bs fun imm bs => .ok (.addEvIv rm.rm16 imm) bs
      | 1 => withWord bs fun imm bs => .ok (.orEvIv rm.rm16 imm) bs
      | 2 => withWord bs fun imm bs => .ok (.adcEvIv rm.rm16 imm) bs
      | 3 => withWord bs fun imm bs => .ok (.sbbEvIv rm.rm16 imm) bs
      | 4 => withWord bs fun imm bs => .ok (.andEvIv rm.rm16 imm) bs
      | 5 => withWord bs fun imm bs => .ok (.subEvIv rm.rm16 imm) bs
      | 6 => withWord bs fun imm bs => .ok (.xorEvIv rm.rm16 imm) bs
      | _ => withWord bs fun imm bs => .ok (.cmpEvIv rm.rm16 imm) bs
  | 2 => withRM bs fun reg rm bs => match reg.toNat with
      | 0 => withByte bs fun imm bs => .ok (.addEbIb82 rm.rm8 imm) bs
      | 1 => withByte bs fun imm bs => .ok (.orEbIb82 rm.rm8 imm) bs
      | 2 => withByte bs fun imm bs => .ok (.adcEbIb82 rm.rm8 imm) bs
      | 3 => withByte bs fun imm bs => .ok (.sbbEbIb82 rm.rm8 imm) bs
      | 4 => withByte bs fun imm bs => .ok (.andEbIb82 rm.rm8 imm) bs
      | 5 => withByte bs fun imm bs => .ok (.subEbIb82 rm.rm8 imm) bs
      | 6 => withByte bs fun imm bs => .ok (.xorEbIb82 rm.rm8 imm) bs
      | _ => withByte bs fun imm bs => .ok (.cmpEbIb82 rm.rm8 imm) bs
  | 3 => withRM bs fun reg rm bs => match reg.toNat with
      | 0 => withByte bs fun imm bs => .ok (.addEvIbs rm.rm16 imm) bs
      | 1 => withByte bs fun imm bs => .ok (.orEvIbs rm.rm16 imm) bs
      | 2 => withByte bs fun imm bs => .ok (.adcEvIbs rm.rm16 imm) bs
      | 3 => withByte bs fun imm bs => .ok (.sbbEvIbs rm.rm16 imm) bs
      | 4 => withByte bs fun imm bs => .ok (.andEvIbs rm.rm16 imm) bs
      | 5 => withByte bs fun imm bs => .ok (.subEvIbs rm.rm16 imm) bs
      | 6 => withByte bs fun imm bs => .ok (.xorEvIbs rm.rm16 imm) bs
      | _ => withByte bs fun imm bs => .ok (.cmpEvIbs rm.rm16 imm) bs
  | 4 => withRM bs fun reg rm bs => .ok (.testEbGb rm.rm8 (Reg8.ofCode reg)) bs
  | 5 => withRM bs fun reg rm bs => .ok (.testEvGv rm.rm16 (Reg16.ofCode reg)) bs
  | 6 => withRM bs fun reg rm bs => .ok (.xchgEbGb rm.rm8 (Reg8.ofCode reg)) bs
  | 7 => withRM bs fun reg rm bs => .ok (.xchgEvGv rm.rm16 (Reg16.ofCode reg)) bs
  | 8 => withRM bs fun reg rm bs => .ok (.movEbGb rm.rm8 (Reg8.ofCode reg)) bs
  | 9 => withRM bs fun reg rm bs => .ok (.movEvGv rm.rm16 (Reg16.ofCode reg)) bs
  | 10 => withRM bs fun reg rm bs => .ok (.movGbEb (Reg8.ofCode reg) rm.rm8) bs
  | 11 => withRM bs fun reg rm bs => .ok (.movGvEv (Reg16.ofCode reg) rm.rm16) bs
  | 12 => withRM bs fun reg rm bs => match reg.toNat with
      | 0 => .ok (.movEwSw rm.rm16 (SReg.ofCode reg)) bs
      | 1 => .ok (.movEwSw rm.rm16 (SReg.ofCode reg)) bs
      | 2 => .ok (.movEwSw rm.rm16 (SReg.ofCode reg)) bs
      | 3 => .ok (.movEwSw rm.rm16 (SReg.ofCode reg)) bs
      | 4 => .ok (.movEwSwHigh rm.rm16 (SReg.ofCode reg)) bs
      | 5 => .ok (.movEwSwHigh rm.rm16 (SReg.ofCode reg)) bs
      | 6 => .ok (.movEwSwHigh rm.rm16 (SReg.ofCode reg)) bs
      | _ => .ok (.movEwSwHigh rm.rm16 (SReg.ofCode reg)) bs
  | 13 => withRM bs fun reg rm bs => match rm with
      | .reg n => .ok (.leaMod3 (Reg16.ofCode reg) (Reg16.ofCode n)) bs
      | .mem m => if m.isMod2 then .ok (.leaMod2 (Reg16.ofCode reg) m) bs else .ok (.leaMod01 (Reg16.ofCode reg) m) bs
  | 14 => withRM bs fun reg rm bs => match reg.toNat with
      | 0 => .ok (.movEsEw rm.rm16) bs
      | 1 => .ok (.movCsEw rm.rm16) bs
      | 2 => .ok (.movSsEw rm.rm16) bs
      | 3 => .ok (.movDsEw rm.rm16) bs
      | 4 => .ok (.movEsEw4 rm.rm16) bs
      | 5 => .ok (.movCsEw5 rm.rm16) bs
      | 6 => .ok (.movSsEw6 rm.rm16) bs
      | _ => .ok (.movDsEw7 rm.rm16) bs
  | _ => withRM bs fun reg rm bs => match reg.toNat with
      | 0 => .ok (.popEv rm.rm16) bs
      | 1 => .ok (.popEvReg1 rm.rm16) bs
      | 2 => .ok (.popEvReg2 rm.rm16) bs
      | 3 => .ok (.popEvReg3 rm.rm16) bs
      | 4 => .ok (.popEvReg4 rm.rm16) bs
      | 5 => .ok (.popEvReg5 rm.rm16) bs
      | 6 => .ok (.popEvReg6 rm.rm16) bs
      | _ => .ok (.popEvReg7 rm.rm16) bs

/-- First bytes 0x90 to 0x9F of the 8088/8086 (30_encoding.md R202, R203, 46_undefined_opcodes.md). -/
def decodeRow9 (b : Byte) (bs : List Byte) : DecodeResult :=
  match b.toNat % 16 with
  | 0 => .ok .nop bs
  | 1 => .ok .xchgAxCx bs
  | 2 => .ok .xchgAxDx bs
  | 3 => .ok .xchgAxBx bs
  | 4 => .ok .xchgAxSp bs
  | 5 => .ok .xchgAxBp bs
  | 6 => .ok .xchgAxSi bs
  | 7 => .ok .xchgAxDi bs
  | 8 => .ok .cbw bs
  | 9 => .ok .cwd bs
  | 10 => withWord bs fun off bs => withWord bs fun sg bs => .ok (.callAp off sg) bs
  | 11 => .ok .wait bs
  | 12 => .ok .pushf bs
  | 13 => .ok .popf bs
  | 14 => .ok .sahf bs
  | _ => .ok .lahf bs

/-- First bytes 0xA0 to 0xAF of the 8088/8086 (30_encoding.md R202, R203, 46_undefined_opcodes.md). -/
def decodeRowA (b : Byte) (bs : List Byte) : DecodeResult :=
  match b.toNat % 16 with
  | 0 => withWord bs fun o bs => .ok (.movAlOb o) bs
  | 1 => withWord bs fun o bs => .ok (.movAxOv o) bs
  | 2 => withWord bs fun o bs => .ok (.movObAl o) bs
  | 3 => withWord bs fun o bs => .ok (.movOvAx o) bs
  | 4 => .ok .movsb bs
  | 5 => .ok .movsw bs
  | 6 => .ok .cmpsb bs
  | 7 => .ok .cmpsw bs
  | 8 => withByte bs fun imm bs => .ok (.testAlIb imm) bs
  | 9 => withWord bs fun imm bs => .ok (.testAxIv imm) bs
  | 10 => .ok .stosb bs
  | 11 => .ok .stosw bs
  | 12 => .ok .lodsb bs
  | 13 => .ok .lodsw bs
  | 14 => .ok .scasb bs
  | _ => .ok .scasw bs

/-- First bytes 0xB0 to 0xBF of the 8088/8086 (30_encoding.md R202, R203, 46_undefined_opcodes.md). -/
def decodeRowB (b : Byte) (bs : List Byte) : DecodeResult :=
  match b.toNat % 16 with
  | 0 => withByte bs fun imm bs => .ok (.movR8Ib (Reg8.ofCode (b.extractLsb' 0 3)) imm) bs
  | 1 => withByte bs fun imm bs => .ok (.movR8Ib (Reg8.ofCode (b.extractLsb' 0 3)) imm) bs
  | 2 => withByte bs fun imm bs => .ok (.movR8Ib (Reg8.ofCode (b.extractLsb' 0 3)) imm) bs
  | 3 => withByte bs fun imm bs => .ok (.movR8Ib (Reg8.ofCode (b.extractLsb' 0 3)) imm) bs
  | 4 => withByte bs fun imm bs => .ok (.movR8Ib (Reg8.ofCode (b.extractLsb' 0 3)) imm) bs
  | 5 => withByte bs fun imm bs => .ok (.movR8Ib (Reg8.ofCode (b.extractLsb' 0 3)) imm) bs
  | 6 => withByte bs fun imm bs => .ok (.movR8Ib (Reg8.ofCode (b.extractLsb' 0 3)) imm) bs
  | 7 => withByte bs fun imm bs => .ok (.movR8Ib (Reg8.ofCode (b.extractLsb' 0 3)) imm) bs
  | 8 => withWord bs fun imm bs => .ok (.movR16Iv (Reg16.ofCode (b.extractLsb' 0 3)) imm) bs
  | 9 => withWord bs fun imm bs => .ok (.movR16Iv (Reg16.ofCode (b.extractLsb' 0 3)) imm) bs
  | 10 => withWord bs fun imm bs => .ok (.movR16Iv (Reg16.ofCode (b.extractLsb' 0 3)) imm) bs
  | 11 => withWord bs fun imm bs => .ok (.movR16Iv (Reg16.ofCode (b.extractLsb' 0 3)) imm) bs
  | 12 => withWord bs fun imm bs => .ok (.movR16Iv (Reg16.ofCode (b.extractLsb' 0 3)) imm) bs
  | 13 => withWord bs fun imm bs => .ok (.movR16Iv (Reg16.ofCode (b.extractLsb' 0 3)) imm) bs
  | 14 => withWord bs fun imm bs => .ok (.movR16Iv (Reg16.ofCode (b.extractLsb' 0 3)) imm) bs
  | _ => withWord bs fun imm bs => .ok (.movR16Iv (Reg16.ofCode (b.extractLsb' 0 3)) imm) bs

/-- First bytes 0xC0 to 0xCF of the 8088/8086 (30_encoding.md R202, R203, 46_undefined_opcodes.md). -/
def decodeRowC (b : Byte) (bs : List Byte) : DecodeResult :=
  match b.toNat % 16 with
  | 0 => withWord bs fun imm bs => .ok (.retIwC0 imm) bs
  | 1 => .ok .retC1 bs
  | 2 => withWord bs fun imm bs => .ok (.retIw imm) bs
  | 3 => .ok .ret bs
  | 4 => withRM bs fun reg rm bs => match rm with
      | .reg n => .ok (.lesMod3 (Reg16.ofCode reg) (Reg16.ofCode n)) bs
      | .mem m => if m.isMod2 then .ok (.lesMod2 (Reg16.ofCode reg) m) bs else .ok (.lesMod01 (Reg16.ofCode reg) m) bs
  | 5 => withRM bs fun reg rm bs => match rm with
      | .reg n => .ok (.ldsMod3 (Reg16.ofCode reg) (Reg16.ofCode n)) bs
      | .mem m => if m.isMod2 then .ok (.ldsMod2 (Reg16.ofCode reg) m) bs else .ok (.ldsMod01 (Reg16.ofCode reg) m) bs
  | 6 => withRM bs fun reg rm bs => match reg.toNat with
      | 0 => withByte bs fun imm bs => .ok (.movEbIb rm.rm8 imm) bs
      | 1 => withByte bs fun imm bs => .ok (.movEbIbReg1 rm.rm8 imm) bs
      | 2 => withByte bs fun imm bs => .ok (.movEbIbReg2 rm.rm8 imm) bs
      | 3 => withByte bs fun imm bs => .ok (.movEbIbReg3 rm.rm8 imm) bs
      | 4 => withByte bs fun imm bs => .ok (.movEbIbReg4 rm.rm8 imm) bs
      | 5 => withByte bs fun imm bs => .ok (.movEbIbReg5 rm.rm8 imm) bs
      | 6 => withByte bs fun imm bs => .ok (.movEbIbReg6 rm.rm8 imm) bs
      | _ => withByte bs fun imm bs => .ok (.movEbIbReg7 rm.rm8 imm) bs
  | 7 => withRM bs fun reg rm bs => match reg.toNat with
      | 0 => withWord bs fun imm bs => .ok (.movEvIv rm.rm16 imm) bs
      | 1 => withWord bs fun imm bs => .ok (.movEvIvReg1 rm.rm16 imm) bs
      | 2 => withWord bs fun imm bs => .ok (.movEvIvReg2 rm.rm16 imm) bs
      | 3 => withWord bs fun imm bs => .ok (.movEvIvReg3 rm.rm16 imm) bs
      | 4 => withWord bs fun imm bs => .ok (.movEvIvReg4 rm.rm16 imm) bs
      | 5 => withWord bs fun imm bs => .ok (.movEvIvReg5 rm.rm16 imm) bs
      | 6 => withWord bs fun imm bs => .ok (.movEvIvReg6 rm.rm16 imm) bs
      | _ => withWord bs fun imm bs => .ok (.movEvIvReg7 rm.rm16 imm) bs
  | 8 => withWord bs fun imm bs => .ok (.retfIwC8 imm) bs
  | 9 => .ok .retfC9 bs
  | 10 => withWord bs fun imm bs => .ok (.retfIw imm) bs
  | 11 => .ok .retf bs
  | 12 => .ok .int3 bs
  | 13 => withByte bs fun imm bs => .ok (.intIb imm) bs
  | 14 => .ok .into bs
  | _ => .ok .iret bs

/-- First bytes 0xD0 to 0xDF of the 8088/8086 (30_encoding.md R202, R203, 46_undefined_opcodes.md). -/
def decodeRowD (b : Byte) (bs : List Byte) : DecodeResult :=
  match b.toNat % 16 with
  | 0 => withRM bs fun reg rm bs => match reg.toNat with
      | 0 => .ok (.rolEbEv (rm.rmw b) (ShiftCount.ofBit b)) bs
      | 1 => .ok (.rorEbEv (rm.rmw b) (ShiftCount.ofBit b)) bs
      | 2 => .ok (.rclEbEv (rm.rmw b) (ShiftCount.ofBit b)) bs
      | 3 => .ok (.rcrEbEv (rm.rmw b) (ShiftCount.ofBit b)) bs
      | 4 => .ok (.shlEbEv (rm.rmw b) (ShiftCount.ofBit b)) bs
      | 5 => .ok (.shrEbEv (rm.rmw b) (ShiftCount.ofBit b)) bs
      | 6 => .ok (.setmo (rm.rmw b)) bs
      | _ => .ok (.sarEbEv (rm.rmw b) (ShiftCount.ofBit b)) bs
  | 1 => withRM bs fun reg rm bs => match reg.toNat with
      | 0 => .ok (.rolEbEv (rm.rmw b) (ShiftCount.ofBit b)) bs
      | 1 => .ok (.rorEbEv (rm.rmw b) (ShiftCount.ofBit b)) bs
      | 2 => .ok (.rclEbEv (rm.rmw b) (ShiftCount.ofBit b)) bs
      | 3 => .ok (.rcrEbEv (rm.rmw b) (ShiftCount.ofBit b)) bs
      | 4 => .ok (.shlEbEv (rm.rmw b) (ShiftCount.ofBit b)) bs
      | 5 => .ok (.shrEbEv (rm.rmw b) (ShiftCount.ofBit b)) bs
      | 6 => .ok (.setmo (rm.rmw b)) bs
      | _ => .ok (.sarEbEv (rm.rmw b) (ShiftCount.ofBit b)) bs
  | 2 => withRM bs fun reg rm bs => match reg.toNat with
      | 0 => .ok (.rolEbEv (rm.rmw b) (ShiftCount.ofBit b)) bs
      | 1 => .ok (.rorEbEv (rm.rmw b) (ShiftCount.ofBit b)) bs
      | 2 => .ok (.rclEbEv (rm.rmw b) (ShiftCount.ofBit b)) bs
      | 3 => .ok (.rcrEbEv (rm.rmw b) (ShiftCount.ofBit b)) bs
      | 4 => .ok (.shlEbEv (rm.rmw b) (ShiftCount.ofBit b)) bs
      | 5 => .ok (.shrEbEv (rm.rmw b) (ShiftCount.ofBit b)) bs
      | 6 => .ok (.setmoc (rm.rmw b)) bs
      | _ => .ok (.sarEbEv (rm.rmw b) (ShiftCount.ofBit b)) bs
  | 3 => withRM bs fun reg rm bs => match reg.toNat with
      | 0 => .ok (.rolEbEv (rm.rmw b) (ShiftCount.ofBit b)) bs
      | 1 => .ok (.rorEbEv (rm.rmw b) (ShiftCount.ofBit b)) bs
      | 2 => .ok (.rclEbEv (rm.rmw b) (ShiftCount.ofBit b)) bs
      | 3 => .ok (.rcrEbEv (rm.rmw b) (ShiftCount.ofBit b)) bs
      | 4 => .ok (.shlEbEv (rm.rmw b) (ShiftCount.ofBit b)) bs
      | 5 => .ok (.shrEbEv (rm.rmw b) (ShiftCount.ofBit b)) bs
      | 6 => .ok (.setmoc (rm.rmw b)) bs
      | _ => .ok (.sarEbEv (rm.rmw b) (ShiftCount.ofBit b)) bs
  | 4 => withByte bs fun imm bs => .ok (.aamIb imm) bs
  | 5 => withByte bs fun imm bs => .ok (.aadIb imm) bs
  | 6 => .ok .salc bs
  | 7 => .ok .xlat bs
  | 8 => withRM bs fun reg rm bs => .ok (.esc (b.extractLsb' 0 3) reg rm.rm16) bs
  | 9 => withRM bs fun reg rm bs => .ok (.esc (b.extractLsb' 0 3) reg rm.rm16) bs
  | 10 => withRM bs fun reg rm bs => .ok (.esc (b.extractLsb' 0 3) reg rm.rm16) bs
  | 11 => withRM bs fun reg rm bs => .ok (.esc (b.extractLsb' 0 3) reg rm.rm16) bs
  | 12 => withRM bs fun reg rm bs => .ok (.esc (b.extractLsb' 0 3) reg rm.rm16) bs
  | 13 => withRM bs fun reg rm bs => .ok (.esc (b.extractLsb' 0 3) reg rm.rm16) bs
  | 14 => withRM bs fun reg rm bs => .ok (.esc (b.extractLsb' 0 3) reg rm.rm16) bs
  | _ => withRM bs fun reg rm bs => .ok (.esc (b.extractLsb' 0 3) reg rm.rm16) bs

/-- First bytes 0xE0 to 0xEF of the 8088/8086 (30_encoding.md R202, R203, 46_undefined_opcodes.md). -/
def decodeRowE (b : Byte) (bs : List Byte) : DecodeResult :=
  match b.toNat % 16 with
  | 0 => withByte bs fun d bs => .ok (.loopnz d) bs
  | 1 => withByte bs fun d bs => .ok (.loopz d) bs
  | 2 => withByte bs fun d bs => .ok (.loop d) bs
  | 3 => withByte bs fun d bs => .ok (.jcxz d) bs
  | 4 => withByte bs fun imm bs => .ok (.inAlIb imm) bs
  | 5 => withByte bs fun imm bs => .ok (.inAxIb imm) bs
  | 6 => withByte bs fun imm bs => .ok (.outIbAl imm) bs
  | 7 => withByte bs fun imm bs => .ok (.outIbAx imm) bs
  | 8 => withWord bs fun d bs => .ok (.callJv d) bs
  | 9 => withWord bs fun d bs => .ok (.jmpJv d) bs
  | 10 => withWord bs fun off bs => withWord bs fun sg bs => .ok (.jmpAp off sg) bs
  | 11 => withByte bs fun d bs => .ok (.jmpJb d) bs
  | 12 => .ok .inAlDx bs
  | 13 => .ok .inAxDx bs
  | 14 => .ok .outDxAl bs
  | _ => .ok .outDxAx bs

/-- First bytes 0xF0 to 0xFF of the 8088/8086 (30_encoding.md R202, R203, 46_undefined_opcodes.md). -/
def decodeRowF (b : Byte) (bs : List Byte) : DecodeResult :=
  match b.toNat % 16 with
  | 0 => .ok .lock bs
  | 1 => .ok .lockF1 bs
  | 2 => .ok .repne bs
  | 3 => .ok .rep bs
  | 4 => .ok .hlt bs
  | 5 => .ok .cmc bs
  | 6 => withRM bs fun reg rm bs => match reg.toNat with
      | 0 => withByte bs fun imm bs => .ok (.testEbIb rm.rm8 imm) bs
      | 1 => withByte bs fun imm bs => .ok (.testEbIbReg1 rm.rm8 imm) bs
      | 2 => .ok (.notEbEv (rm.rmw b)) bs
      | 3 => .ok (.negEbEv (rm.rmw b)) bs
      | 4 => .ok (.mulEbEv (rm.rmw b)) bs
      | 5 => .ok (.imulEbEv (rm.rmw b)) bs
      | 6 => .ok (.divEbEv (rm.rmw b)) bs
      | _ => .ok (.idivEbEv (rm.rmw b)) bs
  | 7 => withRM bs fun reg rm bs => match reg.toNat with
      | 0 => withWord bs fun imm bs => .ok (.testEvIv rm.rm16 imm) bs
      | 1 => withWord bs fun imm bs => .ok (.testEvIvReg1 rm.rm16 imm) bs
      | 2 => .ok (.notEbEv (rm.rmw b)) bs
      | 3 => .ok (.negEbEv (rm.rmw b)) bs
      | 4 => .ok (.mulEbEv (rm.rmw b)) bs
      | 5 => .ok (.imulEbEv (rm.rmw b)) bs
      | 6 => .ok (.divEbEv (rm.rmw b)) bs
      | _ => .ok (.idivEbEv (rm.rmw b)) bs
  | 8 => .ok .clc bs
  | 9 => .ok .stc bs
  | 10 => .ok .cli bs
  | 11 => .ok .sti bs
  | 12 => .ok .cld bs
  | 13 => .ok .std bs
  | 14 => withRM bs fun reg rm bs => match reg.toNat with
      | 0 => .ok (.incEbEv (rm.rmw b)) bs
      | 1 => .ok (.decEbEv (rm.rmw b)) bs
      | 2 => .ok .fe2 bs
      | 3 => .ok .fe3 bs
      | 4 => .ok .fe4 bs
      | 5 => .ok .fe5 bs
      | 6 => .ok .fe6 bs
      | _ => .ok .fe7 bs
  | _ => withRM bs fun reg rm bs => match reg.toNat with
      | 0 => .ok (.incEbEv (rm.rmw b)) bs
      | 1 => .ok (.decEbEv (rm.rmw b)) bs
      | 2 => .ok (.callEv rm.rm16) bs
      | 3 => match rm with
        | .reg n => .ok (.callMpMod3 (Reg16.ofCode n)) bs
        | .mem m => if m.isMod2 then .ok (.callMpMod2 m) bs else .ok (.callMpMod01 m) bs
      | 4 => .ok (.jmpEv rm.rm16) bs
      | 5 => match rm with
        | .reg n => .ok (.jmpMpMod3 (Reg16.ofCode n)) bs
        | .mem m => if m.isMod2 then .ok (.jmpMpMod2 m) bs else .ok (.jmpMpMod01 m) bs
      | 6 => .ok (.pushEv rm.rm16) bs
      | _ => .ok (.pushEvReg7 rm.rm16) bs

/-- The decoder of the 8088/8086: every first byte has a meaning (30_encoding.md R204). -/
def decodeIntel (b : Byte) (bs : List Byte) : DecodeResult :=
  match b.toNat / 16 with
  | 0 => decodeRow0 b bs
  | 1 => decodeRow1 b bs
  | 2 => decodeRow2 b bs
  | 3 => decodeRow3 b bs
  | 4 => decodeRow4 b bs
  | 5 => decodeRow5 b bs
  | 6 => decodeRow6 b bs
  | 7 => decodeRow7 b bs
  | 8 => decodeRow8 b bs
  | 9 => decodeRow9 b bs
  | 10 => decodeRowA b bs
  | 11 => decodeRowB b bs
  | 12 => decodeRowC b bs
  | 13 => decodeRowD b bs
  | 14 => decodeRowE b bs
  | _ => decodeRowF b bs

/-- The second byte after the `0F` prefix of the V20/V30 (47_v20_v30_extensions.md R581, R594, R595). Every byte that has no
row of its own is the default row, an undefined opcode. -/
def decodeExt (op2 : Byte) (bs : List Byte) : DecodeResult :=
  match op2.toNat with
  | 0x10 => withRM bs fun _ _ bs => .ok .test1EbCl bs
  | 0x11 => withRM bs fun _ _ bs => .ok .test1EvCl bs
  | 0x12 => withRM bs fun _ _ bs => .ok .clr1EbCl bs
  | 0x13 => withRM bs fun _ _ bs => .ok .clr1EvCl bs
  | 0x14 => withRM bs fun _ _ bs => .ok .set1EbCl bs
  | 0x15 => withRM bs fun _ _ bs => .ok .set1EvCl bs
  | 0x16 => withRM bs fun _ _ bs => .ok .not1EbCl bs
  | 0x17 => withRM bs fun _ _ bs => .ok .not1EvCl bs
  | 0x18 => withRM bs fun _ _ bs => withByte bs fun _ bs => .ok .test1EbIb bs
  | 0x19 => withRM bs fun _ _ bs => withByte bs fun _ bs => .ok .test1EvIb bs
  | 0x1A => withRM bs fun _ _ bs => withByte bs fun _ bs => .ok .clr1EbIb bs
  | 0x1B => withRM bs fun _ _ bs => withByte bs fun _ bs => .ok .clr1EvIb bs
  | 0x1C => withRM bs fun _ _ bs => withByte bs fun _ bs => .ok .set1EbIb bs
  | 0x1D => withRM bs fun _ _ bs => withByte bs fun _ bs => .ok .set1EvIb bs
  | 0x1E => withRM bs fun _ _ bs => withByte bs fun _ bs => .ok .not1EbIb bs
  | 0x1F => withRM bs fun _ _ bs => withByte bs fun _ bs => .ok .not1EvIb bs
  | 0x20 => .ok .add4s bs
  | 0x22 => .ok .sub4s bs
  | 0x26 => .ok .cmp4s bs
  | 0x28 => withRM bs fun _ _ bs => .ok .rol4 bs
  | 0x2A => withRM bs fun _ _ bs => .ok .ror4 bs
  | 0x31 => withRM bs fun _ _ bs => .ok .insFieldReg bs
  | 0x33 => withRM bs fun _ _ bs => .ok .extFieldReg bs
  | 0x39 => withRM bs fun _ _ bs => withByte bs fun _ bs => .ok .insFieldImm bs
  | 0x3B => withRM bs fun _ _ bs => withByte bs fun _ bs => .ok .extFieldImm bs
  | 0xFF => withByte bs fun _ bs => .ok .brkem bs
  | _ => .ok (.ext0F op2) bs

/-- The decoder of the V20/V30: the rows of 47_v20_v30_extensions.md R598 replace the 8088/8086 ones. -/
def decodeNec (b : Byte) (bs : List Byte) : DecodeResult :=
  match b.toNat with
  | 0x0F => withByte bs fun op2 bs => decodeExt op2 bs
  | 0x60 => .ok .pusha bs
  | 0x61 => .ok .popa bs
  | 0x62 => withRM bs fun reg rm bs => match rm with
      | .reg _ => .ok .undef62Mod3 bs
      | .mem m => if m.isMod2 then .ok (.boundMod2 (Reg16.ofCode reg) m) bs else .ok (.boundMod01 (Reg16.ofCode reg) m) bs
  | 0x63 => .ok .undef63 bs
  | 0x64 => .ok .repnc bs
  | 0x65 => .ok .repc bs
  | 0x66 => .ok .undef66 bs
  | 0x67 => .ok .undef67 bs
  | 0x68 => withWord bs fun imm bs => .ok (.pushIv imm) bs
  | 0x69 => withRM bs fun reg rm bs => withWord bs fun imm bs => .ok (.imulGvEvIv (Reg16.ofCode reg) rm.rm16 imm) bs
  | 0x6A => withByte bs fun imm bs => .ok (.pushIbs imm) bs
  | 0x6B => withRM bs fun reg rm bs => withByte bs fun imm bs => .ok (.imulGvEvIbs (Reg16.ofCode reg) rm.rm16 imm) bs
  | 0x6C => .ok .insb bs
  | 0x6D => .ok .insw bs
  | 0x6E => .ok .outsb bs
  | 0x6F => .ok .outsw bs
  | 0x8D => withRM bs fun reg rm bs => match rm with
      | .reg _ => .ok .undef8DMod3 bs
      | .mem m => if m.isMod2 then .ok (.leaMod2 (Reg16.ofCode reg) m) bs else .ok (.leaMod01 (Reg16.ofCode reg) m) bs
  | 0xC0 => withRM bs fun reg rm bs => match reg.toNat with
      | 0 => withByte bs fun imm bs => .ok (.rolEbEvIb (rm.rmw b) imm) bs
      | 1 => withByte bs fun imm bs => .ok (.rorEbEvIb (rm.rmw b) imm) bs
      | 2 => withByte bs fun imm bs => .ok (.rclEbEvIb (rm.rmw b) imm) bs
      | 3 => withByte bs fun imm bs => .ok (.rcrEbEvIb (rm.rmw b) imm) bs
      | 4 => withByte bs fun imm bs => .ok (.shlEbEvIb (rm.rmw b) imm) bs
      | 5 => withByte bs fun imm bs => .ok (.shrEbEvIb (rm.rmw b) imm) bs
      | 6 => withByte bs fun _ bs => .ok .undefC0Reg6 bs
      | _ => withByte bs fun imm bs => .ok (.sarEbEvIb (rm.rmw b) imm) bs
  | 0xC1 => withRM bs fun reg rm bs => match reg.toNat with
      | 0 => withByte bs fun imm bs => .ok (.rolEbEvIb (rm.rmw b) imm) bs
      | 1 => withByte bs fun imm bs => .ok (.rorEbEvIb (rm.rmw b) imm) bs
      | 2 => withByte bs fun imm bs => .ok (.rclEbEvIb (rm.rmw b) imm) bs
      | 3 => withByte bs fun imm bs => .ok (.rcrEbEvIb (rm.rmw b) imm) bs
      | 4 => withByte bs fun imm bs => .ok (.shlEbEvIb (rm.rmw b) imm) bs
      | 5 => withByte bs fun imm bs => .ok (.shrEbEvIb (rm.rmw b) imm) bs
      | 6 => withByte bs fun _ bs => .ok .undefC0Reg6 bs
      | _ => withByte bs fun imm bs => .ok (.sarEbEvIb (rm.rmw b) imm) bs
  | 0xC4 => withRM bs fun reg rm bs => match rm with
      | .reg _ => .ok .undefC4Mod3 bs
      | .mem m => if m.isMod2 then .ok (.lesMod2 (Reg16.ofCode reg) m) bs else .ok (.lesMod01 (Reg16.ofCode reg) m) bs
  | 0xC5 => withRM bs fun reg rm bs => match rm with
      | .reg _ => .ok .undefC5Mod3 bs
      | .mem m => if m.isMod2 then .ok (.ldsMod2 (Reg16.ofCode reg) m) bs else .ok (.ldsMod01 (Reg16.ofCode reg) m) bs
  | 0xC8 => withWord bs fun size bs => withByte bs fun level bs => .ok (.enter size level) bs
  | 0xC9 => .ok .leave bs
  | 0xD0 => withRM bs fun reg rm bs => match reg.toNat with
      | 0 => .ok (.rolEbEv (rm.rmw b) (ShiftCount.ofBit b)) bs
      | 1 => .ok (.rorEbEv (rm.rmw b) (ShiftCount.ofBit b)) bs
      | 2 => .ok (.rclEbEv (rm.rmw b) (ShiftCount.ofBit b)) bs
      | 3 => .ok (.rcrEbEv (rm.rmw b) (ShiftCount.ofBit b)) bs
      | 4 => .ok (.shlEbEv (rm.rmw b) (ShiftCount.ofBit b)) bs
      | 5 => .ok (.shrEbEv (rm.rmw b) (ShiftCount.ofBit b)) bs
      | 6 => .ok .undefD0Reg6 bs
      | _ => .ok (.sarEbEv (rm.rmw b) (ShiftCount.ofBit b)) bs
  | 0xD1 => withRM bs fun reg rm bs => match reg.toNat with
      | 0 => .ok (.rolEbEv (rm.rmw b) (ShiftCount.ofBit b)) bs
      | 1 => .ok (.rorEbEv (rm.rmw b) (ShiftCount.ofBit b)) bs
      | 2 => .ok (.rclEbEv (rm.rmw b) (ShiftCount.ofBit b)) bs
      | 3 => .ok (.rcrEbEv (rm.rmw b) (ShiftCount.ofBit b)) bs
      | 4 => .ok (.shlEbEv (rm.rmw b) (ShiftCount.ofBit b)) bs
      | 5 => .ok (.shrEbEv (rm.rmw b) (ShiftCount.ofBit b)) bs
      | 6 => .ok .undefD0Reg6 bs
      | _ => .ok (.sarEbEv (rm.rmw b) (ShiftCount.ofBit b)) bs
  | 0xD2 => withRM bs fun reg rm bs => match reg.toNat with
      | 0 => .ok (.rolEbEv (rm.rmw b) (ShiftCount.ofBit b)) bs
      | 1 => .ok (.rorEbEv (rm.rmw b) (ShiftCount.ofBit b)) bs
      | 2 => .ok (.rclEbEv (rm.rmw b) (ShiftCount.ofBit b)) bs
      | 3 => .ok (.rcrEbEv (rm.rmw b) (ShiftCount.ofBit b)) bs
      | 4 => .ok (.shlEbEv (rm.rmw b) (ShiftCount.ofBit b)) bs
      | 5 => .ok (.shrEbEv (rm.rmw b) (ShiftCount.ofBit b)) bs
      | 6 => .ok .undefD0Reg6 bs
      | _ => .ok (.sarEbEv (rm.rmw b) (ShiftCount.ofBit b)) bs
  | 0xD3 => withRM bs fun reg rm bs => match reg.toNat with
      | 0 => .ok (.rolEbEv (rm.rmw b) (ShiftCount.ofBit b)) bs
      | 1 => .ok (.rorEbEv (rm.rmw b) (ShiftCount.ofBit b)) bs
      | 2 => .ok (.rclEbEv (rm.rmw b) (ShiftCount.ofBit b)) bs
      | 3 => .ok (.rcrEbEv (rm.rmw b) (ShiftCount.ofBit b)) bs
      | 4 => .ok (.shlEbEv (rm.rmw b) (ShiftCount.ofBit b)) bs
      | 5 => .ok (.shrEbEv (rm.rmw b) (ShiftCount.ofBit b)) bs
      | 6 => .ok .undefD0Reg6 bs
      | _ => .ok (.sarEbEv (rm.rmw b) (ShiftCount.ofBit b)) bs
  | 0xD6 => .ok .undefD6 bs
  | 0xF1 => .ok .undefF1 bs
  | 0xFE => withRM bs fun reg rm bs => match reg.toNat with
      | 0 => .ok (.incEbEv (rm.rmw b)) bs
      | 1 => .ok (.decEbEv (rm.rmw b)) bs
      | 2 => .ok .undefFe2 bs
      | 3 => .ok .undefFe3 bs
      | 4 => .ok .undefFe4 bs
      | 5 => .ok .undefFe5 bs
      | 6 => .ok .undefFe6 bs
      | _ => .ok .undefFe7 bs
  | 0xFF => withRM bs fun reg rm bs => match reg.toNat with
      | 0 => .ok (.incEbEv (rm.rmw b)) bs
      | 1 => .ok (.decEbEv (rm.rmw b)) bs
      | 2 => .ok (.callEv rm.rm16) bs
      | 3 => match rm with
        | .reg _ => .ok .undefFfReg3 bs
        | .mem m => if m.isMod2 then .ok (.callMpMod2 m) bs else .ok (.callMpMod01 m) bs
      | 4 => .ok (.jmpEv rm.rm16) bs
      | 5 => match rm with
        | .reg _ => .ok .undefFfReg5 bs
        | .mem m => if m.isMod2 then .ok (.jmpMpMod2 m) bs else .ok (.jmpMpMod01 m) bs
      | 6 => .ok (.pushEv rm.rm16) bs
      | _ => .ok (.pushEvReg7 rm.rm16) bs
  | _ => decodeIntel b bs

/-- Decode one instruction, or one prefix byte, from the front of a list of bytes. Total on any bytes. -/
def decode (cpu : CpuModel) (bs : List Byte) : DecodeResult :=
  withByte bs fun b bs => if cpu.isNec then decodeNec b bs else decodeIntel b bs

/-! ### The rest of the decoded-instruction record (32_decode_sequencer.md R262) -/

/-- The mandatory prefix byte: `0F`, on the V20/V30 (47_v20_v30_extensions.md R581). -/
def mandatoryPrefix (cpu : CpuModel) (bs : List Byte) : Option Byte :=
  if cpu.isNec && bs.head? == some 0x0F then some 0x0F else none

/-- The opcode byte: the first byte, or the one after the mandatory prefix (47_v20_v30_extensions.md R581). -/
def opcodeByte (cpu : CpuModel) (bs : List Byte) : Option Byte :=
  if (mandatoryPrefix cpu bs).isSome then bs.tail.head? else bs.head?

/-- The operand that `mod` and `rm` select (30_encoding.md R198). -/
def RMW.operand : RMW → Operand
  | .byte (.reg r) => .register8 r
  | .byte (.mem m) => .addressingMode m
  | .word (.reg r) => .register16 r
  | .word (.mem m) => .addressingMode m

def RMW.size : RMW → OperandSize
  | .byte _ => .operand8
  | .word _ => .operand16

/-- A pair whose first operand is the one that `mod` and `rm` select. -/
def RMW.pair (rm : RMW) (second : Operand) : OperandPair := { first := rm.operand, second := second, size := rm.size }

/-- The operand pair of an undefined encoding of the V20/V30 with a ModR/M byte (47_v20_v30_extensions.md R583): its kinds are those of
the opcode in the map (30_encoding.md R198, R202, R203, 47_v20_v30_extensions.md R591, R598), since the opcode's information says them
(R199; that an undefined encoding has them too is DEDUCED, log 24). -/
def undefinedPair (op : Byte) (reg : BitVec 3) (rm : RMRaw) (rest : List Byte) : OperandPair :=
  if (op = 0xC0 ∨ op = 0xC1) ∧ reg = 6 then
    match rest with
    | imm :: _ => (rm.rmw op).pair (.immediate8 imm)
    | [] => OperandPair.empty
  else if (op = 0xD0 ∨ op = 0xD1 ∨ op = 0xD2 ∨ op = 0xD3) ∧ reg = 6 then (rm.rmw op).pair .implicit
  else if op = 0xFE ∧ 2 ≤ reg.toNat then (rm.rmw op).pair .none
  else
    match rm with
    | .mem _ => OperandPair.empty
    | .reg n =>
      if op = 0x62 ∨ op = 0x8D ∨ op = 0xC4 ∨ op = 0xC5 then
        { first := .register16 (Reg16.ofCode reg), second := .register16 (Reg16.ofCode n), size := .operand16 }
      else if op = 0xFF ∧ (reg = 3 ∨ reg = 5) then (RMW.word (.reg (Reg16.ofCode n))).pair .none
      else OperandPair.empty

/-- The operand pair of an undefined encoding of the V20/V30, whose constructor carries none (log 24): its ModR/M byte is decoded as
every other one (32_decode_sequencer.md R266). Empty for every other encoding: there the constructor carries the operands. -/
def undefinedOperands (cpu : CpuModel) (bs : List Byte) : OperandPair :=
  match bs with
  | [] => OperandPair.empty
  | op :: tail =>
    match readRM tail with
    | some (reg, rm, rest) => if cpu.isNec then undefinedPair op reg rm rest else OperandPair.empty
    | none => OperandPair.empty

/-! ### The encoder -/

/-- The ModR/M byte (30_encoding.md R195). -/
def modrm (md : BitVec 2) (reg rm : BitVec 3) : Byte := md ++ reg ++ rm

/-- ModR/M and displacement bytes of a memory form (30_encoding.md R196, 31_modrm_ea.md R232). -/
def Mem.enc (reg : BitVec 3) : Mem → List Byte
  | .ind b => [modrm 0 reg b.code]
  | .direct o => modrm 0 reg 6 :: wordBytes o
  | .disp8 b d => [modrm 1 reg b.code, d]
  | .disp16 b d => modrm 2 reg b.code :: wordBytes d

def RM8.enc (reg : BitVec 3) : RM8 → List Byte
  | .reg r => [modrm 3 reg r.code]
  | .mem m => m.enc reg

def RM16.enc (reg : BitVec 3) : RM16 → List Byte
  | .reg r => [modrm 3 reg r.code]
  | .mem m => m.enc reg

def RMW.enc (reg : BitVec 3) : RMW → List Byte
  | .byte rm => rm.enc reg
  | .word rm => rm.enc reg

/-- Opcode bit 0 (30_encoding.md R194). -/
def RMW.wBit : RMW → Byte
  | .byte _ => 0
  | .word _ => 1

/-- Opcode bit 1 of group 2 (42_logic_shift_rotate.md R406). -/
def ShiftCount.vBit : ShiftCount → Byte
  | .one => 0
  | .cl => 2

/-- The bytes of an instruction, written from the same tables (30_encoding.md R200, R202, R203): opcode, ModR/M,
displacement, immediates (R190). -/
def encode : Instr → List Byte
  | .addEbGb rm r => 0x00 :: rm.enc r.code
  | .addEvGv rm r => 0x01 :: rm.enc r.code
  | .addGbEb r rm => 0x02 :: rm.enc r.code
  | .addGvEv r rm => 0x03 :: rm.enc r.code
  | .addAlIb imm => [0x04, imm]
  | .addAxIv imm => 0x05 :: wordBytes imm
  | .orEbGb rm r => 0x08 :: rm.enc r.code
  | .orEvGv rm r => 0x09 :: rm.enc r.code
  | .orGbEb r rm => 0x0A :: rm.enc r.code
  | .orGvEv r rm => 0x0B :: rm.enc r.code
  | .orAlIb imm => [0x0C, imm]
  | .orAxIv imm => 0x0D :: wordBytes imm
  | .adcEbGb rm r => 0x10 :: rm.enc r.code
  | .adcEvGv rm r => 0x11 :: rm.enc r.code
  | .adcGbEb r rm => 0x12 :: rm.enc r.code
  | .adcGvEv r rm => 0x13 :: rm.enc r.code
  | .adcAlIb imm => [0x14, imm]
  | .adcAxIv imm => 0x15 :: wordBytes imm
  | .sbbEbGb rm r => 0x18 :: rm.enc r.code
  | .sbbEvGv rm r => 0x19 :: rm.enc r.code
  | .sbbGbEb r rm => 0x1A :: rm.enc r.code
  | .sbbGvEv r rm => 0x1B :: rm.enc r.code
  | .sbbAlIb imm => [0x1C, imm]
  | .sbbAxIv imm => 0x1D :: wordBytes imm
  | .andEbGb rm r => 0x20 :: rm.enc r.code
  | .andEvGv rm r => 0x21 :: rm.enc r.code
  | .andGbEb r rm => 0x22 :: rm.enc r.code
  | .andGvEv r rm => 0x23 :: rm.enc r.code
  | .andAlIb imm => [0x24, imm]
  | .andAxIv imm => 0x25 :: wordBytes imm
  | .subEbGb rm r => 0x28 :: rm.enc r.code
  | .subEvGv rm r => 0x29 :: rm.enc r.code
  | .subGbEb r rm => 0x2A :: rm.enc r.code
  | .subGvEv r rm => 0x2B :: rm.enc r.code
  | .subAlIb imm => [0x2C, imm]
  | .subAxIv imm => 0x2D :: wordBytes imm
  | .xorEbGb rm r => 0x30 :: rm.enc r.code
  | .xorEvGv rm r => 0x31 :: rm.enc r.code
  | .xorGbEb r rm => 0x32 :: rm.enc r.code
  | .xorGvEv r rm => 0x33 :: rm.enc r.code
  | .xorAlIb imm => [0x34, imm]
  | .xorAxIv imm => 0x35 :: wordBytes imm
  | .cmpEbGb rm r => 0x38 :: rm.enc r.code
  | .cmpEvGv rm r => 0x39 :: rm.enc r.code
  | .cmpGbEb r rm => 0x3A :: rm.enc r.code
  | .cmpGvEv r rm => 0x3B :: rm.enc r.code
  | .cmpAlIb imm => [0x3C, imm]
  | .cmpAxIv imm => 0x3D :: wordBytes imm
  | .incR16 r => [0x40 ||| r.code.setWidth 8]
  | .decR16 r => [0x48 ||| r.code.setWidth 8]
  | .pushR16 r => [0x50 ||| r.code.setWidth 8]
  | .popR16 r => [0x58 ||| r.code.setWidth 8]
  | .joDup60 d => [0x60, d]
  | .jnoDup61 d => [0x61, d]
  | .jbDup62 d => [0x62, d]
  | .jnbDup63 d => [0x63, d]
  | .jzDup64 d => [0x64, d]
  | .jnzDup65 d => [0x65, d]
  | .jbeDup66 d => [0x66, d]
  | .jaDup67 d => [0x67, d]
  | .jsDup68 d => [0x68, d]
  | .jnsDup69 d => [0x69, d]
  | .jpDup6A d => [0x6A, d]
  | .jnpDup6B d => [0x6B, d]
  | .jlDup6C d => [0x6C, d]
  | .jgeDup6D d => [0x6D, d]
  | .jleDup6E d => [0x6E, d]
  | .jgDup6F d => [0x6F, d]
  | .jo d => [0x70, d]
  | .jno d => [0x71, d]
  | .jb d => [0x72, d]
  | .jnb d => [0x73, d]
  | .jz d => [0x74, d]
  | .jnz d => [0x75, d]
  | .jbe d => [0x76, d]
  | .ja d => [0x77, d]
  | .js d => [0x78, d]
  | .jns d => [0x79, d]
  | .jp d => [0x7A, d]
  | .jnp d => [0x7B, d]
  | .jl d => [0x7C, d]
  | .jge d => [0x7D, d]
  | .jle d => [0x7E, d]
  | .jg d => [0x7F, d]
  | .addEbIb rm imm => 0x80 :: rm.enc 0#3 ++ [imm]
  | .orEbIb rm imm => 0x80 :: rm.enc 1#3 ++ [imm]
  | .adcEbIb rm imm => 0x80 :: rm.enc 2#3 ++ [imm]
  | .sbbEbIb rm imm => 0x80 :: rm.enc 3#3 ++ [imm]
  | .andEbIb rm imm => 0x80 :: rm.enc 4#3 ++ [imm]
  | .subEbIb rm imm => 0x80 :: rm.enc 5#3 ++ [imm]
  | .xorEbIb rm imm => 0x80 :: rm.enc 6#3 ++ [imm]
  | .cmpEbIb rm imm => 0x80 :: rm.enc 7#3 ++ [imm]
  | .addEvIv rm imm => 0x81 :: rm.enc 0#3 ++ wordBytes imm
  | .orEvIv rm imm => 0x81 :: rm.enc 1#3 ++ wordBytes imm
  | .adcEvIv rm imm => 0x81 :: rm.enc 2#3 ++ wordBytes imm
  | .sbbEvIv rm imm => 0x81 :: rm.enc 3#3 ++ wordBytes imm
  | .andEvIv rm imm => 0x81 :: rm.enc 4#3 ++ wordBytes imm
  | .subEvIv rm imm => 0x81 :: rm.enc 5#3 ++ wordBytes imm
  | .xorEvIv rm imm => 0x81 :: rm.enc 6#3 ++ wordBytes imm
  | .cmpEvIv rm imm => 0x81 :: rm.enc 7#3 ++ wordBytes imm
  | .addEbIb82 rm imm => 0x82 :: rm.enc 0#3 ++ [imm]
  | .orEbIb82 rm imm => 0x82 :: rm.enc 1#3 ++ [imm]
  | .adcEbIb82 rm imm => 0x82 :: rm.enc 2#3 ++ [imm]
  | .sbbEbIb82 rm imm => 0x82 :: rm.enc 3#3 ++ [imm]
  | .andEbIb82 rm imm => 0x82 :: rm.enc 4#3 ++ [imm]
  | .subEbIb82 rm imm => 0x82 :: rm.enc 5#3 ++ [imm]
  | .xorEbIb82 rm imm => 0x82 :: rm.enc 6#3 ++ [imm]
  | .cmpEbIb82 rm imm => 0x82 :: rm.enc 7#3 ++ [imm]
  | .addEvIbs rm imm => 0x83 :: rm.enc 0#3 ++ [imm]
  | .orEvIbs rm imm => 0x83 :: rm.enc 1#3 ++ [imm]
  | .adcEvIbs rm imm => 0x83 :: rm.enc 2#3 ++ [imm]
  | .sbbEvIbs rm imm => 0x83 :: rm.enc 3#3 ++ [imm]
  | .andEvIbs rm imm => 0x83 :: rm.enc 4#3 ++ [imm]
  | .subEvIbs rm imm => 0x83 :: rm.enc 5#3 ++ [imm]
  | .xorEvIbs rm imm => 0x83 :: rm.enc 6#3 ++ [imm]
  | .cmpEvIbs rm imm => 0x83 :: rm.enc 7#3 ++ [imm]
  | .testEbGb rm r => 0x84 :: rm.enc r.code
  | .testEvGv rm r => 0x85 :: rm.enc r.code
  | .xchgEbGb rm r => 0x86 :: rm.enc r.code
  | .xchgEvGv rm r => 0x87 :: rm.enc r.code
  | .movEbGb rm r => 0x88 :: rm.enc r.code
  | .movEvGv rm r => 0x89 :: rm.enc r.code
  | .movGbEb r rm => 0x8A :: rm.enc r.code
  | .movGvEv r rm => 0x8B :: rm.enc r.code
  | .movEwSw rm sr => 0x8C :: rm.enc sr.code
  | .movEwSwHigh rm sr => 0x8C :: rm.enc (4#3 ||| sr.code)
  | .leaMod01 r m => 0x8D :: m.enc r.code
  | .leaMod2 r m => 0x8D :: m.enc r.code
  | .leaMod3 r rm => 0x8D :: (RM16.reg rm).enc r.code
  | .movEsEw rm => 0x8E :: rm.enc 0#3
  | .movCsEw rm => 0x8E :: rm.enc 1#3
  | .movSsEw rm => 0x8E :: rm.enc 2#3
  | .movDsEw rm => 0x8E :: rm.enc 3#3
  | .movEsEw4 rm => 0x8E :: rm.enc 4#3
  | .movCsEw5 rm => 0x8E :: rm.enc 5#3
  | .movSsEw6 rm => 0x8E :: rm.enc 6#3
  | .movDsEw7 rm => 0x8E :: rm.enc 7#3
  | .popEv rm => 0x8F :: rm.enc 0#3
  | .popEvReg1 rm => 0x8F :: rm.enc 1#3
  | .popEvReg2 rm => 0x8F :: rm.enc 2#3
  | .popEvReg3 rm => 0x8F :: rm.enc 3#3
  | .popEvReg4 rm => 0x8F :: rm.enc 4#3
  | .popEvReg5 rm => 0x8F :: rm.enc 5#3
  | .popEvReg6 rm => 0x8F :: rm.enc 6#3
  | .popEvReg7 rm => 0x8F :: rm.enc 7#3
  | .callAp off sg => 0x9A :: wordBytes off ++ wordBytes sg
  | .movAlOb o => 0xA0 :: wordBytes o
  | .movAxOv o => 0xA1 :: wordBytes o
  | .movObAl o => 0xA2 :: wordBytes o
  | .movOvAx o => 0xA3 :: wordBytes o
  | .testAlIb imm => [0xA8, imm]
  | .testAxIv imm => 0xA9 :: wordBytes imm
  | .movR8Ib r imm => [0xB0 ||| r.code.setWidth 8, imm]
  | .movR16Iv r imm => (0xB8 ||| r.code.setWidth 8) :: wordBytes imm
  | .retIwC0 imm => 0xC0 :: wordBytes imm
  | .retIw imm => 0xC2 :: wordBytes imm
  | .lesMod01 r m => 0xC4 :: m.enc r.code
  | .lesMod2 r m => 0xC4 :: m.enc r.code
  | .lesMod3 r rm => 0xC4 :: (RM16.reg rm).enc r.code
  | .ldsMod01 r m => 0xC5 :: m.enc r.code
  | .ldsMod2 r m => 0xC5 :: m.enc r.code
  | .ldsMod3 r rm => 0xC5 :: (RM16.reg rm).enc r.code
  | .movEbIb rm imm => 0xC6 :: rm.enc 0#3 ++ [imm]
  | .movEbIbReg1 rm imm => 0xC6 :: rm.enc 1#3 ++ [imm]
  | .movEbIbReg2 rm imm => 0xC6 :: rm.enc 2#3 ++ [imm]
  | .movEbIbReg3 rm imm => 0xC6 :: rm.enc 3#3 ++ [imm]
  | .movEbIbReg4 rm imm => 0xC6 :: rm.enc 4#3 ++ [imm]
  | .movEbIbReg5 rm imm => 0xC6 :: rm.enc 5#3 ++ [imm]
  | .movEbIbReg6 rm imm => 0xC6 :: rm.enc 6#3 ++ [imm]
  | .movEbIbReg7 rm imm => 0xC6 :: rm.enc 7#3 ++ [imm]
  | .movEvIv rm imm => 0xC7 :: rm.enc 0#3 ++ wordBytes imm
  | .movEvIvReg1 rm imm => 0xC7 :: rm.enc 1#3 ++ wordBytes imm
  | .movEvIvReg2 rm imm => 0xC7 :: rm.enc 2#3 ++ wordBytes imm
  | .movEvIvReg3 rm imm => 0xC7 :: rm.enc 3#3 ++ wordBytes imm
  | .movEvIvReg4 rm imm => 0xC7 :: rm.enc 4#3 ++ wordBytes imm
  | .movEvIvReg5 rm imm => 0xC7 :: rm.enc 5#3 ++ wordBytes imm
  | .movEvIvReg6 rm imm => 0xC7 :: rm.enc 6#3 ++ wordBytes imm
  | .movEvIvReg7 rm imm => 0xC7 :: rm.enc 7#3 ++ wordBytes imm
  | .retfIwC8 imm => 0xC8 :: wordBytes imm
  | .retfIw imm => 0xCA :: wordBytes imm
  | .intIb imm => [0xCD, imm]
  | .rolEbEv rm n => (0xD0 ||| rm.wBit ||| n.vBit) :: rm.enc 0#3
  | .rorEbEv rm n => (0xD0 ||| rm.wBit ||| n.vBit) :: rm.enc 1#3
  | .rclEbEv rm n => (0xD0 ||| rm.wBit ||| n.vBit) :: rm.enc 2#3
  | .rcrEbEv rm n => (0xD0 ||| rm.wBit ||| n.vBit) :: rm.enc 3#3
  | .shlEbEv rm n => (0xD0 ||| rm.wBit ||| n.vBit) :: rm.enc 4#3
  | .shrEbEv rm n => (0xD0 ||| rm.wBit ||| n.vBit) :: rm.enc 5#3
  | .setmo rm => (0xD0 ||| rm.wBit) :: rm.enc 6#3
  | .setmoc rm => (0xD2 ||| rm.wBit) :: rm.enc 6#3
  | .sarEbEv rm n => (0xD0 ||| rm.wBit ||| n.vBit) :: rm.enc 7#3
  | .aamIb imm => [0xD4, imm]
  | .aadIb imm => [0xD5, imm]
  | .esc op ext rm => (0xD8 ||| op.setWidth 8) :: rm.enc ext
  | .loopnz d => [0xE0, d]
  | .loopz d => [0xE1, d]
  | .loop d => [0xE2, d]
  | .jcxz d => [0xE3, d]
  | .inAlIb imm => [0xE4, imm]
  | .inAxIb imm => [0xE5, imm]
  | .outIbAl imm => [0xE6, imm]
  | .outIbAx imm => [0xE7, imm]
  | .callJv d => 0xE8 :: wordBytes d
  | .jmpJv d => 0xE9 :: wordBytes d
  | .jmpAp off sg => 0xEA :: wordBytes off ++ wordBytes sg
  | .jmpJb d => [0xEB, d]
  | .testEbIb rm imm => 0xF6 :: rm.enc 0#3 ++ [imm]
  | .testEbIbReg1 rm imm => 0xF6 :: rm.enc 1#3 ++ [imm]
  | .testEvIv rm imm => 0xF7 :: rm.enc 0#3 ++ wordBytes imm
  | .testEvIvReg1 rm imm => 0xF7 :: rm.enc 1#3 ++ wordBytes imm
  | .notEbEv rm => (0xF6 ||| rm.wBit) :: rm.enc 2#3
  | .negEbEv rm => (0xF6 ||| rm.wBit) :: rm.enc 3#3
  | .mulEbEv rm => (0xF6 ||| rm.wBit) :: rm.enc 4#3
  | .imulEbEv rm => (0xF6 ||| rm.wBit) :: rm.enc 5#3
  | .divEbEv rm => (0xF6 ||| rm.wBit) :: rm.enc 6#3
  | .idivEbEv rm => (0xF6 ||| rm.wBit) :: rm.enc 7#3
  | .incEbEv rm => (0xFE ||| rm.wBit) :: rm.enc 0#3
  | .decEbEv rm => (0xFE ||| rm.wBit) :: rm.enc 1#3
  | .callEv rm => 0xFF :: rm.enc 2#3
  | .callMpMod01 m => 0xFF :: m.enc 3#3
  | .callMpMod2 m => 0xFF :: m.enc 3#3
  | .callMpMod3 rm => 0xFF :: (RM16.reg rm).enc 3#3
  | .jmpEv rm => 0xFF :: rm.enc 4#3
  | .jmpMpMod01 m => 0xFF :: m.enc 5#3
  | .jmpMpMod2 m => 0xFF :: m.enc 5#3
  | .jmpMpMod3 rm => 0xFF :: (RM16.reg rm).enc 5#3
  | .pushEv rm => 0xFF :: rm.enc 6#3
  | .pushEvReg7 rm => 0xFF :: rm.enc 7#3
  | .ext0F op2 => [0x0F, op2]
  | .boundMod01 r m => 0x62 :: m.enc r.code
  | .boundMod2 r m => 0x62 :: m.enc r.code
  | .pushIv imm => 0x68 :: wordBytes imm
  | .imulGvEvIv r rm imm => 0x69 :: rm.enc r.code ++ wordBytes imm
  | .pushIbs imm => [0x6A, imm]
  | .imulGvEvIbs r rm imm => 0x6B :: rm.enc r.code ++ [imm]
  | .rolEbEvIb rm imm => (0xC0 ||| rm.wBit) :: rm.enc 0#3 ++ [imm]
  | .rorEbEvIb rm imm => (0xC0 ||| rm.wBit) :: rm.enc 1#3 ++ [imm]
  | .rclEbEvIb rm imm => (0xC0 ||| rm.wBit) :: rm.enc 2#3 ++ [imm]
  | .rcrEbEvIb rm imm => (0xC0 ||| rm.wBit) :: rm.enc 3#3 ++ [imm]
  | .shlEbEvIb rm imm => (0xC0 ||| rm.wBit) :: rm.enc 4#3 ++ [imm]
  | .shrEbEvIb rm imm => (0xC0 ||| rm.wBit) :: rm.enc 5#3 ++ [imm]
  | .sarEbEvIb rm imm => (0xC0 ||| rm.wBit) :: rm.enc 7#3 ++ [imm]
  | .enter size level => 0xC8 :: wordBytes size ++ [level]
  | .pushEs => [0x06]
  | .popEs => [0x07]
  | .pushCs => [0x0E]
  | .popCs => [0x0F]
  | .pushSs => [0x16]
  | .popSs => [0x17]
  | .pushDs => [0x1E]
  | .popDs => [0x1F]
  | .segEs => [0x26]
  | .daa => [0x27]
  | .segCs => [0x2E]
  | .das => [0x2F]
  | .segSs => [0x36]
  | .aaa => [0x37]
  | .segDs => [0x3E]
  | .aas => [0x3F]
  | .nop => [0x90]
  | .xchgAxCx => [0x91]
  | .xchgAxDx => [0x92]
  | .xchgAxBx => [0x93]
  | .xchgAxSp => [0x94]
  | .xchgAxBp => [0x95]
  | .xchgAxSi => [0x96]
  | .xchgAxDi => [0x97]
  | .cbw => [0x98]
  | .cwd => [0x99]
  | .wait => [0x9B]
  | .pushf => [0x9C]
  | .popf => [0x9D]
  | .sahf => [0x9E]
  | .lahf => [0x9F]
  | .movsb => [0xA4]
  | .movsw => [0xA5]
  | .cmpsb => [0xA6]
  | .cmpsw => [0xA7]
  | .stosb => [0xAA]
  | .stosw => [0xAB]
  | .lodsb => [0xAC]
  | .lodsw => [0xAD]
  | .scasb => [0xAE]
  | .scasw => [0xAF]
  | .retC1 => [0xC1]
  | .ret => [0xC3]
  | .retfC9 => [0xC9]
  | .retf => [0xCB]
  | .int3 => [0xCC]
  | .into => [0xCE]
  | .iret => [0xCF]
  | .salc => [0xD6]
  | .xlat => [0xD7]
  | .inAlDx => [0xEC]
  | .inAxDx => [0xED]
  | .outDxAl => [0xEE]
  | .outDxAx => [0xEF]
  | .lock => [0xF0]
  | .lockF1 => [0xF1]
  | .repne => [0xF2]
  | .rep => [0xF3]
  | .hlt => [0xF4]
  | .cmc => [0xF5]
  | .clc => [0xF8]
  | .stc => [0xF9]
  | .cli => [0xFA]
  | .sti => [0xFB]
  | .cld => [0xFC]
  | .std => [0xFD]
  | .fe2 => [0xFE, 0x10]
  | .fe3 => [0xFE, 0x18]
  | .fe4 => [0xFE, 0x20]
  | .fe5 => [0xFE, 0x28]
  | .fe6 => [0xFE, 0x30]
  | .fe7 => [0xFE, 0x38]
  | .pusha => [0x60]
  | .popa => [0x61]
  | .undef62Mod3 => [0x62, 0xC0]
  | .undef63 => [0x63]
  | .repnc => [0x64]
  | .repc => [0x65]
  | .undef66 => [0x66]
  | .undef67 => [0x67]
  | .insb => [0x6C]
  | .insw => [0x6D]
  | .outsb => [0x6E]
  | .outsw => [0x6F]
  | .undefC0Reg6 => [0xC0, 0x30, 0x00]
  | .leave => [0xC9]
  | .undefD0Reg6 => [0xD0, 0x30]
  | .undefD6 => [0xD6]
  | .undefF1 => [0xF1]
  | .undefFe2 => [0xFE, 0x10]
  | .undefFe3 => [0xFE, 0x18]
  | .undefFe4 => [0xFE, 0x20]
  | .undefFe5 => [0xFE, 0x28]
  | .undefFe6 => [0xFE, 0x30]
  | .undefFe7 => [0xFE, 0x38]
  | .undef8DMod3 => [0x8D, 0xC0]
  | .undefC4Mod3 => [0xC4, 0xC0]
  | .undefC5Mod3 => [0xC5, 0xC0]
  | .undefFfReg3 => [0xFF, 0xD8]
  | .undefFfReg5 => [0xFF, 0xE8]
  | .add4s => [0x0F, 0x20]
  | .sub4s => [0x0F, 0x22]
  | .cmp4s => [0x0F, 0x26]
  | .test1EbCl => [0x0F, 0x10, 0x00]
  | .test1EvCl => [0x0F, 0x11, 0x00]
  | .clr1EbCl => [0x0F, 0x12, 0x00]
  | .clr1EvCl => [0x0F, 0x13, 0x00]
  | .set1EbCl => [0x0F, 0x14, 0x00]
  | .set1EvCl => [0x0F, 0x15, 0x00]
  | .not1EbCl => [0x0F, 0x16, 0x00]
  | .not1EvCl => [0x0F, 0x17, 0x00]
  | .test1EbIb => [0x0F, 0x18, 0x00, 0x00]
  | .test1EvIb => [0x0F, 0x19, 0x00, 0x00]
  | .clr1EbIb => [0x0F, 0x1A, 0x00, 0x00]
  | .clr1EvIb => [0x0F, 0x1B, 0x00, 0x00]
  | .set1EbIb => [0x0F, 0x1C, 0x00, 0x00]
  | .set1EvIb => [0x0F, 0x1D, 0x00, 0x00]
  | .not1EbIb => [0x0F, 0x1E, 0x00, 0x00]
  | .not1EvIb => [0x0F, 0x1F, 0x00, 0x00]
  | .rol4 => [0x0F, 0x28, 0x00]
  | .ror4 => [0x0F, 0x2A, 0x00]
  | .insFieldReg => [0x0F, 0x31, 0x00]
  | .insFieldImm => [0x0F, 0x39, 0x00, 0x00]
  | .extFieldReg => [0x0F, 0x33, 0x00]
  | .extFieldImm => [0x0F, 0x3B, 0x00, 0x00]
  | .brkem => [0x0F, 0xFF, 0x00]

/-! ### Immediates that are read late (32_decode_sequencer.md R267, D40; log 47) -/

/-- How many bytes at the end of the instruction are read only after its operand has been loaded: the immediate, where there is an
r/m operand that the operation loads. -/
def Instr.lateBytes : Instr → Nat
  | .addEbIb _ _ => 1
  | .orEbIb _ _ => 1
  | .adcEbIb _ _ => 1
  | .sbbEbIb _ _ => 1
  | .andEbIb _ _ => 1
  | .subEbIb _ _ => 1
  | .xorEbIb _ _ => 1
  | .cmpEbIb _ _ => 1
  | .addEbIb82 _ _ => 1
  | .orEbIb82 _ _ => 1
  | .adcEbIb82 _ _ => 1
  | .sbbEbIb82 _ _ => 1
  | .andEbIb82 _ _ => 1
  | .subEbIb82 _ _ => 1
  | .xorEbIb82 _ _ => 1
  | .cmpEbIb82 _ _ => 1
  | .testEbIb _ _ => 1
  | .testEbIbReg1 _ _ => 1
  | .addEvIv _ _ => 2
  | .orEvIv _ _ => 2
  | .adcEvIv _ _ => 2
  | .sbbEvIv _ _ => 2
  | .andEvIv _ _ => 2
  | .subEvIv _ _ => 2
  | .xorEvIv _ _ => 2
  | .cmpEvIv _ _ => 2
  | .testEvIv _ _ => 2
  | .testEvIvReg1 _ _ => 2
  | .addEvIbs _ _ => 1
  | .orEvIbs _ _ => 1
  | .adcEvIbs _ _ => 1
  | .sbbEvIbs _ _ => 1
  | .andEvIbs _ _ => 1
  | .subEvIbs _ _ => 1
  | .xorEvIbs _ _ => 1
  | .cmpEvIbs _ _ => 1
  | .rolEbEvIb _ _ => 1
  | .rorEbEvIb _ _ => 1
  | .rclEbEvIb _ _ => 1
  | .rcrEbEvIb _ _ => 1
  | .shlEbEvIb _ _ => 1
  | .shrEbEvIb _ _ => 1
  | .sarEbEvIb _ _ => 1
  | .imulGvEvIv _ _ _ => 2
  | .imulGvEvIbs _ _ _ => 1
  | _ => 0

/-! ### Instruction words as the opcode table numbers them (log 23) -/

/-- The longest instruction without prefixes is six bytes (30_encoding.md R190). -/
def maxInstrBytes : Nat := 6

/-- The `n` bytes of a number whose first byte is the most significant one: 30_encoding.md R201 writes an instruction's
bytes as `(byte0 << 8) | byte1`. -/
def bigEndianBytes : Nat → Nat → List Byte
  | 0, _ => []
  | n + 1, w => BitVec.ofNat 8 (w / 256 ^ n) :: bigEndianBytes n w

/-- The bytes in memory of the instruction whose table bits are `w`, padded with zero bytes to the longest instruction. -/
def tableBytes (nbits w : Nat) : List Byte :=
  let n := (nbits + 7) / 8
  bigEndianBytes n w ++ List.replicate (maxInstrBytes - n) 0

/-- The instruction that the decoder of the default CPU (I8088, log 1) reads from the bits `w` of a row. -/
def decodeTableWord (nbits w : Nat) : Option Instr :=
  match decode .i8088 (tableBytes nbits w) with
  | .ok i _ => some i
  | .rejected _ => none

end Sys2Proof
end

