-- ==== Sys2Proof/Machine/Flags.lean ====
section
/-! DEFINITION. The flags word (10_state.md R35, R36) and every flag computation: 41_arithmetic.md R350 to R375,
42_logic_shift_rotate.md R400 to R415. -/
namespace Sys2Proof.Machine
open Sys2Proof

/-! ### The flags word -/

/-- The bits of the flags (10_state.md R35). -/
def cfMask : Word := 0x0001
def pfMask : Word := 0x0004
def afMask : Word := 0x0010
def zfMask : Word := 0x0040
def sfMask : Word := 0x0080
def tfMask : Word := 0x0100
def ifMask : Word := 0x0200
def dfMask : Word := 0x0400
def ofMask : Word := 0x0800

/-- CF PF AF ZF SF OF. -/
def statusMask : Word := 0x08D5
/-- PF AF ZF SF OF: what INC and DEC write (41_arithmetic.md R356). -/
def incMask : Word := 0x08D4
/-- PF ZF SF. -/
def szpMask : Word := 0x00C4
/-- CF PF AF ZF SF: what a shift by more than one writes (42_logic_shift_rotate.md R407). -/
def shiftMask : Word := 0x00D5

def flagCF (f : Word) : Bool := f.getLsbD 0
def flagPF (f : Word) : Bool := f.getLsbD 2
def flagAF (f : Word) : Bool := f.getLsbD 4
def flagZF (f : Word) : Bool := f.getLsbD 6
def flagSF (f : Word) : Bool := f.getLsbD 7
def flagTF (f : Word) : Bool := f.getLsbD 8
def flagIF (f : Word) : Bool := f.getLsbD 9
def flagDF (f : Word) : Bool := f.getLsbD 10
def flagOF (f : Word) : Bool := f.getLsbD 11

/-- Write the bits of `mask` from `bits`, keep the others. -/
def putFlags (mask bits f : Word) : Word := (f &&& ~~~mask) ||| (bits &&& mask)

/-- A word with a bit set or clear. -/
def bitIf (b : Bool) (m : Word) : Word := if b then m else 0

/-- The six status flags as bits of a word. -/
def packStatus (c p a z s o : Bool) : Word :=
  bitIf c cfMask ||| bitIf p pfMask ||| bitIf a afMask ||| bitIf z zfMask ||| bitIf s sfMask ||| bitIf o ofMask

/-- The filter of a write of the whole word: reserved bits are pinned (10_state.md R36). -/
def pinFlags (v : Word) : Word := (v &&& 0x0FD5) ||| 0xF002

/-- The reserved bits read as 10_state.md R36 says. -/
def flagsPinned (f : Word) : Bool := (f &&& 0xF02A) == 0xF002

/-! ### Sign, zero, parity (41_arithmetic.md R350) -/

/-- PF: the low 8 bits hold an even number of ones. -/
def parity {n : Nat} (r : BitVec n) : Bool :=
  !(r.getLsbD 0 ^^ r.getLsbD 1 ^^ r.getLsbD 2 ^^ r.getLsbD 3 ^^ r.getLsbD 4 ^^ r.getLsbD 5 ^^ r.getLsbD 6 ^^ r.getLsbD 7)

/-- `SZP_N(r)` on a flags word. -/
def szp {n : Nat} (r : BitVec n) (f : Word) : Word :=
  putFlags szpMask (packStatus false (parity r) false (r == 0) r.msb false) f

/-! ### Addition and subtraction (41_arithmetic.md R351, R352) -/

/-- A bit as a number. -/
def bitNat (b : Bool) : Nat := if b then 1 else 0

def addN {n : Nat} (a b : BitVec n) (c : Bool) : BitVec n := a + b + BitVec.ofNat n (bitNat c)

/-- The flags of `ADD_N(a, b, c)`. -/
def addStatus {n : Nat} (a b : BitVec n) (c : Bool) : Word :=
  let r := addN a b c
  packStatus
    (decide (2 ^ n ≤ a.toNat + b.toNat + bitNat c))
    (parity r)
    (decide (0xF < a.toNat % 16 + b.toNat % 16 + bitNat c))
    (r == 0)
    r.msb
    (a.msb == b.msb && r.msb != a.msb)

def subN {n : Nat} (a b : BitVec n) (c : Bool) : BitVec n := a - b - BitVec.ofNat n (bitNat c)

/-- The flags of `SUB_N(a, b, c)`. -/
def subStatus {n : Nat} (a b : BitVec n) (c : Bool) : Word :=
  let r := subN a b c
  packStatus
    (decide (a.toNat < b.toNat + bitNat c))
    (parity r)
    (decide (a.toNat % 16 < b.toNat % 16 + bitNat c))
    (r == 0)
    r.msb
    (a.msb != b.msb && r.msb != a.msb)

/-- The flags of `LOGIC_N(r)` (42_logic_shift_rotate.md R400). -/
def logicStatus {n : Nat} (r : BitVec n) : Word :=
  packStatus false (parity r) false (r == 0) r.msb false

/-! ### The two-operand operations (41_arithmetic.md R353) -/

/-- The operations of group 1, and TEST. -/
inductive AluOp where
  | add | or | adc | sbb | and | sub | xor | cmp | test
  deriving DecidableEq, Repr

/-- The result, before it is written or discarded. -/
def aluResult {n : Nat} (op : AluOp) (a b : BitVec n) (cf : Bool) : BitVec n :=
  match op with
  | .add => addN a b false
  | .or => a ||| b
  | .adc => addN a b cf
  | .sbb => subN a b cf
  | .and => a &&& b
  | .sub => subN a b false
  | .xor => a ^^^ b
  | .cmp => subN a b false
  | .test => a &&& b

/-- The six status flags after the operation. -/
def aluStatus {n : Nat} (op : AluOp) (a b : BitVec n) (cf : Bool) : Word :=
  match op with
  | .add => addStatus a b false
  | .or => logicStatus (a ||| b)
  | .adc => addStatus a b cf
  | .sbb => subStatus a b cf
  | .and => logicStatus (a &&& b)
  | .sub => subStatus a b false
  | .xor => logicStatus (a ^^^ b)
  | .cmp => subStatus a b false
  | .test => logicStatus (a &&& b)

/-- The flags word after the operation: the six status flags, all else kept. -/
def aluFlags {n : Nat} (op : AluOp) (a b : BitVec n) (f : Word) : Word :=
  putFlags statusMask (aluStatus op a b (flagCF f)) f

/-- CMP and TEST write no destination (41_arithmetic.md R353). -/
def AluOp.writes : AluOp → Bool
  | .add => true
  | .or => true
  | .adc => true
  | .sbb => true
  | .and => true
  | .sub => true
  | .xor => true
  | .cmp => false
  | .test => false

/-! ### Shifts and rotates (42_logic_shift_rotate.md R407 to R415) -/

inductive ShiftOp where
  | rol | ror | rcl | rcr | shl | shr | sar
  deriving DecidableEq, Repr

/-- `x` with its top bit set or clear. -/
def topBit (n : Nat) (b : Bool) : BitVec n := if b then BitVec.intMin n else 0

/-- A bit at the bottom. -/
def lowBit (n : Nat) (b : Bool) : BitVec n := BitVec.ofNat n (bitNat b)

/-- One step on CF and the operand. -/
def shiftStep {n : Nat} (op : ShiftOp) (cf : Bool) (x : BitVec n) : Bool × BitVec n :=
  match op with
  | .shl => (x.msb, x <<< 1)
  | .shr => (x.getLsbD 0, x >>> 1)
  | .sar => (x.getLsbD 0, (x >>> 1) ||| topBit n x.msb)
  | .rol => (x.msb, (x <<< 1) ||| lowBit n x.msb)
  | .ror => (x.getLsbD 0, (x >>> 1) ||| topBit n (x.getLsbD 0))
  | .rcl => (x.msb, (x <<< 1) ||| lowBit n cf)
  | .rcr => (x.getLsbD 0, (x >>> 1) ||| topBit n cf)

/-- `count` steps, CF updated on each (R407). -/
def shiftIter {n : Nat} (op : ShiftOp) : Nat → Bool → BitVec n → Bool × BitVec n
  | 0, cf, x => (cf, x)
  | k + 1, cf, x =>
    let r := shiftStep op cf x
    shiftIter op k r.1 r.2

/-- The operation moves bits to the left. -/
def ShiftOp.isLeft : ShiftOp → Bool
  | .shl => true
  | .rol => true
  | .rcl => true
  | .shr => false
  | .sar => false
  | .ror => false
  | .rcr => false

/-- The operation is a rotate. -/
def ShiftOp.isRotate : ShiftOp → Bool
  | .rol => true
  | .ror => true
  | .rcl => true
  | .rcr => true
  | .shl => false
  | .shr => false
  | .sar => false

/-- OF for a count of one: the XOR of the top two bits, of CF:x for the left-moving operations (R408). -/
def shiftOF {n : Nat} (op : ShiftOp) (cf : Bool) (x : BitVec n) : Bool :=
  if op.isLeft then cf ^^ x.msb else x.msb ^^ x.getLsbD (n - 2)

/-- The flags that a shift or rotate by `count ≥ 1` writes (R407, R408). -/
def shiftWritten (op : ShiftOp) (count : Nat) : Word :=
  (if op.isRotate then cfMask else shiftMask) ||| bitIf (count == 1) ofMask

/-- The flags word after a shift or rotate by `count ≥ 1` that ends with `cf` and `x`. -/
def shiftFlags {n : Nat} (op : ShiftOp) (count : Nat) (cf : Bool) (x : BitVec n) (f : Word) : Word :=
  putFlags (shiftWritten op count) (packStatus cf (parity x) false (x == 0) x.msb (shiftOF op cf x)) f

/-! ### Conditions (44_control_transfer.md R471) -/

/-- The condition with number `cc`. -/
def condition (cc : Nat) (f : Word) : Bool :=
  match cc with
  | 0 => flagOF f
  | 1 => !flagOF f
  | 2 => flagCF f
  | 3 => !flagCF f
  | 4 => flagZF f
  | 5 => !flagZF f
  | 6 => flagCF f || flagZF f
  | 7 => !flagCF f && !flagZF f
  | 8 => flagSF f
  | 9 => !flagSF f
  | 10 => flagPF f
  | 11 => !flagPF f
  | 12 => flagSF f != flagOF f
  | 13 => flagSF f == flagOF f
  | 14 => flagZF f || (flagSF f != flagOF f)
  | _ => !flagZF f && (flagSF f == flagOF f)

end Sys2Proof.Machine
end

