-- ==== Sys2Proof/Machine/Memory.lean ====
section
/-! DEFINITION. Memory as a list of address and byte, in one canonical form (log 4), and linear addresses
(20_memory.md R72). -/
namespace Sys2Proof.Machine
open Sys2Proof

/-- `Lin(seg, off) = ((seg << 4) + off) & 0xFFFFF` (20_memory.md R72). -/
def lin (sv off : Word) : BitVec 20 := (sv.setWidth 20 <<< 4) + off.setWidth 20

/-- What an address that is not listed reads as: DESIGN CHOICE (log 4). -/
def unlistedByte : Byte := 0

/-- The byte at an address. -/
def memRead : List Host.Cell → Nat → Byte
  | [], _ => unlistedByte
  | c :: m, a => if c.1 = a then c.2 else memRead m a

/-- Remove an address. -/
def memErase : List Host.Cell → Nat → List Host.Cell
  | [], _ => []
  | c :: m, a => if c.1 = a then m else c :: memErase m a

/-- Put a byte that is not the unlisted one in its place in the order. -/
def memInsert : List Host.Cell → Nat → Byte → List Host.Cell
  | [], a, v => [(a, v)]
  | c :: m, a, v =>
    if a < c.1 then (a, v) :: c :: m
    else if c.1 = a then (a, v) :: m
    else c :: memInsert m a v

/-- Store a byte; the byte an unlisted address reads as is not listed. -/
def memWrite (m : List Host.Cell) (a : Nat) (v : Byte) : List Host.Cell :=
  if v = unlistedByte then memErase m a else memInsert m a v

/-- Every address of the list is above `lo`, the addresses rise, and no byte is the unlisted one. -/
def memWfFrom : Option Nat → List Host.Cell → Bool
  | _, [] => true
  | lo, c :: m =>
    (match lo with
     | none => true
     | some l => decide (l < c.1)) && c.2 != unlistedByte && memWfFrom (some c.1) m

/-- The canonical form. -/
def Memory.wf (m : List Host.Cell) : Bool := memWfFrom none m

end Sys2Proof.Machine
end

