-- ==== Sys2Proof/Machine/State.lean ====
section
/-! DEFINITION. Everything the spec gives the machine (10_state.md R20 to R58), the inputs of the environment, and the
state after reset (10_state.md R60, R61). -/
namespace Sys2Proof.Machine
open Sys2Proof

/-! ### Registers -/

/-- The eight general registers (10_state.md R21). -/
structure Gpr where
  ax : Word
  cx : Word
  dx : Word
  bx : Word
  sp : Word
  bp : Word
  si : Word
  di : Word
  deriving DecidableEq, Repr

/-- The four segment registers (10_state.md R41). -/
structure Segs where
  es : Word
  cs : Word
  ss : Word
  ds : Word
  deriving DecidableEq, Repr

/-! ### Decoding and sequencing -/

/-- The variants of the REP prefix; no prefix is `none` of an option (10_state.md R52). -/
inductive RepKind where
  | rep | repne | repe | repnc | repc
  deriving DecidableEq, Repr

/-- The decode state of one instruction (10_state.md R52, 32_decode_sequencer.md R262). -/
structure DecodeState where
  segOverride : Option SReg
  rep : Option RepKind
  lockPrefix : Bool
  /-- A repeated string instruction is between iterations. -/
  inRep : Bool
  /-- TF when the instruction began (60_exceptions.md R624). -/
  tfAtStart : Bool
  /-- The decoded instruction: operation, operands and sizes. -/
  instr : Option Instr
  /-- The starting CS:IP, the first prefix byte included. -/
  startCs : Word
  startIp : Word
  /-- The length in bytes as fetched so far, prefixes included. -/
  length : Nat
  /-- The offset of the last prefix byte read (70_reset_and_hazards.md R686). -/
  lastPrefixIp : Word
  /-- The mandatory prefix byte and the opcode byte; of a prefix byte, that byte (32_decode_sequencer.md R262, R263). -/
  mandatory : Option Byte
  opcode : Option Byte
  /-- The operand pair of an undefined encoding of the V20/V30, whose constructor carries none (32_decode_sequencer.md R262, log 24). -/
  operands : OperandPair
  deriving DecidableEq, Repr

/-- The instruction lifecycle (10_state.md R53, 32_decode_sequencer.md R260). -/
inductive Life where
  | fetch | decodePrefix | decodeOpcode | decodeModRM | loadOperand | execute | storeOperand | checkInterrupts
  deriving DecidableEq, Repr

/-- An interrupt sequence (60_exceptions.md R629): for NMI, for INTR, for the single-step trap. -/
inductive IntSequence where
  | nmi | intr | singleStep
  deriving DecidableEq, Repr

/-- The inputs (60_exceptions.md R637, 00_scope.md R9 `TEST_PIN`). -/
structure Pins where
  /-- The INTR level. -/
  intr : Bool
  /-- The vector that the interrupt controller supplies in the second INTA cycle. -/
  vector : Byte
  /-- The NMI level; its rising edge sets the latch (60_exceptions.md R625). -/
  nmi : Bool
  /-- TEST is active (the coprocessor is not busy). -/
  test : Bool
  deriving DecidableEq, Repr

/-! ### The bus interface unit, level T (10_state.md R54) -/

/-- The access type (22_biu_tstate_engine.md R135). -/
inductive Access where
  | es | cs | ss | ds | none
  deriving DecidableEq, Repr

/-- The T-cycle state (22_biu_tstate_engine.md R136). -/
inductive TState where
  | tinit | ti | t1 | t2 | t3 | tw | t4
  deriving DecidableEq, Repr

/-- The address cycle (22_biu_tstate_engine.md R148). -/
inductive TaState where
  | tr | ts | t0 | td | ta
  deriving DecidableEq, Repr

/-- The bus state (22_biu_tstate_engine.md R134). -/
inductive BusState where
  | passive | codeFetch | memRead | memWrite | ioRead | ioWrite | interruptAck | halt
  deriving DecidableEq, Repr

/-- The fetch state (22_biu_tstate_engine.md R152). -/
inductive FetchState where
  | normal | suspended | halted | delayed (n : Nat) | pausedFull
  deriving DecidableEq, Repr

/-- The queue-operation status (22_biu_tstate_engine.md R133). -/
inductive QueueOp where
  | idle | first | subsequent | flush
  deriving DecidableEq, Repr

/-- The transfers the EU can ask for; `interruptAck` is the pair of cycles (22_biu_tstate_engine.md R149, R157, R158). -/
inductive ReqKind where
  | memRead | memWrite | ioRead | ioWrite | interruptAck | halt
  deriving DecidableEq, Repr

/-- A transfer the EU asks for (22_biu_tstate_engine.md R149). -/
structure BusReq where
  kind : ReqKind
  access : Access
  /-- The segment value, for a memory access. -/
  seg : Word
  /-- The offset, or the port number. -/
  off : Word
  /-- A 16-bit transfer. -/
  wide : Bool
  /-- The data of a write. -/
  data : Word
  /-- The last transfer of its instruction. -/
  last : Bool
  deriving DecidableEq, Repr

/-- On whose behalf the address cycle runs (22_biu_tstate_engine.md R148, R149). -/
inductive Prep where
  | idle | fetch | eu
  deriving DecidableEq, Repr

/-- The bus cycle in progress, from `T1` to `T4`. -/
structure BusCycle where
  /-- It transfers two bytes. -/
  wide : Bool
  /-- The data of a write. -/
  data : Word
  /-- A second cycle of the same request follows (20_memory.md R82, 22_biu_tstate_engine.md R149). -/
  more : Bool
  /-- It is the second cycle of its request. -/
  second : Bool
  /-- It is flagged as the last transfer of its instruction. -/
  last : Bool
  /-- A flush has discarded this code fetch (22_biu_tstate_engine.md R154). -/
  discard : Bool
  deriving DecidableEq, Repr

/-- The state of the bus interface unit. -/
structure Biu where
  tState : TState
  ta : TaState
  busState : BusState
  access : Access
  /-- The 20-bit address latch. -/
  address : BitVec 20
  dataBus : Word
  /-- The byte an I/O read has returned at `T3`, until it is placed on the data bus (22_biu_tstate_engine.md R142). -/
  ioLatch : Word
  busWait : Nat
  ioWait : Nat
  dmaWait : Nat
  fetchState : FetchState
  /-- The EU request waiting to start or in its address cycle; of a request of two cycles, until the second starts. -/
  pending : Option BusReq
  prep : Prep
  cycle : Option BusCycle
  /-- The data delivered to the EU at `T4`, and whether the EU proceeds in this tick (22_biu_tstate_engine.md R144). -/
  euData : Word
  euReady : Bool
  queueOp : QueueOp
  /-- The byte the EU has taken from the queue in this tick. -/
  queueByte : Option Byte
  /-- A read of the empty queue by the EU, which waits for its byte (21_prefetch_queue.md R116). -/
  queueRead : Bool
  deriving DecidableEq, Repr

/-- The states of the refresh scheduler (23_dma_refresh_scheduler.md R171); `ending` is the state `End`. -/
inductive DmaState where
  | idle | dreq | hrq | holdA | operating (n : Nat) | ending
  deriving DecidableEq, Repr

/-- The refresh scheduler (23_dma_refresh_scheduler.md R171). -/
structure Dma where
  st : DmaState
  refreshCtr : Nat
  deriving DecidableEq, Repr

/-- The command lines of the 8288 (22_biu_tstate_engine.md R138), ALE apart. -/
structure Commands where
  mrdc : Bool
  amwc : Bool
  mwtc : Bool
  iorc : Bool
  aiowc : Bool
  iowc : Bool
  inta : Bool
  deriving DecidableEq, Repr

/-- The cycle-state record: the outputs of one tick (22_biu_tstate_engine.md R132). -/
structure CycleRecord where
  number : Nat
  address : BitVec 20
  tState : TState
  access : Access
  busState : BusState
  ale : Bool
  commands : Commands
  queueOp : QueueOp
  queueByte : Option Byte
  queueLen : Nat
  queue : List Byte
  dataBus : Word
  deriving DecidableEq, Repr

/-! ### Bus operations and the agenda -/

/-- One bus operation, as an observer of the bus sees it (32_decode_sequencer.md R276, log 27). -/
inductive BusEvent where
  | codeFetch (addr : BitVec 20) (wide : Bool) (data : Word)
  | memRead (access : Access) (addr : BitVec 20) (wide : Bool) (data : Word)
  | memWrite (access : Access) (addr : BitVec 20) (wide : Bool) (data : Word)
  | ioRead (port : Word) (data : Byte)
  | ioWrite (port : Word) (data : Byte)
  /-- An interrupt-acknowledge cycle, with the level of LOCK and, in the second, the vector (60_exceptions.md R626). -/
  | intAck (locked : Bool) (vector : Option Byte)
  | halt
  deriving DecidableEq, Repr

/-- What the EU does in a tick (22_biu_tstate_engine.md R156). -/
inductive EuAct where
  | idle
  /-- A byte of the instruction under way is popped. -/
  | pop
  /-- An instruction boundary: the byte popped is the first of an instruction (21_prefetch_queue.md R115). -/
  | popFirst
  | flush (cs ip : Word)
  | request (r : BusReq)
  | beginFetch
  | abortFetch
  | suspendFetch
  | resumeFetch
  | delayFetch (n : Nat)
  | setLock (b : Bool)
  deriving DecidableEq, Repr

/-- What the bus returns in a tick: a wait-state count and the data of a device or port (22_biu_tstate_engine.md R131). -/
structure BusIn where
  /-- The wait states of this instant, beside those of `Cfg` (20_memory.md R75, log 42). -/
  wait : Nat
  data : Word
  deriving DecidableEq, Repr

/-- One event of the agenda (log 7). -/
inductive Event where
  /-- The EU takes a step. -/
  | eu
  /-- INTR takes a level, and the controller a vector. -/
  | intr (level : Bool) (vector : Byte)
  /-- NMI takes a level. -/
  | nmi (level : Bool)
  /-- TEST takes a level. -/
  | test (level : Bool)
  /-- Reset (70_reset_and_hazards.md R670). -/
  | reset
  /-- Devices and ports will return these bytes next. -/
  | device (bs : List Byte)
  /-- One clock tick (22_biu_tstate_engine.md R140). -/
  | tick (act : EuAct) (inp : BusIn)
  deriving DecidableEq, Repr

/-! ### The state -/

/-- The whole machine. -/
structure State where
  gpr : Gpr
  seg : Segs
  /-- IP, the offset of the next byte to be executed (10_state.md R30). -/
  ip : Word
  /-- PC, the offset of the next byte to be fetched (10_state.md R31). -/
  pc : Word
  /-- FLAGS (10_state.md R35). -/
  flags : Word
  /-- The prefetch queue, head first (21_prefetch_queue.md R110). -/
  queue : List Byte
  nextIsFirst : Bool
  /-- The last effective address (10_state.md R46). -/
  lastEa : Word
  /-- The operand latch (10_state.md R47). -/
  eaOpr : Word
  /-- The one-instruction interrupt inhibit (10_state.md R48). -/
  inhibit : Bool
  nmiLatch : Bool
  /-- The LOCK output (10_state.md R50). -/
  lock : Bool
  halted : Bool
  dec : DecodeState
  life : Life
  /-- The interrupt sequences that the last `CheckInterrupts` has accepted and that have not run yet, next first: each is a step
  (00_scope.md R8, 32_decode_sequencer.md R278, log 8). -/
  sequences : List IntSequence
  pins : Pins
  biu : Biu
  dma : Dma
  /-- The cycle counter (10_state.md R56). -/
  cycles : Nat
  /-- The record of the last tick (10_state.md R57). -/
  record : Option CycleRecord
  /-- Memory: address and byte, addresses rising, no byte 0x00, which an unlisted address reads as (log 4). -/
  mem : List Host.Cell
  /-- The bus operations made so far, newest first (log 27). -/
  bus : List BusEvent
  /-- What devices and ports return next, oldest first (log 6). -/
  devIn : List Byte
  /-- The agenda, next event first (log 7). -/
  script : List Event
  /-- How many code fetches the prefetcher makes at each of the next points where it may (21_prefetch_queue.md R111, log 9). -/
  fills : List Nat
  /-- The values CS had before the loads that did not flush, newest first, until the next flush: a code byte that is not in the queue
  comes from any of these segments or from that of CS (46_undefined_opcodes.md R553, R565, log 46). -/
  stale : List Word
  /-- How many EU steps have begun (log 6). -/
  steps : Nat
  /-- How many free values have been taken (log 40). -/
  draws : Nat
  /-- The parameters of the block (00_scope.md R9). -/
  cfg : Cfg
  deriving DecidableEq, Repr

/-- Why the machine stops with a fault. The bus and the decoder are total (20_memory.md R78, 30_encoding.md R204), so the
hardware never does. -/
inductive Fault where
  /-- Raised by `step` when the six bytes at CS:IP do not decode. Safe, and never raised: every six bytes decode. -/
  | undecodable
  deriving DecidableEq, Repr

/-- Why the model declines an instruction. -/
inductive Refusal where
  /-- An instruction that has no meaning in the model yet. Safe. -/
  | notModelled (mnemonic : String)
  /-- Raised by `FE /2` to `FE /7` of the 8088/8086, which 46_undefined_opcodes.md R563 has a model refuse. Safe (log 21). -/
  | byteFormOfGroup5
  /-- Raised by the `0F` opcodes of the V20/V30 that 47_v20_v30_extensions.md R595 has a model refuse. Safe (log 22). -/
  | necOnlyOpcode
  deriving DecidableEq, Repr

/-! ### Reset -/

/-- The parameters of each CPU (00_scope.md R9; log 5). -/
def Cfg.ofCpu (cpu : CpuModel) : Cfg where
  cpu := cpu
  queueCapacity :=
    match cpu with
    | .i8088 => .four
    | .i8086 => .six
    | .v20 => .four
    | .v30 => .six
  busWidth :=
    match cpu with
    | .i8088 => .byte
    | .i8086 => .word
    | .v20 => .byte
    | .v30 => .word
  addrBits := .twenty
  ioAddrBits := .sixteen
  shiftCountMask :=
    match cpu with
    | .i8088 => 0xFF
    | .i8086 => 0xFF
    | .v20 => 0x1F
    | .v30 => 0x1F
  unmappedFill := 0xFF
  regions := []
  readWait := []
  writeWait := []
  ioWriteWait := []
  idivMinTraps := true
  boundReturnsNext := false
  repTfPerIteration := false
  repResumeAtLastPrefix := false
  refreshPeriod := 72
  dmaOperatingSteps := 6
  dmaWaitStates := 7
  euTiming := .agenda
  undefFlags := .anyValue
  testPin := .input

/-- The parameters of the default CPU (00_scope.md R9, D1; log 1). -/
def Cfg.reset : Cfg := Cfg.ofCpu .i8088

/-- General registers after reset: DESIGN CHOICE, the spec gives none (10_state.md R25, log 2). -/
def Gpr.reset : Gpr where
  ax := 0
  cx := 0
  dx := 0
  bx := 0
  sp := 0
  bp := 0
  si := 0
  di := 0

/-- No prefix, no instruction (10_state.md R61). -/
def DecodeState.clear : DecodeState where
  segOverride := none
  rep := none
  lockPrefix := false
  inRep := false
  tfAtStart := false
  instr := none
  startCs := 0
  startIp := 0
  length := 0
  lastPrefixIp := 0
  mandatory := none
  opcode := none
  operands := OperandPair.empty

/-- The bus interface unit after reset (10_state.md R61; address latch, data bus and the latches beside them: log 3). -/
def Biu.reset : Biu where
  tState := .tinit
  ta := .td
  busState := .passive
  access := .none
  address := 0
  dataBus := 0
  ioLatch := 0
  busWait := 0
  ioWait := 0
  dmaWait := 0
  fetchState := .normal
  pending := none
  prep := .idle
  cycle := none
  euData := 0
  euReady := false
  queueOp := .idle
  queueByte := none
  queueRead := false

/-- The machine right after reset (10_state.md R60, R61; logs 2 to 9, 27, 40, 46). -/
def State.reset : State where
  gpr := Gpr.reset
  seg := { es := 0, cs := 0xFFFF, ss := 0, ds := 0 }
  ip := 0
  pc := 0
  flags := 0xF002
  queue := []
  nextIsFirst := true
  lastEa := 0
  eaOpr := 0
  inhibit := false
  nmiLatch := false
  lock := false
  halted := false
  dec := DecodeState.clear
  life := .fetch
  sequences := []
  pins := { intr := false, vector := 0, nmi := false, test := true }
  biu := Biu.reset
  dma := { st := .idle, refreshCtr := 72 }
  cycles := 0
  record := none
  mem := []
  bus := []
  devIn := []
  script := []
  fills := []
  stale := []
  steps := 0
  draws := 0
  cfg := Cfg.reset

end Sys2Proof.Machine
end

