-- ==== Sys2Proof/Machine/Ops.lean ====
section
/-! DEFINITION. The named operations over the state: registers, free values, the bus (20_memory.md), the prefetch queue
(21_prefetch_queue.md), the stack, taking an interrupt and returning from one, and the boundary check
(60_exceptions.md). -/
namespace Sys2Proof.Machine
open Sys2Proof

/-! ### One update per field -/

def State.setGpr (s : State) (v : Gpr) : State := { s with gpr := v }
def State.setSeg (s : State) (v : Segs) : State := { s with seg := v }
def State.setIp (s : State) (v : Word) : State := { s with ip := v }
def State.setPc (s : State) (v : Word) : State := { s with pc := v }
def State.setFlags (s : State) (v : Word) : State := { s with flags := v }
def State.setQueue (s : State) (v : List Byte) : State := { s with queue := v }
def State.setNextIsFirst (s : State) (v : Bool) : State := { s with nextIsFirst := v }
def State.setLastEa (s : State) (v : Word) : State := { s with lastEa := v }
def State.setEaOpr (s : State) (v : Word) : State := { s with eaOpr := v }
def State.setInhibit (s : State) (v : Bool) : State := { s with inhibit := v }
def State.setNmiLatch (s : State) (v : Bool) : State := { s with nmiLatch := v }
def State.setLock (s : State) (v : Bool) : State := { s with lock := v }
def State.setHalted (s : State) (v : Bool) : State := { s with halted := v }
def State.setDec (s : State) (v : DecodeState) : State := { s with dec := v }
def State.setLife (s : State) (v : Life) : State := { s with life := v }
def State.setSequences (s : State) (v : List IntSequence) : State := { s with sequences := v }
def State.setPins (s : State) (v : Pins) : State := { s with pins := v }
def State.setBiu (s : State) (v : Biu) : State := { s with biu := v }
def State.setDma (s : State) (v : Dma) : State := { s with dma := v }
def State.setCycles (s : State) (v : Nat) : State := { s with cycles := v }
def State.setRecord (s : State) (v : Option CycleRecord) : State := { s with record := v }
def State.setMem (s : State) (v : List Host.Cell) : State := { s with mem := v }
def State.setBus (s : State) (v : List BusEvent) : State := { s with bus := v }
def State.setDevIn (s : State) (v : List Byte) : State := { s with devIn := v }
def State.setScript (s : State) (v : List Event) : State := { s with script := v }
def State.setFills (s : State) (v : List Nat) : State := { s with fills := v }
def State.setStale (s : State) (v : List Word) : State := { s with stale := v }
def State.setSteps (s : State) (v : Nat) : State := { s with steps := v }
def State.setDraws (s : State) (v : Nat) : State := { s with draws := v }

/-! ### Registers (10_state.md R21 to R23, R41) -/

def Gpr.get (g : Gpr) : Reg16 → Word
  | .ax => g.ax
  | .cx => g.cx
  | .dx => g.dx
  | .bx => g.bx
  | .sp => g.sp
  | .bp => g.bp
  | .si => g.si
  | .di => g.di

def Gpr.set (g : Gpr) (r : Reg16) (v : Word) : Gpr :=
  match r with
  | .ax => { g with ax := v }
  | .cx => { g with cx := v }
  | .dx => { g with dx := v }
  | .bx => { g with bx := v }
  | .sp => { g with sp := v }
  | .bp => { g with bp := v }
  | .si => { g with si := v }
  | .di => { g with di := v }

def Segs.get (g : Segs) : SReg → Word
  | .es => g.es
  | .cs => g.cs
  | .ss => g.ss
  | .ds => g.ds

def Segs.set (g : Segs) (r : SReg) (v : Word) : Segs :=
  match r with
  | .es => { g with es := v }
  | .cs => { g with cs := v }
  | .ss => { g with ss := v }
  | .ds => { g with ds := v }

/-- A word with one half replaced. -/
def setHalf (high : Bool) (w : Word) (v : Byte) : Word :=
  if high then wordOf (loByte w) v else wordOf v (hiByte w)

/-- `r16[r]` (00_scope.md R12). -/
def State.r16 (s : State) (r : Reg16) : Word := s.gpr.get r

/-- `r16[r] <- v`. -/
def State.setR16 (s : State) (r : Reg16) (v : Word) : State := s.setGpr (s.gpr.set r v)

/-- `r8[r]`. -/
def State.r8 (s : State) (r : Reg8) : Byte :=
  if r.isHigh then hiByte (s.r16 r.parent) else loByte (s.r16 r.parent)

/-- `r8[r] <- v`: the other half is kept (10_state.md R23). -/
def State.setR8 (s : State) (r : Reg8) (v : Byte) : State :=
  s.setR16 r.parent (setHalf r.isHigh (s.r16 r.parent) v)

/-- `sreg[r]`. -/
def State.sreg (s : State) (r : SReg) : Word := s.seg.get r

/-- `sreg[r] <- v`. -/
def State.setSreg (s : State) (r : SReg) (v : Word) : State := s.setSeg (s.seg.set r v)

/-- The access type of a segment register (22_biu_tstate_engine.md R135). -/
def accessOf : SReg → Access
  | .es => .es
  | .cs => .cs
  | .ss => .ss
  | .ds => .ds

/-! ### Free values (00_scope.md R14, 93_implementation_defined.md U1) -/

/-- The next draw is another free value. -/
def State.bumpDraws (s : State) : State := s.setDraws (s.draws + 1)

/-- `UNDEF_FLAG_POLICY` (00_scope.md R9): any value, a draw. -/
def State.undefinedFlags (s : State) : Word :=
  match s.cfg.undefFlags with
  | .anyValue => Config.freeWord s.draws

/-- `undefined(...)`: the flags of the mask take free values (log 13). -/
def State.havocFlags (s : State) (mask : Word) : State :=
  (s.setFlags (putFlags mask s.undefinedFlags s.flags)).bumpDraws

/-! ### The size of the queue, the width of the bus and the TEST input (00_scope.md R9) -/

/-- `QUEUE_CAPACITY`. -/
def State.capacity (s : State) : Nat :=
  match s.cfg.queueCapacity with
  | .four => 4
  | .six => 6

/-- `BUS_WIDTH` in bytes. -/
def State.busWidth (s : State) : Nat :=
  match s.cfg.busWidth with
  | .byte => 1
  | .word => 2

/-- `TEST_PIN`: the level that WAIT reads, active when the coprocessor is not busy (45_processor_control.md R528). -/
def State.testActive (s : State) : Bool :=
  match s.cfg.testPin with
  | .input => s.pins.test
  | .tied active => active

/-! ### The bus (20_memory.md R70 to R91) -/

/-- Append to the record of bus operations. -/
def State.logBus (s : State) (e : BusEvent) : State := s.setBus (e :: s.bus)

/-- The kind of an address in a memory map: the first region that holds it decides (log 5). -/
def kindIn : List Region → Nat → RegionKind
  | [], _ => .ram
  | r :: rs, a => if r.base ≤ a ∧ a < r.base + r.size then r.kind else kindIn rs a

def State.kindAt (s : State) (a : BitVec 20) : RegionKind := kindIn s.cfg.regions a.toNat

/-- What a device or port answers: the next byte the environment has queued, else a free byte (log 6). -/
def State.takeDevice (s : State) : Byte × State :=
  match s.devIn with
  | b :: bs => (b, s.setDevIn bs)
  | [] => (Config.freeByte s.draws, s.bumpDraws)

/-- The data of a byte read: memory, the fill byte of an unmapped address (R77), or a device (R79). -/
def State.fetchData (s : State) (a : BitVec 20) : Byte × State :=
  match s.kindAt a with
  | .ram => (memRead s.mem a.toNat, s)
  | .rom => (memRead s.mem a.toNat, s)
  | .unmapped => (s.cfg.unmappedFill, s)
  | .device => s.takeDevice

/-- The effect of a byte write on memory: RAM stores, ROM keeps its contents (R76), an unmapped write is discarded (R77), a
device sees it on the bus only (R79). -/
def State.storeData (s : State) (a : BitVec 20) (v : Byte) : State :=
  match s.kindAt a with
  | .ram => s.setMem (memWrite s.mem a.toNat v)
  | .rom => s
  | .unmapped => s
  | .device => s

/-- A word transfer takes one bus cycle: 16-bit bus, even address (R82). -/
def State.oneCycle (s : State) (a : BitVec 20) : Bool := s.busWidth == 2 && !a.getLsbD 0

/-! ### Code fetches on the bus (21_prefetch_queue.md R112 to R120, 22_biu_tstate_engine.md R150 to R154) -/

/-- A single byte at an odd address of the 16-bit bus is the high byte of the bus word that holds it (R113). -/
def State.fetchesHigh (s : State) (a : BitVec 20) : Bool := s.busWidth == 2 && a.getLsbD 0

/-- The bytes that a code fetch pushes, from a word of the data bus: both (20_memory.md R73), or the single byte in its half (R113). -/
def busBytes (wide high : Bool) (w : Word) : List Byte := if wide then wordBytes w else [if high then hiByte w else loByte w]

/-- The bytes that a code fetch on the bus will push: none when a flush has discarded it (22_biu_tstate_engine.md R154). -/
def Biu.inFlight (b : Biu) : Nat :=
  match b.cycle with
  | some c => if b.busState = .codeFetch ∧ c.discard = false then (if c.wide then 2 else 1) else 0
  | none => 0

/-- Room for `n` bytes more, any fetch in flight counted (22_biu_tstate_engine.md R151). -/
def State.roomFor (s : State) (n : Nat) : Bool := decide (s.queue.length + s.biu.inFlight + n ≤ s.capacity)

/-- `has_room_for_fetch()` (R114). -/
def State.hasRoom (s : State) : Bool := decide (s.queue.length + s.busWidth ≤ s.capacity)

/-- The fetch state follows the room in the queue (R120, 22_biu_tstate_engine.md R152). `Suspended`, `Halted` and `Delayed` last
until what ends them, also when a fetch that completes leaves no room (DESIGN CHOICE, log 30). -/
def syncFetchState (room : Bool) : FetchState → FetchState
  | .normal => if room then .normal else .pausedFull
  | .pausedFull => if room then .normal else .pausedFull
  | .suspended => .suspended
  | .halted => .halted
  | .delayed n => .delayed n

/-- The fetch state is set. -/
def State.setFetch (s : State) (f : FetchState) : State := s.setBiu { s.biu with fetchState := f }

def State.syncFetch (s : State) : State := s.setFetch (syncFetchState s.hasRoom s.biu.fetchState)

/-- Fetched bytes go to the tail of the queue, PC passes them, and `PausedFull` follows when no room is left (R112, R120). -/
def State.pushBytes (s : State) (bs : List Byte) : State :=
  ((s.setQueue (s.queue ++ bs)).setPc (s.pc + BitVec.ofNat 16 bs.length)).syncFetch

/-- A code fetch in progress will not be pushed (22_biu_tstate_engine.md R154). -/
def Biu.discardFetch (b : Biu) : Biu :=
  if b.busState = .codeFetch then { b with cycle := b.cycle.map fun c => { c with discard := true } } else b

/-- The bus is idle. -/
def Biu.toIdle (b : Biu) : Biu := { b with tState := .ti, busState := .passive, access := .none }

/-- The address cycle is given up, and with it a `T1` that has not begun. -/
def Biu.dropAddressCycle (b : Biu) : Biu :=
  let dropped := { b with prep := .idle, ta := .td }
  if b.tState = .t1 then dropped.toIdle else dropped

/-- A code fetch in its address cycle is given up: nothing of it has been seen outside (22_biu_tstate_engine.md R149). In `T1` it is
not given up: there `completeFetch` runs the fetch, for which the address cycle then ends here. -/
def Biu.dropPrepared (b : Biu) : Biu := if b.prep = .fetch then b.dropAddressCycle else b

/-- A code fetch covers two bytes: 16-bit bus, even PC (R112). At an odd PC it pushes the one byte (R113), in a byte-wide cycle
(22_biu_tstate_engine.md R150). -/
def State.fetchWide (s : State) : Bool := s.busWidth == 2 && !s.pc.getLsbD 0

/-! ### Code fetches at level A (R111, R116, 20_memory.md R98; logs 9 and 10) -/

/-- The segment of the code byte at an offset: CS, and after a load of CS without a flush a free one of the old values and the new one
for each byte (46_undefined_opcodes.md R553, R565, U19, log 46). -/
def State.codeSeg (s : State) (off : Word) : Word :=
  match s.stale with
  | [] => s.seg.cs
  | v :: vs => (s.seg.cs :: v :: vs).getD (Config.codeSegment off.toNat s.steps % (vs.length + 2)) s.seg.cs

/-- The code byte that a fetch would read now. A device gives the same byte to every look within one EU step
(32_decode_sequencer.md R274: peeked, then consumed; log 6). -/
def State.codeByte (s : State) (a : BitVec 20) : Byte :=
  match s.kindAt a with
  | .ram => memRead s.mem a.toNat
  | .rom => memRead s.mem a.toNat
  | .unmapped => s.cfg.unmappedFill
  | .device => Config.deviceCode a.toNat s.steps

/-- The linear address of the code byte at an offset. -/
def State.codeAddr (s : State) (off : Word) : BitVec 20 := lin (s.codeSeg off) off

/-- The data that a code fetch at an address would return now. For the single byte at an odd address of the 16-bit bus it is the
word that holds it (R113; with R150's byte-wide cycle: DEDUCED, log 44). -/
def State.codeWord (s : State) (wide : Bool) (a : BitVec 20) : Word :=
  if wide then wordOf (s.codeByte a) (s.codeByte (a + 1))
  else if s.fetchesHigh a then wordOf (s.codeByte (a - 1)) (s.codeByte a)
  else zext16 (s.codeByte a)

/-- The data that a code fetch at PC brings now, each of two bytes from its own segment (log 46). -/
def State.codeAhead (wide : Bool) (s : State) : Word :=
  if wide then wordOf (s.codeByte (s.codeAddr s.pc)) (s.codeByte (s.codeAddr (s.pc + 1)))
  else s.codeWord false (s.codeAddr s.pc)

/-- A bus cycle has begun, which ends `Tinit` (22_biu_tstate_engine.md R136). An EU step stands for whole bus cycles, so the engine is
then in `Ti` (DEDUCED, log 10). -/
def Biu.leaveInit (b : Biu) : Biu := { b with tState := if b.tState = .tinit then .ti else b.tState }

/-- One code fetch: the read is seen on the bus (20_memory.md R88), its bytes are pushed (R112, R113). The record shows the address of
its first byte. -/
def State.fetchNow (wide : Bool) (s : State) : State :=
  let w := s.codeAhead wide
  let a := s.codeAddr s.pc
  ((s.setBiu s.biu.dropPrepared.leaveInit).logBus (.codeFetch a wide w)).pushBytes (busBytes wide (s.fetchesHigh a) w)

/-- The bus after a code fetch. -/
def Biu.endFetch (b : Biu) : Biu := { b.toIdle with cycle := none, busWait := 0 }

/-- The end of a code fetch that brought a word: its bytes are pushed unless a flush has discarded them, and the bus is idle
(22_biu_tstate_engine.md R144, R154). -/
def State.endFetch (c : BusCycle) (w : Word) (s : State) : State :=
  let s1 := s.setBiu s.biu.endFetch
  if c.discard then s1 else s1.pushBytes (busBytes c.wide (s.fetchesHigh s.biu.address) w)

/-- A code fetch in `T2` to `T4` comes to its end; its read is made unless it has been (22_biu_tstate_engine.md R142). -/
def State.completeCycle (s : State) : State :=
  match s.biu.cycle with
  | none => s
  | some c =>
    if s.biu.busState = .codeFetch then
      if s.biu.tState = .t4 then s.endFetch c s.biu.dataBus
      else (s.logBus (.codeFetch s.biu.address c.wide (s.codeWord c.wide s.biu.address))).endFetch c
        (s.codeWord c.wide s.biu.address)
    else s

/-- The engine has come to the `T1` of a code fetch: the next tick latches `Lin(CS, PC)` for it (22_biu_tstate_engine.md R141, R150). -/
def Biu.fetchInT1 (b : Biu) : Bool := b.tState == .t1 && b.prep == .fetch

/-- A code fetch in `T1` to `T4` completes before a transfer of the EU, or the Halt cycle (22_biu_tstate_engine.md R149). -/
def State.completeFetch (s : State) : State :=
  let s1 := s.completeCycle
  if s1.biu.fetchInT1 then s1.fetchNow s1.fetchWide else s1

/-- A fill, where the fetch state and the room allow one (R111). -/
def State.fillOnce (s : State) : State :=
  if s.biu.fetchState = .normal ∧ s.roomFor s.busWidth then s.fetchNow s.fetchWide else s

/-- Some number of fills. -/
def State.fillMany : Nat → State → State
  | 0, s => s
  | n + 1, s => State.fillMany n s.fillOnce

/-- `Delayed(n)` has run out by the time of a fetch: level A has no ticks (22_biu_tstate_engine.md R152, log 9). -/
def State.elapseDelay (s : State) : State :=
  match s.biu.fetchState with
  | .delayed _ => (s.setFetch .normal).syncFetch
  | .normal => s
  | .pausedFull => s
  | .suspended => s
  | .halted => s

/-- So many fills; to make one, a code fetch on the bus comes to its end first. -/
def State.fillBy : Nat → State → State
  | 0, s => s
  | n + 1, s => State.fillMany (n + 1) s.completeFetch.elapseDelay

/-- A point where the prefetcher may fill: before an EU bus access, a change of CS or a flush, and at the start of an EU step. Any
number of fills may come here (R111, D6): as many as the state's schedule says (log 9). -/
def State.prefetch (s : State) : State :=
  match s.fills with
  | [] => s
  | n :: ns => State.fillBy n (s.setFills ns)

/-- The place of an address among the next `QUEUE_CAPACITY` code bytes (20_memory.md R98). -/
def State.windowIndex (s : State) (a : BitVec 20) : Option Nat :=
  (List.range s.capacity).find? fun k =>
    s.codeAddr (s.ip + BitVec.ofNat 16 k) == a

/-- One code fetch towards the last of the next `QUEUE_CAPACITY` bytes: a fill, or that byte alone where the bus's width has no
room and one byte has (R98 counts it in the window; log 9). -/
def State.fetchAhead (s : State) : State :=
  if (s.biu.fetchState = .normal ∨ s.biu.fetchState = .pausedFull) ∧ s.roomFor 1 then
    s.fetchNow (s.fetchWide && s.roomFor s.busWidth)
  else s

/-- At most `n` code fetches, until the queue holds the byte of index `k`. -/
def State.fetchThrough : Nat → Nat → State → State
  | 0, _, s => s
  | n + 1, k, s => if k < s.queue.length then s else State.fetchThrough n k s.fetchAhead

/-- The prefetcher gets as far as an address of the window, if the fetch state lets it. -/
def State.fetchUpTo (a : BitVec 20) (s : State) : State :=
  match s.windowIndex a with
  | some k => State.fetchThrough s.capacity k s.completeFetch.elapseDelay
  | none => s

/-- Whether a byte about to be overwritten is executed with its old value: a draw for each byte of the window that the queue
does not hold yet (20_memory.md R98, D6, U20). -/
def State.drawOld (a : BitVec 20) (s : State) : Bool × State :=
  match s.windowIndex a with
  | some k => if k < s.queue.length then (false, s) else (Config.freeBit s.draws, s.bumpDraws)
  | none => (false, s)

/-- The store of a byte; when its old value is executed, the prefetcher comes first. -/
def State.storeAfter (old : Bool) (a : BitVec 20) (v : Byte) (s : State) : State :=
  (if old then s.fetchUpTo a else s).storeData a v

/-- The store of two bytes in one bus cycle, old or new for each of them: a byte executed with its new value is stored before the
fetch that brings the old value of the other. -/
def State.storePair (a b : BitVec 20) (v w : Byte) (s : State) : State :=
  let da := s.drawOld a
  let db := da.2.drawOld b
  if da.1 && !db.1 then (db.2.storeAfter false b w).storeAfter true a v
  else (db.2.storeAfter da.1 a v).storeAfter db.1 b w

/-! ### Memory primitives (20_memory.md R80, R81) -/

/-- `MemRead(seg, off, 1)`. -/
def readByte (acc : Access) (sv off : Word) (s : State) : Byte × State :=
  let a := lin sv off
  let r := s.prefetch.fetchData a
  (r.1, r.2.logBus (.memRead acc a false (zext16 r.1)))

/-- `MemRead(seg, off, 2)`: low byte first, the high byte at the next offset of the segment. -/
def readWord (acc : Access) (sv off : Word) (s : State) : Word × State :=
  if s.oneCycle (lin sv off) then
    let lo := s.prefetch.fetchData (lin sv off)
    let hi := lo.2.fetchData (lin sv (off + 1))
    let w := wordOf lo.1 hi.1
    (w, hi.2.logBus (.memRead acc (lin sv off) true w))
  else
    let lo := readByte acc sv off s
    let hi := readByte acc sv (off + 1) lo.2
    (wordOf lo.1 hi.1, hi.2)

/-- `MemWrite(seg, off, 1, v)`. -/
def writeByte (acc : Access) (sv off : Word) (v : Byte) (s : State) : State :=
  let d := s.prefetch.drawOld (lin sv off)
  (d.2.storeAfter d.1 (lin sv off) v).logBus (.memWrite acc (lin sv off) false (zext16 v))

/-- `MemWrite(seg, off, 2, v)`: low byte first, the high byte at the next offset of the segment. -/
def writeWord (acc : Access) (sv off : Word) (v : Word) (s : State) : State :=
  if s.oneCycle (lin sv off) then
    (s.prefetch.storePair (lin sv off) (lin sv (off + 1)) (loByte v) (hiByte v)).logBus (.memWrite acc (lin sv off) true v)
  else
    writeByte acc sv (off + 1) (hiByte v) (writeByte acc sv off (loByte v) s)

/-! ### I/O primitives (20_memory.md R83) -/

def ioReadByte (port : Word) (s : State) : Byte × State :=
  let r := s.prefetch.takeDevice
  (r.1, r.2.logBus (.ioRead port r.1))

def ioReadWord (port : Word) (s : State) : Word × State :=
  let lo := ioReadByte port s
  let hi := ioReadByte (port + 1) lo.2
  (wordOf lo.1 hi.1, hi.2)

def ioWriteByte (port : Word) (v : Byte) (s : State) : State := s.prefetch.logBus (.ioWrite port v)

def ioWriteWord (port : Word) (v : Word) (s : State) : State :=
  ioWriteByte (port + 1) (hiByte v) (ioWriteByte port (loByte v) s)

/-! ### The stack (20_memory.md R85) -/

/-- `Push16(v)`. -/
def push16 (v : Word) (s : State) : State :=
  let s1 := s.setR16 .sp (s.r16 .sp - 2)
  writeWord .ss s1.seg.ss (s1.r16 .sp) v s1

/-- `Pop16()`. -/
def pop16 (s : State) : Word × State :=
  let r := readWord .ss s.seg.ss (s.r16 .sp) s
  (r.1, r.2.setR16 .sp (r.2.r16 .sp + 2))

/-! ### Control transfer (21_prefetch_queue.md R117, 44_control_transfer.md R470) -/

/-- `Flush()`: the queue is emptied, PC takes the new IP, a code fetch in flight is discarded, fetching is normal, and the code comes
from the segment of CS (U19). -/
def State.flush (s : State) : State :=
  (((s.setQueue []).setNextIsFirst true).setPc s.ip).setStale []
    |>.setBiu { s.biu.discardFetch with fetchState := .normal, queueRead := false }

def nearTransfer (t : Word) (s : State) : State := (s.prefetch.setIp t).flush

def farTransfer (sv t : Word) (s : State) : State := ((s.prefetch.setSreg .cs sv).setIp t).flush

/-! ### Taking an interrupt, and returning (60_exceptions.md R621, R632) -/

/-- The INT sequence `Interrupt(n)` with return offset `r`: push FLAGS, clear TF and IF, push CS, push `r`, load IP and CS
from the vector table at linear `n*4`, flush (R621; access type of the vector reads: log 29). -/
def interrupt (n : Byte) (r : Word) (s : State) : State :=
  let s1 := push16 s.flags s
  let s2 := s1.setFlags (s1.flags &&& ~~~(tfMask ||| ifMask))
  let s3 := push16 s2.seg.cs s2
  let s4 := push16 r s3
  let off := readWord .none 0 (zext16 n <<< 2) s4
  let sv := readWord .none 0 ((zext16 n <<< 2) + 2) off.2
  farTransfer sv.1 off.1 sv.2

/-- IRET (44_control_transfer.md R493): pop IP, CS and FLAGS, the reserved bits pinned, and flush. -/
def returnFromInterrupt (s : State) : State :=
  let t := pop16 s
  let sv := pop16 t.2
  let f := pop16 sv.2
  farTransfer sv.1 t.1 (f.2.setFlags (pinFlags f.1))

/-- Return offset and flags of a divide error (R622). On the NEC parts the pushed offset is a free choice
(47_v20_v30_extensions.md R597, log 17). -/
def divideError (s : State) : State :=
  let s1 := s.havocFlags statusMask
  if s1.cfg.cpu.isNec then
    interrupt 0 (if Config.freeBit s1.draws then s1.dec.startIp else s1.ip) s1.bumpDraws
  else interrupt 0 s1.ip s1

/-- An undefined opcode of the V20/V30: INT 6 with the offset of the instruction's first byte
(47_v20_v30_extensions.md R583). -/
def undefinedOpcode (s : State) : State := interrupt 6 s.dec.startIp s

/-! ### The instruction boundary (60_exceptions.md R625 to R631) -/

/-- `interrupt_acceptable()` (43_string.md R441). -/
def State.interruptAcceptable (s : State) : Bool :=
  s.nmiLatch || (s.pins.intr && flagIF s.flags && !s.inhibit)

/-- A request for the Halt cycle that has not started is withdrawn: the step that ends the halt comes after that cycle
(22_biu_tstate_engine.md R158, log 10). -/
def Biu.withdrawHalt (b : Biu) : Biu :=
  match b.pending with
  | some r =>
    if r.kind = .halt then { (if b.prep = .eu then b.dropAddressCycle else b) with pending := none } else b
  | none => b

/-- The fetch state once a halt has ended (R631, 22_biu_tstate_engine.md R152). -/
def FetchState.woken : FetchState → FetchState
  | .halted => .normal
  | .normal => .normal
  | .suspended => .suspended
  | .delayed n => .delayed n
  | .pausedFull => .pausedFull

/-- The halt ends as the interrupt is accepted (R631), and the fetch state is `Normal` from here on, before the INTA cycles and the
pushes: R631 does not place that in the sequence (DESIGN CHOICE, log 49). -/
def State.wake (s : State) : State :=
  (s.setBiu { s.biu.withdrawHalt with fetchState := s.biu.fetchState.woken }).setHalted false

/-- The sequences that a boundary check accepts, in their order: NMI, else INTR if it is enabled and not blocked; then the single-step
trap, if TF was set when the instruction began (R624, R627, R629). -/
def State.accepted (s : State) : List IntSequence :=
  (if s.nmiLatch then [.nmi] else if s.pins.intr && flagIF s.flags && !s.inhibit then [.intr] else []) ++
    (if s.dec.tfAtStart then [.singleStep] else [])

/-- After the check, and the sequences that it has accepted, the machine fetches, or stays at the check while halted
(32_decode_sequencer.md R278, 45_processor_control.md R527). -/
def enterFetch (s : State) : State :=
  if s.halted then s.setLife .checkInterrupts else (s.setNextIsFirst true).setLife .fetch

/-- What the check does whatever it accepts: the inhibit is cleared (R627), the LOCK output of a prefix is released
(32_decode_sequencer.md R278), the decode state is cleared (10_state.md R52). -/
def endInstr (s : State) : State :=
  ((s.setInhibit false).setLock (s.lock && !s.dec.lockPrefix)).setDec DecodeState.clear

/-- `CheckInterrupts` (60_exceptions.md R629): with nothing accepted the machine goes on to fetch. Else the halt ends, an accepted NMI
leaves its latch, and the sequences stand to run, each a step of its own (00_scope.md R8, log 8). -/
def checkInterrupts (s : State) : State :=
  match s.accepted with
  | [] => enterFetch (endInstr s)
  | q :: qs => (((endInstr s).setNmiLatch false).wake.setLife .checkInterrupts).setSequences (q :: qs)

/-- The two INTA cycles: LOCK is asserted during the first, the vector comes in the second, and the controller drops its
request (R626; log 25). -/
def acknowledge (s : State) : State :=
  (((s.prefetch.logBus (.intAck true none)).logBus (.intAck false (some s.pins.vector))).setLock false).setPins
    { s.pins with intr := false }

/-- An interrupt sequence: NMI (R625), INTR (R626), the single-step trap (R624). -/
def sequenceOp (q : IntSequence) (s : State) : State :=
  match q with
  | .nmi => interrupt 2 s.ip s
  | .intr => interrupt s.pins.vector s.ip (acknowledge s)
  | .singleStep => interrupt 1 s.ip s

/-- One accepted sequence runs. After the last one the machine fetches. -/
def runSequence (q : IntSequence) (rest : List IntSequence) (s : State) : State :=
  let t := sequenceOp q (s.setSequences rest)
  match rest with
  | [] => enterFetch t
  | _ :: _ => t

/-! ### Fetching (32_decode_sequencer.md R261 to R267) -/

/-- The `Fetch` state: decode state cleared, TF sampled, the start noted, the next byte tagged First (R261). -/
def beginInstr (s : State) : State :=
  (s.setDec { DecodeState.clear with tfAtStart := flagTF s.flags, startCs := s.seg.cs, startIp := s.ip }).setNextIsFirst true

/-- The next code bytes: those of the queue, then those in memory at `Lin(CS, IP + k)` (21_prefetch_queue.md R116, R274; the segment
after a load of CS: log 46). -/
def State.codeAt (s : State) (k : Nat) : Byte :=
  match s.queue[k]? with
  | some b => b
  | none => s.codeByte (s.codeAddr (s.ip + BitVec.ofNat 16 k))

/-- As many bytes as the longest instruction has. -/
def State.window (s : State) : List Byte := (List.range maxInstrBytes).map s.codeAt

/-- The fetch state once a wait for a byte has ended: suspended fetching has resumed, a delay has run out (21_prefetch_queue.md
R116, 22_biu_tstate_engine.md R152). -/
def FetchState.resumed : FetchState → FetchState
  | .suspended => .normal
  | .delayed _ => .normal
  | .normal => .normal
  | .pausedFull => .normal
  | .halted => .halted

/-- On an empty queue `QueueByte()` waits: a code fetch on the bus comes to its end, or suspended fetching resumes, a delay runs
out, and the next fetch brings the byte at `Lin(CS, IP)` (21_prefetch_queue.md R116). In `Halted` the wait would last for ever (R116):
no step comes here in it, `euStep` begins the halt instead. -/
def State.await (s : State) : State :=
  match s.queue with
  | _ :: _ => s
  | [] =>
    let s1 := s.completeFetch
    match s1.queue with
    | _ :: _ => s1
    | [] =>
      let s2 := (s1.setFetch s1.biu.fetchState.resumed).setPc s1.ip
      s2.fetchNow s2.fetchWide

/-- The byte at the head of the queue is taken, and IP passes it; no read of the queue waits any more, and room ends `PausedFull`
(21_prefetch_queue.md R115, R116, R120). -/
def State.popByte (s : State) : State :=
  ((((s.setQueue s.queue.tail).setIp (s.ip + 1)).setNextIsFirst false).setBiu { s.biu with queueRead := false }).syncFetch

/-- `QueueByte()` (21_prefetch_queue.md R116). -/
def takeByte (s : State) : State := s.await.popByte

def takeBytes : Nat → State → State
  | 0, s => s
  | n + 1, s => takeBytes n (takeByte s)

/-- The `n` bytes of an instruction, or of a prefix, are taken, but for those that its meaning takes after the load of its operand
(32_decode_sequencer.md R261 to R267). -/
def consume (n : Nat) (i : Instr) (s : State) : State :=
  let d := { s.dec with
    instr := some i, length := s.dec.length + n, mandatory := mandatoryPrefix s.cfg.cpu s.window
    opcode := opcodeByte s.cfg.cpu s.window, operands := undefinedOperands s.cfg.cpu s.window }
  takeBytes (n - i.lateBytes) (s.setDec d)

/-! ### Reset (70_reset_and_hazards.md R670 to R676) -/

/-- The reset input: the specified state of 10_state.md R60, R61. Memory, devices, parameters and the environment are not
touched (R672); general registers, `last_ea` and the latches are left as they were (R672, log 28). -/
def State.applyReset (s : State) : State :=
  { s with
    seg := State.reset.seg
    ip := 0
    pc := 0
    flags := 0xF002
    queue := []
    stale := []
    nextIsFirst := true
    inhibit := false
    nmiLatch := false
    lock := false
    halted := false
    dec := DecodeState.clear
    life := .fetch
    sequences := []
    biu := { Biu.reset with address := s.biu.address, dataBus := s.biu.dataBus, ioLatch := s.biu.ioLatch,
                            euData := s.biu.euData }
    dma := { st := .idle, refreshCtr := s.cfg.refreshPeriod }
    cycles := 0
    record := none }

end Sys2Proof.Machine
end

