-- ==== Sys2Proof/Machine/Biu.lean ====
section
/-! DEFINITION. The bus interface unit of level T: one clock tick (22_biu_tstate_engine.md R130 to R160) with the refresh
scheduler (23_dma_refresh_scheduler.md R170 to R183). Readings that the spec leaves to a model: log 30. -/
namespace Sys2Proof.Machine
open Sys2Proof

/-! ### Small questions about the engine -/

/-- The scheduler holds the bus (23_dma_refresh_scheduler.md R179). -/
def DmaState.holds : DmaState → Bool
  | .operating _ => true
  | .idle => false
  | .dreq => false
  | .hrq => false
  | .holdA => false
  | .ending => false

/-- A new bus cycle may follow this T-cycle state (R146). -/
def TState.betweenCycles : TState → Bool
  | .tinit => true
  | .ti => true
  | .t4 => true
  | .t1 => false
  | .t2 => false
  | .t3 => false
  | .tw => false

/-- The command lines (R138). -/
def commandsOf (hold : Bool) (b : BusState) (t : TState) : Commands :=
  let early := !hold && (t == .t2 || t == .t3 || t == .tw)
  let late := !hold && (t == .t3 || t == .tw)
  { mrdc := early && (b == .codeFetch || b == .memRead)
    amwc := early && b == .memWrite
    mwtc := late && b == .memWrite
    iorc := early && b == .ioRead
    aiowc := early && b == .ioWrite
    iowc := late && b == .ioWrite
    inta := early && b == .interruptAck }

/-- The queue-status code QS1:QS0 (R133). -/
def QueueOp.code : QueueOp → BitVec 2
  | .idle => 0
  | .first => 1
  | .flush => 2
  | .subsequent => 3

/-- The status code S2:S1:S0 (R134). -/
def BusState.code : BusState → BitVec 3
  | .interruptAck => 0
  | .ioRead => 1
  | .ioWrite => 2
  | .halt => 3
  | .codeFetch => 4
  | .memRead => 5
  | .memWrite => 6
  | .passive => 7

/-! ### The EU's part of a tick (R155, R156) -/

/-- A read of the queue (21_prefetch_queue.md R115, R116): the byte at its head is popped. On an empty queue the read waits, and
suspended fetching is resumed; the EU makes the read again in each tick until a code fetch has pushed a byte (`State.euAct`). -/
def popQueue (s : State) : State :=
  match s.queue with
  | [] =>
    s.setBiu { s.biu with
      queueRead := true, fetchState := if s.biu.fetchState = .suspended then .normal else s.biu.fetchState }
  | b :: _ =>
    (s.setBiu { s.biu with queueOp := if s.nextIsFirst then .first else .subsequent, queueByte := some b }).popByte

/-- The transfers that the EU demands, as bus states. -/
def ReqKind.busState : ReqKind → BusState
  | .memRead => .memRead
  | .memWrite => .memWrite
  | .ioRead => .ioRead
  | .ioWrite => .ioWrite
  | .interruptAck => .interruptAck
  | .halt => .halt

/-- The bus cycle in progress is one that the EU demands. -/
def BusState.demanded : BusState → Bool
  | .memRead => true
  | .memWrite => true
  | .ioRead => true
  | .ioWrite => true
  | .interruptAck => true
  | .halt => true
  | .codeFetch => false
  | .passive => false

/-- The EU is stalled by a transfer: from a request to the `T4` of its last bus cycle (R149). -/
def Biu.stalled (b : Biu) : Bool := b.pending.isSome || (b.cycle.isSome && b.busState.demanded)

/-- `EU_TIMING` (00_scope.md R9): the spec gives no timing, and the EU does in a tick what the agenda says (log 7). -/
def timedAct (t : EuTiming) (a : EuAct) : EuAct :=
  match t with
  | .agenda => a

/-- What the EU does in a tick: nothing while it is halted or stalled by a transfer (10_state.md R51, R149). A read of the queue that
waits stalls it too: it makes that read and nothing else (21_prefetch_queue.md R116). -/
def State.euAct (s : State) (a : EuAct) : EuAct :=
  if s.halted || s.biu.stalled then .idle
  else if s.biu.queueRead then .pop
  else timedAct s.cfg.euTiming a

/-- The EU's action, before step 1. A request for the Halt cycle stops fetching (R158). That `biu_bus_begin_fetch` and
`biu_resume_fetch` do nothing outside `Suspended`, and that `biu_suspend_fetch` and a delay replace any other fetch state, is a
DESIGN CHOICE (log 30): R152 and R155 say only what they do to `Suspended`. -/
def euActs (a : EuAct) (s : State) : State :=
  match a with
  | .idle => s
  | .pop => popQueue s
  | .popFirst => popQueue (s.setNextIsFirst true)
  | .flush cs ip =>
    let s1 := ((s.setSreg .cs cs).setIp ip).flush
    s1.setBiu { s1.biu with queueOp := .flush }
  | .request r =>
    s.setBiu { s.biu with pending := some r, fetchState := if r.kind = .halt then .halted else s.biu.fetchState }
  | .beginFetch => if s.biu.fetchState = .suspended then s.setBiu { s.biu with fetchState := .normal } else s
  | .abortFetch => s
  | .suspendFetch => s.setBiu { s.biu with fetchState := .suspended }
  | .resumeFetch => if s.biu.fetchState = .suspended then s.setBiu { s.biu with fetchState := .normal } else s
  | .delayFetch n => s.setBiu { s.biu with fetchState := .delayed n }
  | .setLock b => s.setLock b

/-! ### Step 1: T1 and T2 (R141) -/

/-- `T1` of a code fetch (R150). -/
def startFetch (s : State) : State :=
  s.setBiu { s.biu with
    prep := .idle, busState := .codeFetch, access := .cs, address := lin s.seg.cs s.pc
    cycle := some { wide := s.fetchWide, data := 0, more := false, second := false, last := false, discard := false } }

/-- The cycle that just ended is the first of two. -/
def Biu.secondHalf (b : Biu) : Bool :=
  match b.cycle with
  | some c => c.more
  | none => false

/-- A request is for memory. -/
def BusReq.onMemory (r : BusReq) : Bool := r.kind == .memRead || r.kind == .memWrite

/-- A request takes two bus cycles: the interrupt-acknowledge pair (R157), a word of I/O (20_memory.md R83), a word of
memory that does not fit one cycle (20_memory.md R82). -/
def BusReq.twoCycles (r : BusReq) (s : State) : Bool :=
  match r.kind with
  | .interruptAck => true
  | .memRead => r.wide && !s.oneCycle (lin r.seg r.off)
  | .memWrite => r.wide && !s.oneCycle (lin r.seg r.off)
  | .ioRead => r.wide
  | .ioWrite => r.wide
  | .halt => false

/-- The address of one cycle of a request. InterruptAck and Halt have none, and leave the latch as it is. -/
def BusReq.address (r : BusReq) (second : Bool) (latch : BitVec 20) : BitVec 20 :=
  let off := if second then r.off + 1 else r.off
  match r.kind with
  | .memRead => lin r.seg off
  | .memWrite => lin r.seg off
  | .ioRead => off.setWidth 20
  | .ioWrite => off.setWidth 20
  | .interruptAck => latch
  | .halt => latch

/-- `T1` of a transfer demanded by the EU (R149). LOCK is asserted from the `T1` of the first interrupt-acknowledge cycle
to its `T4` (R157). With the Halt cycle the halt begins (R158, 10_state.md R51). -/
def startEu (r : BusReq) (s : State) : State :=
  let second := s.biu.secondHalf
  let two := r.twoCycles s
  let more := two && !second
  let full := r.wide && !two && r.onMemory
  let s1 := if r.kind = .interruptAck then s.setLock more else if r.kind = .halt then s.setHalted true else s
  s1.setBiu { s1.biu with
    prep := .idle, busState := r.kind.busState, access := if r.onMemory then r.access else .none
    address := r.address second s1.biu.address
    pending := if more then some r else none
    cycle := some { wide := full
                    data := if full then r.data else zext16 (if second then hiByte r.data else loByte r.data)
                    more := more, second := second, last := r.last && !more, discard := false } }

/-- `T1`: the cycle that the address cycle prepared starts. -/
def actionT1 (s : State) : State :=
  match s.biu.prep, s.biu.pending with
  | .eu, some r => startEu r s
  | .eu, none => s
  | .fetch, _ => startFetch s
  | .idle, _ => s

/-- `T2`: a write drives its data. -/
def actionT2 (s : State) : State :=
  match s.biu.cycle with
  | some c =>
    if s.biu.busState = .memWrite ∨ s.biu.busState = .ioWrite then s.setBiu { s.biu with dataBus := c.data } else s
  | none => s

/-! ### Steps 1 and 2: the wait counters and the data transfer (R141, R142, R145) -/

/-- Step 2: each counter falls by one, `io_wait` only while the scheduler does not hold the bus. -/
def drainWaits (hold : Bool) (b : Biu) : Biu :=
  { b with busWait := b.busWait - 1, ioWait := if hold then b.ioWait else b.ioWait - 1, dmaWait := b.dmaWait - 1 }

/-- The part of a wait count that the platform fixes by address: the first region that holds it decides (20_memory.md R75). -/
def waitIn : List WaitRegion → Nat → Nat
  | [], _ => 0
  | r :: rs, a => if r.base ≤ a ∧ a < r.base + r.size then r.wait else waitIn rs a

/-- The wait count of the access: `get_read_wait`, `get_write_wait`, `io_write_wait` or that of the I/O read; unmapped memory takes
no waits (R145, 20_memory.md R75, R77, log 42). -/
def State.waitCount (inp : BusIn) (s : State) : Nat :=
  let a := s.biu.address
  let memory (t : List WaitRegion) := if s.kindAt a = .unmapped then 0 else waitIn t a.toNat + inp.wait
  match s.biu.busState with
  | .codeFetch => memory s.cfg.readWait
  | .memRead => memory s.cfg.readWait
  | .memWrite => memory s.cfg.writeWait
  | .ioRead => inp.wait
  | .ioWrite => waitIn s.cfg.ioWriteWait a.toNat + inp.wait
  | .interruptAck => 0
  | .halt => 0
  | .passive => 0

/-- The wait count of the access is loaded at `T3`. -/
def loadWait (w : Nat) (b : Biu) : Biu :=
  match b.busState with
  | .codeFetch => { b with busWait := w }
  | .memRead => { b with busWait := w }
  | .memWrite => { b with busWait := w }
  | .ioRead => { b with ioWait := w }
  | .ioWrite => { b with ioWait := w }
  | .interruptAck => b
  | .halt => b
  | .passive => b

/-- No wait counter is running. -/
def Biu.noWait (b : Biu) : Bool := b.busWait == 0 && b.ioWait == 0 && b.dmaWait == 0

/-- The port of an I/O cycle: the low `IO_ADDR_BITS` of the address latch (00_scope.md R9). -/
def State.portOf (s : State) (a : BitVec 20) : Word := BitVec.ofNat 16 (a.toNat % 2 ^ s.cfg.ioAddrBits.bits)

/-- The call of an I/O read is made at `T3` (R142), in a tick that sees `Operating(n)` too, where no command line is active: R142 names
the tick of this call (90_conflicts.md C15), though 23_dma_refresh_scheduler.md R180 keeps bus operations out of such ticks
(DEDUCED, log 48). -/
def callIoRead (inp : BusIn) (s : State) : State :=
  if s.biu.busState = .ioRead then
    (s.setBiu { s.biu with ioLatch := zext16 (loByte inp.data) }).logBus
      (.ioRead (s.portOf s.biu.address) (loByte inp.data))
  else s

/-- A byte that the bus returns: memory, the fill byte, or the device. -/
def busByte (s : State) (a : BitVec 20) (dev : Byte) : Byte :=
  match s.kindAt a with
  | .ram => memRead s.mem a.toNat
  | .rom => memRead s.mem a.toNat
  | .unmapped => s.cfg.unmappedFill
  | .device => dev

/-- What a read of one or two bytes at the latched address returns, on the data bus. -/
def busRead (wide : Bool) (inp : BusIn) (s : State) : Word :=
  let lo := busByte s s.biu.address (loByte inp.data)
  if wide then wordOf lo (busByte s (s.biu.address + 1) (hiByte inp.data)) else zext16 lo

/-- What a code fetch at the latched address puts on the data bus. With the single byte at an odd address of the 16-bit bus comes the
word that holds it, that byte in the high half (21_prefetch_queue.md R113; with R150's byte-wide cycle: DEDUCED, log 44). -/
def busFetch (wide : Bool) (inp : BusIn) (s : State) : Word :=
  if !wide && s.fetchesHigh s.biu.address then
    wordOf (busByte s (s.biu.address - 1) (loByte inp.data)) (busByte s s.biu.address (hiByte inp.data))
  else busRead wide inp s

/-- The bus operation of the cycle, and the data bus after it. The Halt cycle makes none: the cycle-state records show it. -/
def transfer (c : BusCycle) (inp : BusIn) (s : State) : State :=
  let a := s.biu.address
  match s.biu.busState with
  | .codeFetch =>
    let w := busFetch c.wide inp s
    (s.setBiu { s.biu with dataBus := w }).logBus (.codeFetch a c.wide w)
  | .memRead =>
    let w := busRead c.wide inp s
    (s.setBiu { s.biu with dataBus := w }).logBus (.memRead s.biu.access a c.wide w)
  | .memWrite =>
    let s1 := s.storeData a (loByte c.data)
    let s2 := if c.wide then s1.storeData (a + 1) (hiByte c.data) else s1
    s2.logBus (.memWrite s.biu.access a c.wide c.data)
  | .ioRead => s.setBiu { s.biu with dataBus := s.biu.ioLatch }
  | .ioWrite => s.logBus (.ioWrite (s.portOf a) (loByte c.data))
  | .interruptAck =>
    if c.second then
      (s.setBiu { s.biu with dataBus := zext16 s.pins.vector }).logBus (.intAck s.lock (some s.pins.vector))
    else (s.setBiu { s.biu with dataBus := inp.data }).logBus (.intAck s.lock none)
  | .halt => s
  | .passive => s

/-- The transfer takes place when no counter is left running. -/
def transferIfDone (inp : BusIn) (s : State) : State :=
  if s.biu.noWait then
    match s.biu.cycle with
    | some c => transfer c inp s
    | none => s
  else s

/-! ### Step 1: T4 (R144) -/

/-- The end of a code fetch: its bytes go to the queue, unless a flush discarded them (R144, R154). The fetch is over. -/
def pushFetched (c : BusCycle) (s : State) : State :=
  let s1 := s.setBiu { s.biu with cycle := none }
  if c.discard then s1 else s1.pushBytes (busBytes c.wide (s.fetchesHigh s.biu.address) s.biu.dataBus)

/-- The data for the EU, a second byte above the first. -/
def latchForEu (c : BusCycle) (s : State) : State :=
  let w := if c.second then wordOf (loByte s.biu.euData) (loByte s.biu.dataBus) else s.biu.dataBus
  s.setBiu { s.biu with euData := w, euReady := !c.more }

/-- `T4`. -/
def actionT4 (s : State) : State :=
  match s.biu.cycle with
  | none => s
  | some c =>
    match s.biu.busState with
    | .codeFetch => pushFetched c s
    | .memRead => latchForEu c s
    | .ioRead => latchForEu c s
    | .interruptAck => s.setBiu { s.biu with euData := s.biu.dataBus, euReady := !c.more }
    | .memWrite => s.setBiu { s.biu with euReady := !c.more }
    | .ioWrite => s.setBiu { s.biu with euReady := !c.more }
    | .halt => s.setBiu { s.biu with euReady := true }
    | .passive => s

/-- Steps 1 and 2 of a tick. -/
def stepsOneTwo (hold : Bool) (inp : BusIn) (s : State) : State :=
  let drained := s.setBiu (drainWaits hold s.biu)
  match s.biu.tState with
  | .t1 => actionT1 drained
  | .t2 => actionT2 drained
  | .t3 => transferIfDone inp (callIoRead inp (drained.setBiu (loadWait (drained.waitCount inp) drained.biu)))
  | .tw => transferIfDone inp drained
  | .t4 => actionT4 drained
  | .ti => drained
  | .tinit => drained

/-! ### Steps 3 and 4: the next T-state and the address cycle (R143, R146, R148, R149, R151, R153) -/

/-- The EU request, or `biu_fetch_abort()`, aborts the fetch whose address cycle is in `T0` (R153). -/
def Biu.aborts (b : Biu) (a : EuAct) : Bool := b.prep == .fetch && (b.pending.isSome || a == .abortFetch)

/-- A prepared bus cycle starts on the next tick. -/
def Biu.starts (b : Biu) (hold : Bool) (a : EuAct) : Bool :=
  b.ta == .t0 && !hold && !b.aborts a && b.tState.betweenCycles

/-- Step 3 (R146). -/
def nextTState (starts noWait : Bool) : TState → TState
  | .tinit => if starts then .t1 else .tinit
  | .ti => if starts then .t1 else .ti
  | .t1 => .t2
  | .t2 => .t3
  | .t3 => if noWait then .t4 else .tw
  | .tw => if noWait then .t4 else .tw
  | .t4 => if starts then .t1 else .ti

/-- When a fetch decision is made (R143). -/
def Biu.decides (b : Biu) : Bool :=
  b.tState == .ti || b.tState == .tinit || b.busState == .codeFetch ||
    (b.tState == .t2 && match b.cycle with
      | some c => c.last
      | none => false)

/-- A fetch decision begins a code fetch (R151). -/
def fetchBegins (hold : Bool) (s : State) : Bool :=
  s.biu.decides && s.biu.fetchState == .normal && s.biu.pending.isNone && !hold && s.roomFor s.busWidth

/-- Step 4: one transition of the address cycle. -/
def addressCycle (hold : Bool) (a : EuAct) (s : State) : Biu :=
  let b := s.biu
  match b.ta with
  | .td =>
    if b.pending.isSome then { b with ta := .tr, prep := .eu }
    else if fetchBegins hold s then { b with ta := .tr, prep := .fetch }
    else b
  | .tr =>
    if b.prep = .fetch ∧ a = .abortFetch then { b with ta := .td, prep := .idle }
    else { b with ta := .ts, prep := if b.pending.isSome then .eu else b.prep }
  | .ts =>
    if b.prep = .fetch ∧ a = .abortFetch then { b with ta := .td, prep := .idle }
    else { b with ta := .t0, prep := if b.pending.isSome then .eu else b.prep }
  | .t0 =>
    if b.aborts a then { b with ta := .ta, prep := .idle }
    else if b.starts hold a then { b with ta := .td }
    else b
  | .ta => if b.tState.betweenCycles then { b with ta := .td } else b

/-- `Delayed(n)` counts down (R152). -/
def tickDelay : FetchState → FetchState
  | .delayed 0 => .normal
  | .delayed (n + 1) => .delayed n
  | .normal => .normal
  | .suspended => .suspended
  | .halted => .halted
  | .pausedFull => .pausedFull

/-! ### Step 5: the refresh scheduler (23_dma_refresh_scheduler.md R172 to R178) -/

/-- The hold is acknowledged (R175). -/
def holdAcknowledged (s : State) : Bool :=
  !s.lock && (s.biu.busState == .passive || s.biu.tState == .t3 || s.biu.tState == .tw || s.biu.tState == .t4)

/-- One transition of the scheduler, which holds the bus for `DMA_OPERATING_STEPS` ticks (R174). -/
def DmaState.next (steps : Nat) (ack : Bool) : DmaState → DmaState
  | .idle => .idle
  | .dreq => .hrq
  | .hrq => .holdA
  | .holdA => if ack then .operating 0 else .holdA
  | .operating n => if n + 1 < steps then .operating (n + 1) else .ending
  | .ending => .idle

/-- The scheduler's tick; entering `Operating(0)` loads `dma_wait` (R173, R178). -/
def tickDma (s : State) : State :=
  let expires := decide (s.dma.refreshCtr ≤ 1)
  let st := if expires && s.dma.st == .idle then .dreq else s.dma.st.next s.cfg.dmaOperatingSteps (holdAcknowledged s)
  let s1 := s.setDma { st := st, refreshCtr := if expires then s.cfg.refreshPeriod else s.dma.refreshCtr - 1 }
  if s.dma.st = .holdA ∧ st = .operating 0 then s1.setBiu { s1.biu with dmaWait := s.cfg.dmaWaitStates } else s1

/-! ### The tick (R140) -/

/-- Step 6: the cycle-state record (R132). The data bus keeps the last value put on it until the next transfer, or the `T2` of the next
write: its value outside `T3`, `Tw` and `T4` is unspecified (93_implementation_defined.md U18; DESIGN CHOICE, log 50). -/
def recordOf (hold : Bool) (s : State) : CycleRecord where
  number := s.cycles
  address := s.biu.address
  tState := s.biu.tState
  access := s.biu.access
  busState := s.biu.busState
  ale := s.biu.tState == .t1
  commands := commandsOf hold s.biu.busState s.biu.tState
  queueOp := s.biu.queueOp
  queueByte := s.biu.queueByte
  queueLen := s.queue.length
  queue := s.queue
  dataBus := s.biu.dataBus

/-- The engine enters the T-state that step 3 computed. Outside a bus cycle the bus is `Passive` (R134). A cycle that has a
second one to come is kept until that one starts. -/
def enterTState (t : TState) (b : Biu) : Biu :=
  let done := { b with tState := t, cycle := if b.tState = .t4 ∧ b.secondHalf = false then none else b.cycle }
  if t = .ti ∨ t = .tinit then { done with busState := .passive, access := .none } else done

/-- One clock tick: the action of the EU, where no stall and no halt holds it up, then the six steps of R140. `Delayed(n)` moves on
after step 4, so that a delay which the EU asks for bars the fetch decisions of its own tick and of `n` more: that place in the tick
is a DESIGN CHOICE (log 30), R152 gives none. -/
def tick (act : EuAct) (inp : BusIn) (s : State) : State :=
  let hold := s.dma.st.holds
  let a := s.euAct act
  let s0 := euActs a (s.setBiu { s.biu with queueOp := .idle, queueByte := none, euReady := false })
  let s1 := stepsOneTwo hold inp s0
  let t := nextTState (s1.biu.starts hold a) s1.biu.noWait s1.biu.tState
  let s2 := s1.setBiu (addressCycle hold a s1)
  let s3 := s2.setBiu { s2.biu with fetchState := tickDelay s2.biu.fetchState }
  let s4 := tickDma s3
  let s5 := (s4.setRecord (some (recordOf hold s4))).setCycles (s4.cycles + 1)
  s5.setBiu (enterTState t s5.biu)

end Sys2Proof.Machine
end

