-- ==== Sys2Proof/Machine/Operands.lean ====
section
/-! DEFINITION. Effective addresses (31_modrm_ea.md) and every operand form: loading, storing, and the operand patterns that
instruction families share (32_decode_sequencer.md R270 to R276, 41_arithmetic.md R353). -/
namespace Sys2Proof.Machine
open Sys2Proof

/-! ### Effective address (31_modrm_ea.md R232, R236, R238) -/

/-- The sum of the base and index registers. -/
def baseSum (b : Base) (s : State) : Word :=
  match b with
  | .bxsi => s.r16 .bx + s.r16 .si
  | .bxdi => s.r16 .bx + s.r16 .di
  | .bpsi => s.r16 .bp + s.r16 .si
  | .bpdi => s.r16 .bp + s.r16 .di
  | .si => s.r16 .si
  | .di => s.r16 .di
  | .bp => s.r16 .bp
  | .bx => s.r16 .bx

/-- `EA.off` (R236). -/
def eaOff (m : Mem) (s : State) : Word :=
  match m with
  | .ind b => baseSum b s
  | .direct o => o
  | .disp8 b d => baseSum b s + sext16 d
  | .disp16 b d => baseSum b s + d

/-- Forms with BP default to SS, the others to DS (R238). -/
def baseSeg : Base → SReg
  | .bxsi => .ds
  | .bxdi => .ds
  | .bpsi => .ss
  | .bpdi => .ss
  | .si => .ds
  | .di => .ds
  | .bp => .ss
  | .bx => .ds

/-- The default segment of a memory form (R238). -/
def defaultSeg : Mem → SReg
  | .ind b => baseSeg b
  | .direct _ => .ds
  | .disp8 b _ => baseSeg b
  | .disp16 b _ => baseSeg b

/-- The override prefix replaces a default segment (R238, 45_processor_control.md R531). -/
def State.segOr (s : State) (r : SReg) : SReg :=
  match s.dec.segOverride with
  | some o => o
  | none => r

/-- The segment register of `EA.seg` (R238). -/
def eaSeg (m : Mem) (s : State) : SReg := s.segOr (defaultSeg m)

/-- The cost of the address calculation in EU cycles: before the displacement, after it, and the displacement's bytes
(R234, R235; level T). -/
def baseCost : Base → Nat
  | .bxsi => 4
  | .bxdi => 5
  | .bpsi => 5
  | .bpdi => 4
  | .si => 2
  | .di => 2
  | .bp => 2
  | .bx => 2

/-- (pre, post, displacement bytes) of a memory form (R234, R235). -/
def eaCost : Mem → Nat × Nat × Nat
  | .ind b => (baseCost b, 0, 0)
  | .direct _ => (0, 1, 2)
  | .disp8 b _ => (baseCost b, 3, 1)
  | .disp16 b _ => (baseCost b, 2, 2)

/-! ### Places: a register, or a memory location whose address has been computed once (R241) -/

/-- The place of a byte operand. -/
inductive Place8 where
  | reg (r : Reg8)
  | mem (acc : Access) (sv off : Word)
  deriving DecidableEq, Repr

/-- The place of a word operand. -/
inductive Place16 where
  | reg (r : Reg16)
  | mem (acc : Access) (sv off : Word)
  deriving DecidableEq, Repr

/-- Compute the address of a memory form; a memory form sets `last_ea` (31_modrm_ea.md R240). -/
def resolve8 (rm : RM8) (s : State) : Place8 × State :=
  match rm with
  | .reg r => (.reg r, s)
  | .mem m => (.mem (accessOf (eaSeg m s)) (s.sreg (eaSeg m s)) (eaOff m s), s.setLastEa (eaOff m s))

def resolve16 (rm : RM16) (s : State) : Place16 × State :=
  match rm with
  | .reg r => (.reg r, s)
  | .mem m => (.mem (accessOf (eaSeg m s)) (s.sreg (eaSeg m s)) (eaOff m s), s.setLastEa (eaOff m s))

/-- `ReadRM(0)`: a memory operand is loaded into `ea_opr` (32_decode_sequencer.md R270, R272). That the high byte of the 16-bit
latch is then 0 is a DESIGN CHOICE (log 43): 10_state.md R47 and R272 say only that a byte operand uses its low 8 bits. -/
def readPlace8 (p : Place8) (s : State) : Byte × State :=
  match p with
  | .reg r => (s.r8 r, s)
  | .mem acc sv off =>
    let r := readByte acc sv off s
    (r.1, r.2.setEaOpr (zext16 r.1))

/-- `ReadRM(1)`. -/
def readPlace16 (p : Place16) (s : State) : Word × State :=
  match p with
  | .reg r => (s.r16 r, s)
  | .mem acc sv off =>
    let r := readWord acc sv off s
    (r.1, r.2.setEaOpr r.1)

/-- `WriteRM(0, v)` (32_decode_sequencer.md R273). -/
def writePlace8 (p : Place8) (v : Byte) (s : State) : State :=
  match p with
  | .reg r => s.setR8 r v
  | .mem acc sv off => writeByte acc sv off v s

/-- `WriteRM(1, v)`. -/
def writePlace16 (p : Place16) (v : Word) (s : State) : State :=
  match p with
  | .reg r => s.setR16 r v
  | .mem acc sv off => writeWord acc sv off v s

/-- Load an operand and do nothing else with it. -/
def load8 (rm : RM8) (s : State) : Byte × State :=
  let p := resolve8 rm s
  readPlace8 p.1 p.2

def load16 (rm : RM16) (s : State) : Word × State :=
  let p := resolve16 rm s
  readPlace16 p.1 p.2

/-- Store an operand that is not loaded first (32_decode_sequencer.md R270). The value is taken after the address. -/
def store8 (rm : RM8) (v : State → Byte) (s : State) : State :=
  let p := resolve8 rm s
  writePlace8 p.1 (v p.2) p.2

def store16 (rm : RM16) (v : State → Word) (s : State) : State :=
  let p := resolve16 rm s
  writePlace16 p.1 (v p.2) p.2

/-- Load, take the `k` bytes of an immediate that is read after the load (32_decode_sequencer.md R267; 0 where none is), operate, set
the flags, write back: `f` gives the value to write, if any, and the new flags word. -/
def modify8 (k : Nat) (rm : RM8) (f : Byte → State → Option Byte × Word) (s : State) : State :=
  let p := resolve8 rm s
  let a := readPlace8 p.1 p.2
  let t := takeBytes k a.2
  let r := f a.1 t
  let s1 := t.setFlags r.2
  match r.1 with
  | some v => writePlace8 p.1 v s1
  | none => s1

def modify16 (k : Nat) (rm : RM16) (f : Word → State → Option Word × Word) (s : State) : State :=
  let p := resolve16 rm s
  let a := readPlace16 p.1 p.2
  let t := takeBytes k a.2
  let r := f a.1 t
  let s1 := t.setFlags r.2
  match r.1 with
  | some v => writePlace16 p.1 v s1
  | none => s1

/-! ### The forms of the two-operand operations (41_arithmetic.md R353) -/

/-- What an operation hands back: the value to write, unless it writes none, and the flags word. -/
def aluOut {n : Nat} (op : AluOp) (a b : BitVec n) (s : State) : Option (BitVec n) × Word :=
  (if op.writes then some (aluResult op a b (flagCF s.flags)) else none, aluFlags op a b s.flags)

/-- `op Eb,Gb`. -/
def aluRmReg8 (op : AluOp) (rm : RM8) (r : Reg8) (s : State) : State :=
  modify8 0 rm (fun a t => aluOut op a (t.r8 r) t) s

/-- `op Ev,Gv`. -/
def aluRmReg16 (op : AluOp) (rm : RM16) (r : Reg16) (s : State) : State :=
  modify16 0 rm (fun a t => aluOut op a (t.r16 r) t) s

/-- `op Gb,Eb`. -/
def aluRegRm8 (op : AluOp) (r : Reg8) (rm : RM8) (s : State) : State :=
  let b := load8 rm s
  modify8 0 (.reg r) (fun a t => aluOut op a b.1 t) b.2

/-- `op Gv,Ev`. -/
def aluRegRm16 (op : AluOp) (r : Reg16) (rm : RM16) (s : State) : State :=
  let b := load16 rm s
  modify16 0 (.reg r) (fun a t => aluOut op a b.1 t) b.2

/-- `op Eb,imm8` with `k` = 1, and `op AL,imm8` with the register form and `k` = 0. -/
def aluRmImm8 (op : AluOp) (k : Nat) (rm : RM8) (imm : Byte) (s : State) : State :=
  modify8 k rm (fun a t => aluOut op a imm t) s

/-- `op Ev,imm16` with `k` = 2, `op Ev,simm8` with the immediate extended and `k` = 1, and `op AX,imm16` with the register form and
`k` = 0. -/
def aluRmImm16 (op : AluOp) (k : Nat) (rm : RM16) (imm : Word) (s : State) : State :=
  modify16 k rm (fun a t => aluOut op a imm t) s

/-! ### One-operand forms -/

/-- INC and DEC: CF is kept (41_arithmetic.md R356, R360). -/
def incDec {n : Nat} (dec : Bool) (a : BitVec n) (s : State) : Option (BitVec n) × Word :=
  if dec then (some (subN a 1 false), putFlags incMask (subStatus a 1 false) s.flags)
  else (some (addN a 1 false), putFlags incMask (addStatus a 1 false) s.flags)

/-- NEG (41_arithmetic.md R362). -/
def negOut {n : Nat} (a : BitVec n) (s : State) : Option (BitVec n) × Word :=
  (some (subN 0 a false), putFlags statusMask (subStatus 0 a false) s.flags)

/-- NOT changes no flag (42_logic_shift_rotate.md R405). -/
def notOut {n : Nat} (a : BitVec n) (s : State) : Option (BitVec n) × Word := (some (~~~a), s.flags)

/-- A shift or rotate by `count`: nothing is written and no flag changes when the count is 0 (R407). -/
def shiftOut {n : Nat} (op : ShiftOp) (count : Nat) (a : BitVec n) (s : State) : Option (BitVec n) × Word :=
  if count = 0 then (none, s.flags)
  else
    let r := shiftIter op count (flagCF s.flags) a
    (some r.2, shiftFlags op count r.1 r.2 s.flags)

/-- SETMO and SETMOC: all ones, flags as a logical operation; nothing when the count is 0 (46_undefined_opcodes.md R557). -/
def setmoOut {n : Nat} (count : Nat) (s : State) : Option (BitVec n) × Word :=
  if count = 0 then (none, s.flags)
  else (some (BitVec.allOnes n), putFlags statusMask (logicStatus (BitVec.allOnes n)) s.flags)

/-- A one-operand form at either width, `k` bytes of an immediate taken after the load. -/
def modifyW (k : Nat) (rm : RMW) (f8 : Byte → State → Option Byte × Word) (f16 : Word → State → Option Word × Word)
    (s : State) : State :=
  match rm with
  | .byte rm => modify8 k rm f8 s
  | .word rm => modify16 k rm f16 s

/-- The count of a group-2 shift: 1, or CL under `SHIFT_COUNT_MASK` (42_logic_shift_rotate.md R406,
47_v20_v30_extensions.md R584). The count 1 is not masked away: every mask of R9 keeps it. -/
def shiftCount (n : ShiftCount) (s : State) : Nat :=
  match n with
  | .one => 1
  | .cl => (s.r8 .cl &&& s.cfg.shiftCountMask).toNat

def shiftRM (op : ShiftOp) (rm : RMW) (n : ShiftCount) (s : State) : State :=
  modifyW 0 rm (fun a t => shiftOut op (shiftCount n t) a t) (fun a t => shiftOut op (shiftCount n t) a t) s

/-- A shift by an immediate count (47_v20_v30_extensions.md R591). -/
def shiftImm (op : ShiftOp) (rm : RMW) (imm : Byte) (s : State) : State :=
  let count := (imm &&& s.cfg.shiftCountMask).toNat
  modifyW 1 rm (fun a t => shiftOut op count a t) (fun a t => shiftOut op count a t) s

/-! ### Far pointers (32_decode_sequencer.md R271) -/

/-- The far pointer at an offset of a segment: offset word, then segment word; the offset word goes through `ea_opr`. -/
def readFar (r : SReg) (off : Word) (s : State) : Word × Word × State :=
  let o := readWord (accessOf r) (s.sreg r) off s
  let g := readWord (accessOf r) (s.sreg r) (off + 2) (o.2.setEaOpr o.1)
  (o.1, g.1, g.2)

/-- The far pointer at a memory operand. -/
def loadFar (m : Mem) (s : State) : Word × Word × State :=
  readFar (eaSeg m s) (eaOff m s) (s.setLastEa (eaOff m s))

/-- The far pointer of a register form: at `last_ea`, which does not change (46_undefined_opcodes.md R564). -/
def loadFarLastEa (s : State) : Word × Word × State := readFar (s.segOr .ds) s.lastEa s

end Sys2Proof.Machine
end

