-- ==== Sys2Proof/Machine/Arith.lean ====
section
/-! DEFINITION. Meanings of the arithmetic instructions (41_arithmetic.md R350 to R375). -/
namespace Sys2Proof.Machine
open Sys2Proof Host

/-! ### Decimal and ASCII adjustment -/

/-- AAA and AAS (R364, R365): AL and AH are adjusted apart, AF and CF written, OF SF ZF PF undefined. -/
def asciiAdjust (sub : Bool) (s : State) : State :=
  let al := s.r8 .al
  let ah := s.r8 .ah
  let adj := decide (9 < al.toNat % 16) || flagAF s.flags
  let al1 := if adj then (if sub then al - 6 else al + 6) else al
  let ah1 := if adj then (if sub then ah - 1 else ah + 1) else ah
  let f := putFlags (afMask ||| cfMask) (packStatus adj false adj false false false) s.flags
  (((s.setR8 .al (al1 &&& 0x0F)).setR8 .ah ah1).setFlags f).havocFlags (ofMask ||| sfMask ||| zfMask ||| pfMask)

/-- The inputs of DAA and DAS on which AL and CF are any value: AF set and AL in 0x9A to 0x9F, for DAS with CF clear. DAS with CF
set there follows a subtraction of valid BCD, on which the algorithm is exact (R366, R367, 93_implementation_defined.md U6,
log 14). -/
def decimalOpen (sub : Bool) (al : Byte) (f : Word) : Bool :=
  flagAF f && decide (0x9A ≤ al.toNat ∧ al.toNat ≤ 0x9F) && !(sub && flagCF f)

/-- AL and CF after DAA or DAS by the algorithm of R366 and R367. -/
def decimalAdjusted (sub : Bool) (al : Byte) (f : Word) : Byte × Bool :=
  let low := decide (9 < al.toNat % 16) || flagAF f
  let high := decide (0x99 < al.toNat) || flagCF f
  let al1 := if low then (if sub then al - 6 else al + 6) else al
  let al2 := if high then (if sub then al1 - 0x60 else al1 + 0x60) else al1
  (al2, high)

/-- DAA and DAS (R366, R367): CF AF SF ZF PF written, OF undefined; free AL and CF on the open inputs, from which SF, ZF and
PF follow. -/
def decimalAdjust (sub : Bool) (s : State) : State :=
  let al := s.r8 .al
  let low := decide (9 < al.toNat % 16) || flagAF s.flags
  let r := if decimalOpen sub al s.flags then (Config.freeByte s.draws, Config.freeBit s.draws)
           else decimalAdjusted sub al s.flags
  let f := putFlags (szpMask ||| afMask ||| cfMask)
    (packStatus r.2 (parity r.1) low (r.1 == 0) r.1.msb false) s.flags
  (((s.setR8 .al r.1).setFlags f).bumpDraws).havocFlags ofMask

/-! ### Multiplication -/

/-- A REP prefix `F2` or `F3` stands before the instruction (45_processor_control.md R532, 93_implementation_defined.md U7). -/
def State.repBefore (s : State) : Bool :=
  match s.dec.rep with
  | some .rep => true
  | some .repe => true
  | some .repne => true
  | some .repnc => false
  | some .repc => false
  | none => false

/-- A result that a REP prefix makes free (U7, log 15). -/
def freeIfRep (w : Word) (s : State) : Word × State :=
  if s.repBefore then (Config.freeWord s.draws, s.bumpDraws) else (w, s)

/-- CF = OF = `b`; SF ZF AF PF are undefined (R368, R369). -/
def mulFlags (b : Bool) (s : State) : State :=
  (s.setFlags (putFlags (cfMask ||| ofMask) (packStatus b false false false false b) s.flags)).havocFlags
    (sfMask ||| zfMask ||| afMask ||| pfMask)

/-- The exact byte product in AX (R368, R369). -/
def mul8 (signed : Bool) (rm : RM8) (s : State) : State :=
  let b := load8 rm s
  let a := b.2.r8 .al
  let p := freeIfRep (if signed then a.signExtend 16 * b.1.signExtend 16 else zext16 a * zext16 b.1) b.2
  let wide := if signed then p.1 != (loByte p.1).signExtend 16 else hiByte p.1 != 0
  mulFlags wide (p.2.setR16 .ax p.1)

/-- The exact word product in DX:AX (R368, R369). -/
def mul16 (signed : Bool) (rm : RM16) (s : State) : State :=
  let b := load16 rm s
  let a := b.2.r16 .ax
  let p : BitVec 32 :=
    if signed then a.signExtend 32 * b.1.signExtend 32 else a.setWidth 32 * b.1.setWidth 32
  let hi := freeIfRep (p.extractLsb' 16 16) b.2
  let lo := freeIfRep (p.extractLsb' 0 16) hi.2
  let wide := if signed then (hi.1 ++ lo.1 : BitVec 32) != lo.1.signExtend 32 else hi.1 != 0
  mulFlags wide ((lo.2.setR16 .dx hi.1).setR16 .ax lo.1)

/-! ### Division -/

/-- The quotient and remainder go to AL and AH; all status flags are undefined (R370, R371). -/
def divDone8 (q r : Byte) (s : State) : State :=
  let w := freeIfRep (wordOf q r) s
  (w.2.setR16 .ax w.1).havocFlags statusMask

/-- The quotient and remainder go to AX and DX; all status flags are undefined (R370, R371). -/
def divDone16 (q r : Word) (s : State) : State :=
  let a := freeIfRep q s
  let b := freeIfRep r a.2
  ((b.2.setR16 .ax a.1).setR16 .dx b.1).havocFlags statusMask

/-- DIV byte (R370): INT 0 on a zero divisor or a quotient above 0xFF. -/
def div8 (rm : RM8) (s : State) : State :=
  let d := load8 rm s
  let n := (d.2.r16 .ax).toNat
  if d.1.toNat = 0 ∨ 0xFF < n / d.1.toNat then divideError d.2
  else divDone8 (BitVec.ofNat 8 (n / d.1.toNat)) (BitVec.ofNat 8 (n % d.1.toNat)) d.2

/-- DIV word (R370): INT 0 on a zero divisor or a quotient above 0xFFFF. -/
def div16 (rm : RM16) (s : State) : State :=
  let d := load16 rm s
  let n := (d.2.r16 .dx).toNat * 65536 + (d.2.r16 .ax).toNat
  if d.1.toNat = 0 ∨ 0xFFFF < n / d.1.toNat then divideError d.2
  else divDone16 (BitVec.ofNat 16 (n / d.1.toNat)) (BitVec.ofNat 16 (n % d.1.toNat)) d.2

/-- IDIV traps on the most negative quotient: `IDIV_MIN_QUOTIENT_TRAPS` on the 8088/8086, either on the V20/V30 (R371,
47_v20_v30_extensions.md R597, log 17). -/
def minQuotientTraps (s : State) : Bool × State :=
  if s.cfg.cpu.isNec then (Config.freeBit s.draws, s.bumpDraws) else (s.cfg.idivMinTraps, s)

/-- The least quotient that IDIV accepts (R371). -/
def idivMin (traps : Bool) (half : Int) : Int := if traps then 1 - half else -half

/-- IDIV byte (R371): rounds toward zero; INT 0 on a zero divisor or a quotient out of range. -/
def idiv8 (rm : RM8) (s : State) : State :=
  let d := load8 rm s
  let n := (d.2.r16 .ax).toInt
  let q := Int.tdiv n d.1.toInt
  let r := Int.tmod n d.1.toInt
  let traps := minQuotientTraps d.2
  if d.1.toInt = 0 ∨ 127 < q ∨ q < idivMin traps.1 128 then divideError traps.2
  else divDone8 (BitVec.ofInt 8 q) (BitVec.ofInt 8 r) traps.2

/-- IDIV word (R371). -/
def idiv16 (rm : RM16) (s : State) : State :=
  let d := load16 rm s
  let n := (d.2.r16 .dx ++ d.2.r16 .ax : BitVec 32).toInt
  let q := Int.tdiv n d.1.toInt
  let r := Int.tmod n d.1.toInt
  let traps := minQuotientTraps d.2
  if d.1.toInt = 0 ∨ 32767 < q ∨ q < idivMin traps.1 32768 then divideError traps.2
  else divDone16 (BitVec.ofInt 16 q) (BitVec.ofInt 16 r) traps.2

/-- The base of AAM and AAD. On the NEC parts a base other than 10 is a free value (47_v20_v30_extensions.md R597,
93_implementation_defined.md U17, log 17). -/
def aaBase (imm : Byte) (s : State) : Byte × State :=
  if s.cfg.cpu.isNec = true ∧ imm ≠ 10 then (Config.freeByte s.draws, s.bumpDraws) else (imm, s)

/-- AAM (R372): INT 0 on base 0; SF ZF PF from AL, CF OF AF undefined. -/
def aamOp (imm : Byte) (s : State) : State :=
  let b := aaBase imm s
  let al := s.r8 .al
  if b.1 = 0 then divideError b.2
  else
    let s1 := (b.2.setR8 .ah (al / b.1)).setR8 .al (al % b.1)
    (s1.setFlags (szp (al % b.1) s1.flags)).havocFlags (cfMask ||| ofMask ||| afMask)

/-- AAD (R373): SF ZF PF from AL, CF OF AF undefined. -/
def aadOp (imm : Byte) (s : State) : State :=
  let b := aaBase imm s
  let al := s.r8 .al + s.r8 .ah * b.1
  let s1 := (b.2.setR8 .al al).setR8 .ah 0
  (s1.setFlags (szp al s1.flags)).havocFlags (cfMask ||| ofMask ||| afMask)

/-! ### Meanings -/

/-- ADD Eb,Gb (00; R354). -/
def execAddEbGb (rm : RM8) (r : Reg8) (s : State) : Host.Outcome State Fault Refusal := .next (aluRmReg8 .add rm r s)

/-- ADD Ev,Gv (01; R354). -/
def execAddEvGv (rm : RM16) (r : Reg16) (s : State) : Host.Outcome State Fault Refusal := .next (aluRmReg16 .add rm r s)

/-- ADD Gb,Eb (02; R354). -/
def execAddGbEb (r : Reg8) (rm : RM8) (s : State) : Host.Outcome State Fault Refusal := .next (aluRegRm8 .add r rm s)

/-- ADD Gv,Ev (03; R354). -/
def execAddGvEv (r : Reg16) (rm : RM16) (s : State) : Host.Outcome State Fault Refusal := .next (aluRegRm16 .add r rm s)

/-- ADD AL,Ib (04; R354). -/
def execAddAlIb (imm : Byte) (s : State) : Host.Outcome State Fault Refusal := .next (aluRmImm8 .add 0 (.reg .al) imm s)

/-- ADD AX,Iv (05; R354). -/
def execAddAxIv (imm : Word) (s : State) : Host.Outcome State Fault Refusal := .next (aluRmImm16 .add 0 (.reg .ax) imm s)

/-- ADC Eb,Gb (10; R355). -/
def execAdcEbGb (rm : RM8) (r : Reg8) (s : State) : Host.Outcome State Fault Refusal := .next (aluRmReg8 .adc rm r s)

/-- ADC Ev,Gv (11; R355). -/
def execAdcEvGv (rm : RM16) (r : Reg16) (s : State) : Host.Outcome State Fault Refusal := .next (aluRmReg16 .adc rm r s)

/-- ADC Gb,Eb (12; R355). -/
def execAdcGbEb (r : Reg8) (rm : RM8) (s : State) : Host.Outcome State Fault Refusal := .next (aluRegRm8 .adc r rm s)

/-- ADC Gv,Ev (13; R355). -/
def execAdcGvEv (r : Reg16) (rm : RM16) (s : State) : Host.Outcome State Fault Refusal := .next (aluRegRm16 .adc r rm s)

/-- ADC AL,Ib (14; R355). -/
def execAdcAlIb (imm : Byte) (s : State) : Host.Outcome State Fault Refusal := .next (aluRmImm8 .adc 0 (.reg .al) imm s)

/-- ADC AX,Iv (15; R355). -/
def execAdcAxIv (imm : Word) (s : State) : Host.Outcome State Fault Refusal := .next (aluRmImm16 .adc 0 (.reg .ax) imm s)

/-- SBB Eb,Gb (18; R359). -/
def execSbbEbGb (rm : RM8) (r : Reg8) (s : State) : Host.Outcome State Fault Refusal := .next (aluRmReg8 .sbb rm r s)

/-- SBB Ev,Gv (19; R359). -/
def execSbbEvGv (rm : RM16) (r : Reg16) (s : State) : Host.Outcome State Fault Refusal := .next (aluRmReg16 .sbb rm r s)

/-- SBB Gb,Eb (1A; R359). -/
def execSbbGbEb (r : Reg8) (rm : RM8) (s : State) : Host.Outcome State Fault Refusal := .next (aluRegRm8 .sbb r rm s)

/-- SBB Gv,Ev (1B; R359). -/
def execSbbGvEv (r : Reg16) (rm : RM16) (s : State) : Host.Outcome State Fault Refusal := .next (aluRegRm16 .sbb r rm s)

/-- SBB AL,Ib (1C; R359). -/
def execSbbAlIb (imm : Byte) (s : State) : Host.Outcome State Fault Refusal := .next (aluRmImm8 .sbb 0 (.reg .al) imm s)

/-- SBB AX,Iv (1D; R359). -/
def execSbbAxIv (imm : Word) (s : State) : Host.Outcome State Fault Refusal := .next (aluRmImm16 .sbb 0 (.reg .ax) imm s)

/-- DAA (27; R366). -/
def execDaa (s : State) : Host.Outcome State Fault Refusal := .next (decimalAdjust false s)

/-- SUB Eb,Gb (28; R358). -/
def execSubEbGb (rm : RM8) (r : Reg8) (s : State) : Host.Outcome State Fault Refusal := .next (aluRmReg8 .sub rm r s)

/-- SUB Ev,Gv (29; R358). -/
def execSubEvGv (rm : RM16) (r : Reg16) (s : State) : Host.Outcome State Fault Refusal := .next (aluRmReg16 .sub rm r s)

/-- SUB Gb,Eb (2A; R358). -/
def execSubGbEb (r : Reg8) (rm : RM8) (s : State) : Host.Outcome State Fault Refusal := .next (aluRegRm8 .sub r rm s)

/-- SUB Gv,Ev (2B; R358). -/
def execSubGvEv (r : Reg16) (rm : RM16) (s : State) : Host.Outcome State Fault Refusal := .next (aluRegRm16 .sub r rm s)

/-- SUB AL,Ib (2C; R358). -/
def execSubAlIb (imm : Byte) (s : State) : Host.Outcome State Fault Refusal := .next (aluRmImm8 .sub 0 (.reg .al) imm s)

/-- SUB AX,Iv (2D; R358). -/
def execSubAxIv (imm : Word) (s : State) : Host.Outcome State Fault Refusal := .next (aluRmImm16 .sub 0 (.reg .ax) imm s)

/-- DAS (2F; R367). -/
def execDas (s : State) : Host.Outcome State Fault Refusal := .next (decimalAdjust true s)

/-- AAA (37; R364). -/
def execAaa (s : State) : Host.Outcome State Fault Refusal := .next (asciiAdjust false s)

/-- CMP Eb,Gb (38; R363). -/
def execCmpEbGb (rm : RM8) (r : Reg8) (s : State) : Host.Outcome State Fault Refusal := .next (aluRmReg8 .cmp rm r s)

/-- CMP Ev,Gv (39; R363). -/
def execCmpEvGv (rm : RM16) (r : Reg16) (s : State) : Host.Outcome State Fault Refusal := .next (aluRmReg16 .cmp rm r s)

/-- CMP Gb,Eb (3A; R363). -/
def execCmpGbEb (r : Reg8) (rm : RM8) (s : State) : Host.Outcome State Fault Refusal := .next (aluRegRm8 .cmp r rm s)

/-- CMP Gv,Ev (3B; R363). -/
def execCmpGvEv (r : Reg16) (rm : RM16) (s : State) : Host.Outcome State Fault Refusal := .next (aluRegRm16 .cmp r rm s)

/-- CMP AL,Ib (3C; R363). -/
def execCmpAlIb (imm : Byte) (s : State) : Host.Outcome State Fault Refusal := .next (aluRmImm8 .cmp 0 (.reg .al) imm s)

/-- CMP AX,Iv (3D; R363). -/
def execCmpAxIv (imm : Word) (s : State) : Host.Outcome State Fault Refusal := .next (aluRmImm16 .cmp 0 (.reg .ax) imm s)

/-- AAS (3F; R365). -/
def execAas (s : State) : Host.Outcome State Fault Refusal := .next (asciiAdjust true s)

/-- INC r16 (40; R357). -/
def execIncR16 (r : Reg16) (s : State) : Host.Outcome State Fault Refusal := .next (modify16 0 (.reg r) (incDec false) s)

/-- DEC r16 (48; R361). -/
def execDecR16 (r : Reg16) (s : State) : Host.Outcome State Fault Refusal := .next (modify16 0 (.reg r) (incDec true) s)

/-- ADD Eb,Ib (80 /0; R354). -/
def execAddEbIb (rm : RM8) (imm : Byte) (s : State) : Host.Outcome State Fault Refusal := .next (aluRmImm8 .add 1 rm imm s)

/-- ADC Eb,Ib (80 /2; R355). -/
def execAdcEbIb (rm : RM8) (imm : Byte) (s : State) : Host.Outcome State Fault Refusal := .next (aluRmImm8 .adc 1 rm imm s)

/-- SBB Eb,Ib (80 /3; R359). -/
def execSbbEbIb (rm : RM8) (imm : Byte) (s : State) : Host.Outcome State Fault Refusal := .next (aluRmImm8 .sbb 1 rm imm s)

/-- SUB Eb,Ib (80 /5; R358). -/
def execSubEbIb (rm : RM8) (imm : Byte) (s : State) : Host.Outcome State Fault Refusal := .next (aluRmImm8 .sub 1 rm imm s)

/-- CMP Eb,Ib (80 /7; R363). -/
def execCmpEbIb (rm : RM8) (imm : Byte) (s : State) : Host.Outcome State Fault Refusal := .next (aluRmImm8 .cmp 1 rm imm s)

/-- ADD Ev,Iv (81 /0; R354). -/
def execAddEvIv (rm : RM16) (imm : Word) (s : State) : Host.Outcome State Fault Refusal := .next (aluRmImm16 .add 2 rm imm s)

/-- ADC Ev,Iv (81 /2; R355). -/
def execAdcEvIv (rm : RM16) (imm : Word) (s : State) : Host.Outcome State Fault Refusal := .next (aluRmImm16 .adc 2 rm imm s)

/-- SBB Ev,Iv (81 /3; R359). -/
def execSbbEvIv (rm : RM16) (imm : Word) (s : State) : Host.Outcome State Fault Refusal := .next (aluRmImm16 .sbb 2 rm imm s)

/-- SUB Ev,Iv (81 /5; R358). -/
def execSubEvIv (rm : RM16) (imm : Word) (s : State) : Host.Outcome State Fault Refusal := .next (aluRmImm16 .sub 2 rm imm s)

/-- CMP Ev,Iv (81 /7; R363). -/
def execCmpEvIv (rm : RM16) (imm : Word) (s : State) : Host.Outcome State Fault Refusal := .next (aluRmImm16 .cmp 2 rm imm s)

/-- ADD Ev,Ibs (83 /0; R354). -/
def execAddEvIbs (rm : RM16) (imm : Byte) (s : State) : Host.Outcome State Fault Refusal := .next (aluRmImm16 .add 1 rm (sext16 imm) s)

/-- ADC Ev,Ibs (83 /2; R355). -/
def execAdcEvIbs (rm : RM16) (imm : Byte) (s : State) : Host.Outcome State Fault Refusal := .next (aluRmImm16 .adc 1 rm (sext16 imm) s)

/-- SBB Ev,Ibs (83 /3; R359). -/
def execSbbEvIbs (rm : RM16) (imm : Byte) (s : State) : Host.Outcome State Fault Refusal := .next (aluRmImm16 .sbb 1 rm (sext16 imm) s)

/-- SUB Ev,Ibs (83 /5; R358). -/
def execSubEvIbs (rm : RM16) (imm : Byte) (s : State) : Host.Outcome State Fault Refusal := .next (aluRmImm16 .sub 1 rm (sext16 imm) s)

/-- CMP Ev,Ibs (83 /7; R363). -/
def execCmpEvIbs (rm : RM16) (imm : Byte) (s : State) : Host.Outcome State Fault Refusal := .next (aluRmImm16 .cmp 1 rm (sext16 imm) s)

/-- CBW (98; R374). -/
def execCbw (s : State) : Host.Outcome State Fault Refusal := .next (s.setR16 .ax (sext16 (s.r8 .al)))

/-- CWD (99; R375). -/
def execCwd (s : State) : Host.Outcome State Fault Refusal := .next (s.setR16 .dx (if (s.r16 .ax).msb then 0xFFFF else 0))

/-- AAM Ib (D4; R372). -/
def execAamIb (imm : Byte) (s : State) : Host.Outcome State Fault Refusal := .next (aamOp imm s)

/-- AAD Ib (D5; R373). -/
def execAadIb (imm : Byte) (s : State) : Host.Outcome State Fault Refusal := .next (aadOp imm s)

/-- NEG Eb/Ev (F6 /3; R362). -/
def execNegEbEv (rm : RMW) (s : State) : Host.Outcome State Fault Refusal := .next (modifyW 0 rm negOut negOut s)

/-- MUL Eb/Ev (F6 /4; R368). -/
def execMulEbEv (rm : RMW) (s : State) : Host.Outcome State Fault Refusal := .next ((match rm with | .byte rm => mul8 false rm s | .word rm => mul16 false rm s))

/-- IMUL Eb/Ev (F6 /5; R369). -/
def execImulEbEv (rm : RMW) (s : State) : Host.Outcome State Fault Refusal := .next ((match rm with | .byte rm => mul8 true rm s | .word rm => mul16 true rm s))

/-- DIV Eb/Ev (F6 /6; R370). -/
def execDivEbEv (rm : RMW) (s : State) : Host.Outcome State Fault Refusal := .next ((match rm with | .byte rm => div8 rm s | .word rm => div16 rm s))

/-- IDIV Eb/Ev (F6 /7; R371). -/
def execIdivEbEv (rm : RMW) (s : State) : Host.Outcome State Fault Refusal := .next ((match rm with | .byte rm => idiv8 rm s | .word rm => idiv16 rm s))

/-- INC Eb/Ev (FE /0; R356). -/
def execIncEbEv (rm : RMW) (s : State) : Host.Outcome State Fault Refusal := .next (modifyW 0 rm (incDec false) (incDec false) s)

/-- DEC Eb/Ev (FE /1; R360). -/
def execDecEbEv (rm : RMW) (s : State) : Host.Outcome State Fault Refusal := .next (modifyW 0 rm (incDec true) (incDec true) s)

end Sys2Proof.Machine
end

