-- ==== Sys2Proof/Machine/Control.lean ====
section
/-! DEFINITION. Meanings of the control-transfer instructions (44_control_transfer.md R470 to R494). -/
namespace Sys2Proof.Machine
open Sys2Proof Host

/-! ### Shared operations -/

/-- A relative short jump if a condition holds; a jump not taken does not flush (R472). -/
def jumpIf (c : Bool) (d : Byte) (s : State) : State := if c then nearTransfer (s.ip + sext16 d) s else s

/-- Jcc (R471, R472). -/
def jcc (cc : Nat) (d : Byte) (s : State) : State := jumpIf (condition cc s.flags) d s

/-- CALL near: push the offset of the next instruction, go to `t` (R478, R479). -/
def callNear (t : Word) (s : State) : State := nearTransfer t (push16 s.ip s)

/-- CALL far: push CS, then the offset of the next instruction (R480, R481). -/
def callFar (sv t : Word) (s : State) : State := farTransfer sv t (push16 s.ip (push16 s.seg.cs s))

/-- RET near with `k` more bytes taken off the stack (R482, R483). -/
def retNear (k : Word) (s : State) : State :=
  let t := pop16 s
  nearTransfer t.1 (t.2.setR16 .sp (t.2.r16 .sp + k))

/-- RETF with `k` more bytes taken off the stack (R484, R485). -/
def retFar (k : Word) (s : State) : State :=
  let t := pop16 s
  let g := pop16 t.2
  farTransfer g.1 t.1 (g.2.setR16 .sp (g.2.r16 .sp + k))

/-- LOOP and its variants: CX is decremented, the jump is taken if it is not zero and the condition holds (R486 to R488). -/
def loopIf (c : Bool) (d : Byte) (s : State) : State :=
  let s1 := s.setR16 .cx (s.r16 .cx - 1)
  jumpIf (s1.r16 .cx != 0 && c) d s1

/-- JMP and CALL through a far pointer. -/
def jmpFarPointer (p : Word × Word × State) : State := farTransfer p.2.1 p.1 p.2.2
def callFarPointer (p : Word × Word × State) : State := callFar p.2.1 p.1 p.2.2

/-! ### Meanings -/

/-- JO Jb (70; R472). -/
def execJo (d : Byte) (s : State) : Host.Outcome State Fault Refusal := .next (jcc 0 d s)

/-- JNO Jb (71; R472). -/
def execJno (d : Byte) (s : State) : Host.Outcome State Fault Refusal := .next (jcc 1 d s)

/-- JB/JC/JNAE Jb (72; R472). -/
def execJb (d : Byte) (s : State) : Host.Outcome State Fault Refusal := .next (jcc 2 d s)

/-- JNB/JNC/JAE Jb (73; R472). -/
def execJnb (d : Byte) (s : State) : Host.Outcome State Fault Refusal := .next (jcc 3 d s)

/-- JZ/JE Jb (74; R472). -/
def execJz (d : Byte) (s : State) : Host.Outcome State Fault Refusal := .next (jcc 4 d s)

/-- JNZ/JNE Jb (75; R472). -/
def execJnz (d : Byte) (s : State) : Host.Outcome State Fault Refusal := .next (jcc 5 d s)

/-- JBE/JNA Jb (76; R472). -/
def execJbe (d : Byte) (s : State) : Host.Outcome State Fault Refusal := .next (jcc 6 d s)

/-- JA/JNBE Jb (77; R472). -/
def execJa (d : Byte) (s : State) : Host.Outcome State Fault Refusal := .next (jcc 7 d s)

/-- JS Jb (78; R472). -/
def execJs (d : Byte) (s : State) : Host.Outcome State Fault Refusal := .next (jcc 8 d s)

/-- JNS Jb (79; R472). -/
def execJns (d : Byte) (s : State) : Host.Outcome State Fault Refusal := .next (jcc 9 d s)

/-- JP/JPE Jb (7A; R472). -/
def execJp (d : Byte) (s : State) : Host.Outcome State Fault Refusal := .next (jcc 10 d s)

/-- JNP/JPO Jb (7B; R472). -/
def execJnp (d : Byte) (s : State) : Host.Outcome State Fault Refusal := .next (jcc 11 d s)

/-- JL/JNGE Jb (7C; R472). -/
def execJl (d : Byte) (s : State) : Host.Outcome State Fault Refusal := .next (jcc 12 d s)

/-- JGE/JNL Jb (7D; R472). -/
def execJge (d : Byte) (s : State) : Host.Outcome State Fault Refusal := .next (jcc 13 d s)

/-- JLE/JNG Jb (7E; R472). -/
def execJle (d : Byte) (s : State) : Host.Outcome State Fault Refusal := .next (jcc 14 d s)

/-- JG/JNLE Jb (7F; R472). -/
def execJg (d : Byte) (s : State) : Host.Outcome State Fault Refusal := .next (jcc 15 d s)

/-- CALL Ap (9A; R480). -/
def execCallAp (off : Word) (sg : Word) (s : State) : Host.Outcome State Fault Refusal := .next (callFar sg off s)

/-- RET Iw (C2; R483). -/
def execRetIw (imm : Word) (s : State) : Host.Outcome State Fault Refusal := .next (retNear imm s)

/-- RET (C3; R482). -/
def execRet (s : State) : Host.Outcome State Fault Refusal := .next (retNear 0 s)

/-- RETF Iw (CA; R485). -/
def execRetfIw (imm : Word) (s : State) : Host.Outcome State Fault Refusal := .next (retFar imm s)

/-- RETF (CB; R484). -/
def execRetf (s : State) : Host.Outcome State Fault Refusal := .next (retFar 0 s)

/-- INT 3 (CC; R491). -/
def execInt3 (s : State) : Host.Outcome State Fault Refusal := .next (interrupt 3 s.ip s)

/-- INT Ib (CD; R490). -/
def execIntIb (imm : Byte) (s : State) : Host.Outcome State Fault Refusal := .next (interrupt imm s.ip s)

/-- INTO (CE; R492). -/
def execInto (s : State) : Host.Outcome State Fault Refusal := .next ((if flagOF s.flags then interrupt 4 s.ip s else s))

/-- IRET (CF; R493). -/
def execIret (s : State) : Host.Outcome State Fault Refusal := .next (returnFromInterrupt s)

/-- LOOPNZ/LOOPNE Jb (E0; R488). -/
def execLoopnz (d : Byte) (s : State) : Host.Outcome State Fault Refusal := .next (loopIf (!flagZF s.flags) d s)

/-- LOOPZ/LOOPE Jb (E1; R487). -/
def execLoopz (d : Byte) (s : State) : Host.Outcome State Fault Refusal := .next (loopIf (flagZF s.flags) d s)

/-- LOOP Jb (E2; R486). -/
def execLoop (d : Byte) (s : State) : Host.Outcome State Fault Refusal := .next (loopIf true d s)

/-- JCXZ Jb (E3; R489). -/
def execJcxz (d : Byte) (s : State) : Host.Outcome State Fault Refusal := .next (jumpIf (s.r16 .cx == 0) d s)

/-- CALL Jv (E8; R478). -/
def execCallJv (d : Word) (s : State) : Host.Outcome State Fault Refusal := .next (callNear (s.ip + d) s)

/-- JMP Jv (E9; R474). -/
def execJmpJv (d : Word) (s : State) : Host.Outcome State Fault Refusal := .next (nearTransfer (s.ip + d) s)

/-- JMP Ap (EA; R476). -/
def execJmpAp (off : Word) (sg : Word) (s : State) : Host.Outcome State Fault Refusal := .next (farTransfer sg off s)

/-- JMP Jb (EB; R473). -/
def execJmpJb (d : Byte) (s : State) : Host.Outcome State Fault Refusal := .next (nearTransfer (s.ip + sext16 d) s)

/-- CALL Ev (FF /2; R479). -/
def execCallEv (rm : RM16) (s : State) : Host.Outcome State Fault Refusal := .next ((let t := load16 rm s; callNear t.1 t.2))

/-- CALL Mp (mod 0 or 1) (FF /3; R481). -/
def execCallMpMod01 (m : Mem) (s : State) : Host.Outcome State Fault Refusal := .next (callFarPointer (loadFar m s))

/-- CALL Mp (mod 2) (FF /3; R481). -/
def execCallMpMod2 (m : Mem) (s : State) : Host.Outcome State Fault Refusal := .next (callFarPointer (loadFar m s))

/-- JMP Ev (FF /4; R475). -/
def execJmpEv (rm : RM16) (s : State) : Host.Outcome State Fault Refusal := .next ((let t := load16 rm s; nearTransfer t.1 t.2))

/-- JMP Mp (mod 0 or 1) (FF /5; R477). -/
def execJmpMpMod01 (m : Mem) (s : State) : Host.Outcome State Fault Refusal := .next (jmpFarPointer (loadFar m s))

/-- JMP Mp (mod 2) (FF /5; R477). -/
def execJmpMpMod2 (m : Mem) (s : State) : Host.Outcome State Fault Refusal := .next (jmpFarPointer (loadFar m s))

end Sys2Proof.Machine
end

