-- ==== Sys2Proof/Machine/Logic.lean ====
section
/-! DEFINITION. Meanings of the logical, shift and rotate instructions (42_logic_shift_rotate.md R400 to R416). -/
namespace Sys2Proof.Machine
open Sys2Proof Host

/-! ### Meanings -/

/-- OR Eb,Gb (08; R402). -/
def execOrEbGb (rm : RM8) (r : Reg8) (s : State) : Host.Outcome State Fault Refusal := .next (aluRmReg8 .or rm r s)

/-- OR Ev,Gv (09; R402). -/
def execOrEvGv (rm : RM16) (r : Reg16) (s : State) : Host.Outcome State Fault Refusal := .next (aluRmReg16 .or rm r s)

/-- OR Gb,Eb (0A; R402). -/
def execOrGbEb (r : Reg8) (rm : RM8) (s : State) : Host.Outcome State Fault Refusal := .next (aluRegRm8 .or r rm s)

/-- OR Gv,Ev (0B; R402). -/
def execOrGvEv (r : Reg16) (rm : RM16) (s : State) : Host.Outcome State Fault Refusal := .next (aluRegRm16 .or r rm s)

/-- OR AL,Ib (0C; R402). -/
def execOrAlIb (imm : Byte) (s : State) : Host.Outcome State Fault Refusal := .next (aluRmImm8 .or 0 (.reg .al) imm s)

/-- OR AX,Iv (0D; R402). -/
def execOrAxIv (imm : Word) (s : State) : Host.Outcome State Fault Refusal := .next (aluRmImm16 .or 0 (.reg .ax) imm s)

/-- AND Eb,Gb (20; R401). -/
def execAndEbGb (rm : RM8) (r : Reg8) (s : State) : Host.Outcome State Fault Refusal := .next (aluRmReg8 .and rm r s)

/-- AND Ev,Gv (21; R401). -/
def execAndEvGv (rm : RM16) (r : Reg16) (s : State) : Host.Outcome State Fault Refusal := .next (aluRmReg16 .and rm r s)

/-- AND Gb,Eb (22; R401). -/
def execAndGbEb (r : Reg8) (rm : RM8) (s : State) : Host.Outcome State Fault Refusal := .next (aluRegRm8 .and r rm s)

/-- AND Gv,Ev (23; R401). -/
def execAndGvEv (r : Reg16) (rm : RM16) (s : State) : Host.Outcome State Fault Refusal := .next (aluRegRm16 .and r rm s)

/-- AND AL,Ib (24; R401). -/
def execAndAlIb (imm : Byte) (s : State) : Host.Outcome State Fault Refusal := .next (aluRmImm8 .and 0 (.reg .al) imm s)

/-- AND AX,Iv (25; R401). -/
def execAndAxIv (imm : Word) (s : State) : Host.Outcome State Fault Refusal := .next (aluRmImm16 .and 0 (.reg .ax) imm s)

/-- XOR Eb,Gb (30; R403). -/
def execXorEbGb (rm : RM8) (r : Reg8) (s : State) : Host.Outcome State Fault Refusal := .next (aluRmReg8 .xor rm r s)

/-- XOR Ev,Gv (31; R403). -/
def execXorEvGv (rm : RM16) (r : Reg16) (s : State) : Host.Outcome State Fault Refusal := .next (aluRmReg16 .xor rm r s)

/-- XOR Gb,Eb (32; R403). -/
def execXorGbEb (r : Reg8) (rm : RM8) (s : State) : Host.Outcome State Fault Refusal := .next (aluRegRm8 .xor r rm s)

/-- XOR Gv,Ev (33; R403). -/
def execXorGvEv (r : Reg16) (rm : RM16) (s : State) : Host.Outcome State Fault Refusal := .next (aluRegRm16 .xor r rm s)

/-- XOR AL,Ib (34; R403). -/
def execXorAlIb (imm : Byte) (s : State) : Host.Outcome State Fault Refusal := .next (aluRmImm8 .xor 0 (.reg .al) imm s)

/-- XOR AX,Iv (35; R403). -/
def execXorAxIv (imm : Word) (s : State) : Host.Outcome State Fault Refusal := .next (aluRmImm16 .xor 0 (.reg .ax) imm s)

/-- OR Eb,Ib (80 /1; R402). -/
def execOrEbIb (rm : RM8) (imm : Byte) (s : State) : Host.Outcome State Fault Refusal := .next (aluRmImm8 .or 1 rm imm s)

/-- AND Eb,Ib (80 /4; R401). -/
def execAndEbIb (rm : RM8) (imm : Byte) (s : State) : Host.Outcome State Fault Refusal := .next (aluRmImm8 .and 1 rm imm s)

/-- XOR Eb,Ib (80 /6; R403). -/
def execXorEbIb (rm : RM8) (imm : Byte) (s : State) : Host.Outcome State Fault Refusal := .next (aluRmImm8 .xor 1 rm imm s)

/-- OR Ev,Iv (81 /1; R402). -/
def execOrEvIv (rm : RM16) (imm : Word) (s : State) : Host.Outcome State Fault Refusal := .next (aluRmImm16 .or 2 rm imm s)

/-- AND Ev,Iv (81 /4; R401). -/
def execAndEvIv (rm : RM16) (imm : Word) (s : State) : Host.Outcome State Fault Refusal := .next (aluRmImm16 .and 2 rm imm s)

/-- XOR Ev,Iv (81 /6; R403). -/
def execXorEvIv (rm : RM16) (imm : Word) (s : State) : Host.Outcome State Fault Refusal := .next (aluRmImm16 .xor 2 rm imm s)

/-- OR Ev,Ibs (83 /1; R402). -/
def execOrEvIbs (rm : RM16) (imm : Byte) (s : State) : Host.Outcome State Fault Refusal := .next (aluRmImm16 .or 1 rm (sext16 imm) s)

/-- AND Ev,Ibs (83 /4; R401). -/
def execAndEvIbs (rm : RM16) (imm : Byte) (s : State) : Host.Outcome State Fault Refusal := .next (aluRmImm16 .and 1 rm (sext16 imm) s)

/-- XOR Ev,Ibs (83 /6; R403). -/
def execXorEvIbs (rm : RM16) (imm : Byte) (s : State) : Host.Outcome State Fault Refusal := .next (aluRmImm16 .xor 1 rm (sext16 imm) s)

/-- TEST Eb,Gb (84; R404). -/
def execTestEbGb (rm : RM8) (r : Reg8) (s : State) : Host.Outcome State Fault Refusal := .next (aluRmReg8 .test rm r s)

/-- TEST Ev,Gv (85; R404). -/
def execTestEvGv (rm : RM16) (r : Reg16) (s : State) : Host.Outcome State Fault Refusal := .next (aluRmReg16 .test rm r s)

/-- TEST AL,Ib (A8; R404). -/
def execTestAlIb (imm : Byte) (s : State) : Host.Outcome State Fault Refusal := .next (aluRmImm8 .test 0 (.reg .al) imm s)

/-- TEST AX,Iv (A9; R404). -/
def execTestAxIv (imm : Word) (s : State) : Host.Outcome State Fault Refusal := .next (aluRmImm16 .test 0 (.reg .ax) imm s)

/-- ROL Eb/Ev,1/CL (D0 /0; R412). -/
def execRolEbEv (rm : RMW) (n : ShiftCount) (s : State) : Host.Outcome State Fault Refusal := .next (shiftRM .rol rm n s)

/-- ROR Eb/Ev,1/CL (D0 /1; R413). -/
def execRorEbEv (rm : RMW) (n : ShiftCount) (s : State) : Host.Outcome State Fault Refusal := .next (shiftRM .ror rm n s)

/-- RCL Eb/Ev,1/CL (D0 /2; R414). -/
def execRclEbEv (rm : RMW) (n : ShiftCount) (s : State) : Host.Outcome State Fault Refusal := .next (shiftRM .rcl rm n s)

/-- RCR Eb/Ev,1/CL (D0 /3; R415). -/
def execRcrEbEv (rm : RMW) (n : ShiftCount) (s : State) : Host.Outcome State Fault Refusal := .next (shiftRM .rcr rm n s)

/-- SHL/SAL Eb/Ev,1/CL (D0 /4; R409). -/
def execShlEbEv (rm : RMW) (n : ShiftCount) (s : State) : Host.Outcome State Fault Refusal := .next (shiftRM .shl rm n s)

/-- SHR Eb/Ev,1/CL (D0 /5; R410). -/
def execShrEbEv (rm : RMW) (n : ShiftCount) (s : State) : Host.Outcome State Fault Refusal := .next (shiftRM .shr rm n s)

/-- SAR Eb/Ev,1/CL (D0 /7; R411). -/
def execSarEbEv (rm : RMW) (n : ShiftCount) (s : State) : Host.Outcome State Fault Refusal := .next (shiftRM .sar rm n s)

/-- TEST Eb,Ib (F6 /0; R404). -/
def execTestEbIb (rm : RM8) (imm : Byte) (s : State) : Host.Outcome State Fault Refusal := .next (aluRmImm8 .test 1 rm imm s)

/-- TEST Ev,Iv (F7 /0; R404). -/
def execTestEvIv (rm : RM16) (imm : Word) (s : State) : Host.Outcome State Fault Refusal := .next (aluRmImm16 .test 2 rm imm s)

/-- NOT Eb/Ev (F6 /2; R405). -/
def execNotEbEv (rm : RMW) (s : State) : Host.Outcome State Fault Refusal := .next (modifyW 0 rm notOut notOut s)

end Sys2Proof.Machine
end

