-- ==== Sys2Proof/Machine/Processor.lean ====
section
/-! DEFINITION. Meanings of the processor-control instructions and of the prefixes (45_processor_control.md R520 to R532,
30_encoding.md R192, R193). -/
namespace Sys2Proof.Machine
open Sys2Proof Host

/-! ### Shared operations -/

def setFlagBits (m : Word) (s : State) : State := s.setFlags (s.flags ||| m)
def clearFlagBits (m : Word) (s : State) : State := s.setFlags (s.flags &&& ~~~m)

/-- The request for the Halt cycle (22_biu_tstate_engine.md R158). -/
def haltRequest : BusReq where
  kind := .halt
  access := .none
  seg := 0
  off := 0
  wide := false
  data := 0
  last := true

/-- HLT (R527): the halted state, one Halt bus cycle, no more fetching. A code fetch in `T1` to `T4` comes to its end first, one still in
its address cycle is given up for the Halt cycle (22_biu_tstate_engine.md R149), which the ticks that follow show. Where a tick has left a
request of the EU pending, that request stays and no Halt cycle is asked for (DESIGN CHOICE, log 10). -/
def hltOp (s : State) : State :=
  let s1 := s.prefetch.completeFetch
  ((s1.setHalted true).logBus .halt).setBiu
    { s1.biu.dropPrepared with fetchState := .halted, pending := some (s1.biu.pending.getD haltRequest) }

/-- WAIT (R528): done when TEST is active; else an acceptable interrupt ends it with IP backed up, else it polls again
(log 26). -/
def waitOp (s : State) : State :=
  if s.testActive then s.setLife .checkInterrupts
  else if s.interruptAcceptable then (nearTransfer s.dec.startIp s).setLife .checkInterrupts
  else (s.setDec { s.dec with instr := some .wait }).setLife .execute

/-- ESC (R529): a memory operand is read and discarded. -/
def escOp (rm : RM16) (s : State) : State :=
  match rm with
  | .reg _ => s
  | .mem m => (load16 (.mem m) s).2

/-- A prefix byte has been read: the next byte belongs to the same instruction (30_encoding.md R193,
32_decode_sequencer.md R263). -/
def prefixRead (d : DecodeState) (s : State) : State :=
  (s.setDec { d with lastPrefixIp := s.ip - 1 }).setLife .decodePrefix

/-- A segment override: the last one wins (R531, 30_encoding.md R193). -/
def segmentPrefix (r : SReg) (s : State) : State := prefixRead { s.dec with segOverride := some r } s

/-- A REP-class prefix: the last one wins (30_encoding.md R193). -/
def repPrefix (k : RepKind) (s : State) : State := prefixRead { s.dec with rep := some k } s

/-- LOCK (R530): the output is asserted from the prefix on. -/
def lockPrefixOp (s : State) : State := (prefixRead { s.dec with lockPrefix := true } s).setLock true

/-! ### Meanings -/

/-- ES: (segment override prefix) (26; R531). -/
def execSegEs (s : State) : Host.Outcome State Fault Refusal := .next (segmentPrefix .es s)

/-- CS: (segment override prefix) (2E; R531). -/
def execSegCs (s : State) : Host.Outcome State Fault Refusal := .next (segmentPrefix .cs s)

/-- SS: (segment override prefix) (36; R531). -/
def execSegSs (s : State) : Host.Outcome State Fault Refusal := .next (segmentPrefix .ss s)

/-- DS: (segment override prefix) (3E; R531). -/
def execSegDs (s : State) : Host.Outcome State Fault Refusal := .next (segmentPrefix .ds s)

/-- WAIT (9B; R528). -/
def execWait (s : State) : Host.Outcome State Fault Refusal := .next (waitOp s)

/-- ESC (D8; R529). -/
def execEsc (_op : BitVec 3) (_ext : BitVec 3) (rm : RM16) (s : State) : Host.Outcome State Fault Refusal := .next (escOp rm s)

/-- LOCK (prefix) (F0; R530). -/
def execLock (s : State) : Host.Outcome State Fault Refusal := .next (lockPrefixOp s)

/-- REPNE/REPNZ (prefix) (F2; R441). -/
def execRepne (s : State) : Host.Outcome State Fault Refusal := .next (repPrefix .repne s)

/-- REP/REPE/REPZ (prefix) (F3; R441). -/
def execRep (s : State) : Host.Outcome State Fault Refusal := .next (repPrefix .repe s)

/-- HLT (F4; R527). -/
def execHlt (s : State) : Host.Outcome State Fault Refusal := .next (hltOp s)

/-- CMC (F5; R522). -/
def execCmc (s : State) : Host.Outcome State Fault Refusal := .next (s.setFlags (s.flags ^^^ cfMask))

/-- CLC (F8; R520). -/
def execClc (s : State) : Host.Outcome State Fault Refusal := .next (clearFlagBits cfMask s)

/-- STC (F9; R521). -/
def execStc (s : State) : Host.Outcome State Fault Refusal := .next (setFlagBits cfMask s)

/-- CLI (FA; R525). -/
def execCli (s : State) : Host.Outcome State Fault Refusal := .next (clearFlagBits ifMask s)

/-- STI (FB; R526). -/
def execSti (s : State) : Host.Outcome State Fault Refusal := .next ((setFlagBits ifMask s).setInhibit true)

/-- CLD (FC; R523). -/
def execCld (s : State) : Host.Outcome State Fault Refusal := .next (clearFlagBits dfMask s)

/-- STD (FD; R524). -/
def execStd (s : State) : Host.Outcome State Fault Refusal := .next (setFlagBits dfMask s)

end Sys2Proof.Machine
end

