-- ==== Sys2Proof/Machine/Strings.lean ====
section
/-! DEFINITION. Meanings of the string instructions and the REP loop (43_string.md R440 to R448). INS and OUTS of the
V20/V30 share the loop (47_v20_v30_extensions.md R590). -/
namespace Sys2Proof.Machine
open Sys2Proof Host

/-! ### The elements (R440, R442 to R446) -/

/-- The step of an index register: `+n`, or `-n` with DF set (R440). -/
def stringDelta (n : Word) (s : State) : Word := if flagDF s.flags then -n else n

def moveSi (n : Word) (s : State) : State := s.setR16 .si (s.r16 .si + stringDelta n s)
def moveDi (n : Word) (s : State) : State := s.setR16 .di (s.r16 .di + stringDelta n s)

/-- The source element at `(override or DS, SI)`. -/
def readSrc8 (s : State) : Byte × State := readByte (accessOf (s.segOr .ds)) (s.sreg (s.segOr .ds)) (s.r16 .si) s
def readSrc16 (s : State) : Word × State := readWord (accessOf (s.segOr .ds)) (s.sreg (s.segOr .ds)) (s.r16 .si) s

/-- The destination element at `(ES, DI)`. -/
def readDst8 (s : State) : Byte × State := readByte .es s.seg.es (s.r16 .di) s
def readDst16 (s : State) : Word × State := readWord .es s.seg.es (s.r16 .di) s
def writeDst8 (v : Byte) (s : State) : State := writeByte .es s.seg.es (s.r16 .di) v s
def writeDst16 (v : Word) (s : State) : State := writeWord .es s.seg.es (s.r16 .di) v s

def movsElem8 (s : State) : State :=
  let t := readSrc8 s
  moveDi 1 (moveSi 1 (writeDst8 t.1 t.2))

def movsElem16 (s : State) : State :=
  let t := readSrc16 s
  moveDi 2 (moveSi 2 (writeDst16 t.1 t.2))

/-- Source minus destination (R443). -/
def cmpsElem8 (s : State) : State :=
  let a := readSrc8 s
  let b := readDst8 a.2
  moveDi 1 (moveSi 1 (b.2.setFlags (aluFlags .cmp a.1 b.1 b.2.flags)))

def cmpsElem16 (s : State) : State :=
  let a := readSrc16 s
  let b := readDst16 a.2
  moveDi 2 (moveSi 2 (b.2.setFlags (aluFlags .cmp a.1 b.1 b.2.flags)))

/-- Accumulator minus destination (R444). -/
def scasElem8 (s : State) : State :=
  let b := readDst8 s
  moveDi 1 (b.2.setFlags (aluFlags .cmp (b.2.r8 .al) b.1 b.2.flags))

def scasElem16 (s : State) : State :=
  let b := readDst16 s
  moveDi 2 (b.2.setFlags (aluFlags .cmp (b.2.r16 .ax) b.1 b.2.flags))

def lodsElem8 (s : State) : State :=
  let t := readSrc8 s
  moveSi 1 (t.2.setR8 .al t.1)

def lodsElem16 (s : State) : State :=
  let t := readSrc16 s
  moveSi 2 (t.2.setR16 .ax t.1)

def stosElem8 (s : State) : State := moveDi 1 (writeDst8 (s.r8 .al) s)
def stosElem16 (s : State) : State := moveDi 2 (writeDst16 (s.r16 .ax) s)

/-- INS and OUTS (47_v20_v30_extensions.md R590). -/
def insElem8 (s : State) : State :=
  let t := ioReadByte (s.r16 .dx) s
  moveDi 1 (writeDst8 t.1 t.2)

def insElem16 (s : State) : State :=
  let t := ioReadWord (s.r16 .dx) s
  moveDi 2 (writeDst16 t.1 t.2)

def outsElem8 (s : State) : State :=
  let t := readSrc8 s
  moveSi 1 (ioWriteByte (t.2.r16 .dx) t.1 t.2)

def outsElem16 (s : State) : State :=
  let t := readSrc16 s
  moveSi 2 (ioWriteWord (t.2.r16 .dx) t.1 t.2)

/-! ### The loop (R441, R447; 47_v20_v30_extensions.md R582) -/

/-- The flag test after an element of CMPS or SCAS ends the loop. -/
def repStops (k : RepKind) (f : Word) : Bool :=
  match k with
  | .rep => false
  | .repe => !flagZF f
  | .repne => flagZF f
  | .repnc => flagCF f
  | .repc => !flagCF f

/-- The instruction is done: go to the boundary check. -/
def endString (s : State) : State := (s.setDec { s.dec with inRep := false }).setLife .checkInterrupts

/-- An interrupted repetition resumes at its last prefix, and not at its first: `REP_RESUME_AT_LAST_PREFIX` on the 8088/8086, either
on the V20/V30 (R441, 70_reset_and_hazards.md R686, 47_v20_v30_extensions.md R597, log 17). -/
def resumesAtLastPrefix (s : State) : Bool × State :=
  if s.cfg.cpu.isNec then (Config.freeBit s.draws, s.bumpDraws) else (s.cfg.repResumeAtLastPrefix, s)

/-- Back up to the prefix, with the flush of 21_prefetch_queue.md R118, and end. -/
def interruptString (s : State) : State :=
  let last := resumesAtLastPrefix s
  endString (nearTransfer (if last.1 then s.dec.lastPrefixIp else s.dec.startIp) last.2)

/-- Stay in the instruction: the next step is the next iteration (00_scope.md R8, log 8). -/
def continueString (i : Instr) (s : State) : State :=
  (s.setDec { s.dec with inRep := true, instr := some i }).setLife .execute

/-- What follows an element and its count: the flag test of CMPS and SCAS, the end of the count, an acceptable interrupt (or
the trap between iterations under `REP_TF_PER_ITERATION`), else the next iteration. That the trap between iterations backs IP up to
the prefix as an interrupt does, so that the offset it pushes is the prefix's, is a DESIGN CHOICE (log 45): R447 and U10 do not say
which offset it pushes. -/
def afterElement (i : Instr) (tests : Bool) (k : RepKind) (s : State) : State :=
  if tests && repStops k s.flags then endString s
  else if s.r16 .cx = 0 then endString s
  else if s.interruptAcceptable || (s.cfg.repTfPerIteration && s.dec.tfAtStart) then interruptString s
  else continueString i s

/-- A string instruction: one element, or one iteration of the REP loop. -/
def stringOp (i : Instr) (tests : Bool) (elem : State → State) (s : State) : State :=
  match s.dec.rep with
  | none => endString (elem s)
  | some k =>
    if s.r16 .cx = 0 then endString s
    else
      let s1 := elem s
      afterElement i tests k (s1.setR16 .cx (s1.r16 .cx - 1))

/-! ### Meanings -/

/-- MOVSB (A4; R442). -/
def execMovsb (s : State) : Host.Outcome State Fault Refusal := .next (stringOp .movsb false movsElem8 s)

/-- MOVSW (A5; R442). -/
def execMovsw (s : State) : Host.Outcome State Fault Refusal := .next (stringOp .movsw false movsElem16 s)

/-- CMPSB (A6; R443). -/
def execCmpsb (s : State) : Host.Outcome State Fault Refusal := .next (stringOp .cmpsb true cmpsElem8 s)

/-- CMPSW (A7; R443). -/
def execCmpsw (s : State) : Host.Outcome State Fault Refusal := .next (stringOp .cmpsw true cmpsElem16 s)

/-- STOSB (AA; R446). -/
def execStosb (s : State) : Host.Outcome State Fault Refusal := .next (stringOp .stosb false stosElem8 s)

/-- STOSW (AB; R446). -/
def execStosw (s : State) : Host.Outcome State Fault Refusal := .next (stringOp .stosw false stosElem16 s)

/-- LODSB (AC; R445). -/
def execLodsb (s : State) : Host.Outcome State Fault Refusal := .next (stringOp .lodsb false lodsElem8 s)

/-- LODSW (AD; R445). -/
def execLodsw (s : State) : Host.Outcome State Fault Refusal := .next (stringOp .lodsw false lodsElem16 s)

/-- SCASB (AE; R444). -/
def execScasb (s : State) : Host.Outcome State Fault Refusal := .next (stringOp .scasb true scasElem8 s)

/-- SCASW (AF; R444). -/
def execScasw (s : State) : Host.Outcome State Fault Refusal := .next (stringOp .scasw true scasElem16 s)

end Sys2Proof.Machine
end

