-- ==== Sys2Proof/Machine/Nec.lean ====
section
/-! DEFINITION. Meanings of the V20/V30 additions (47_v20_v30_extensions.md R580 to R598). -/
namespace Sys2Proof.Machine
open Sys2Proof Host

/-! ### Shared operations -/

/-- PUSHA (R585): the SP image is the one before the first push. -/
def pushaOp (s : State) : State :=
  let t := s.r16 .sp
  let s1 := push16 (s.r16 .ax) s
  let s2 := push16 (s1.r16 .cx) s1
  let s3 := push16 (s2.r16 .dx) s2
  let s4 := push16 (s3.r16 .bx) s3
  let s5 := push16 t s4
  let s6 := push16 (s5.r16 .bp) s5
  let s7 := push16 (s6.r16 .si) s6
  push16 (s7.r16 .di) s7

/-- POPA (R586): the SP image is discarded. -/
def popaOp (s : State) : State :=
  let di := pop16 s
  let si := pop16 (di.2.setR16 .di di.1)
  let bp := pop16 (si.2.setR16 .si si.1)
  let sp := pop16 (bp.2.setR16 .bp bp.1)
  let bx := pop16 sp.2
  let dx := pop16 (bx.2.setR16 .bx bx.1)
  let cx := pop16 (dx.2.setR16 .dx dx.1)
  let ax := pop16 (cx.2.setR16 .cx cx.1)
  ax.2.setR16 .ax ax.1

/-- BOUND (R587): INT 5 when the register is outside the two signed bounds; `BOUND_RETURN_IP` gives the return offset. -/
def boundOp (r : Reg16) (m : Mem) (s : State) : State :=
  let p := loadFar m s
  let v := (s.r16 r).toInt
  if v < p.1.toInt ∨ p.2.1.toInt < v then
    interrupt 5 (if s.cfg.boundReturnsNext then p.2.2.ip else p.2.2.dec.startIp) p.2.2
  else p.2.2

/-- IMUL r16,r/m16,imm (R589): CF = OF = the product does not fit; SF ZF AF PF undefined. -/
def imulImm (k : Nat) (r : Reg16) (rm : RM16) (imm : Word) (s : State) : State :=
  let a := load16 rm s
  let p := a.1.toInt * imm.toInt
  mulFlags (decide (p < -32768 ∨ 32767 < p)) ((takeBytes k a.2).setR16 r (BitVec.ofInt 16 p))

/-- The copies of outer frame pointers that ENTER makes (R592). -/
def enterCopies : Nat → State → State
  | 0, s => s
  | n + 1, s =>
    let s1 := s.setR16 .bp (s.r16 .bp - 2)
    let v := readWord .ss s1.seg.ss (s1.r16 .bp) s1
    enterCopies n (push16 v.1 v.2)

/-- ENTER (R592), every level. -/
def enterOp (size : Word) (level : Byte) (s : State) : State :=
  let n := (level &&& 0x1F).toNat
  let s1 := push16 (s.r16 .bp) s
  let frame := s1.r16 .sp
  let s2 := enterCopies (n - 1) s1
  let s3 := if 0 < n then push16 frame s2 else s2
  let s4 := s3.setR16 .bp frame
  s4.setR16 .sp (s4.r16 .sp - size)

/-- LEAVE (R593). -/
def leaveOp (s : State) : State :=
  let t := pop16 (s.setR16 .sp (s.r16 .bp))
  t.2.setR16 .bp t.1

/-! ### The BCD string instructions (R594, log 20) -/

/-- The operations of the BCD strings. -/
inductive BcdOp where
  | add | sub | cmp
  deriving DecidableEq, Repr

/-- One decimal digit with carry or borrow; `none` when an operand is not a digit. -/
def bcdDigit (op : BcdOp) (d s : Nat) (c : Bool) : Option (Nat × Bool) :=
  if 9 < d ∨ 9 < s then none
  else
    match op with
    | .add => some ((d + s + bitNat c) % 10, decide (9 < d + s + bitNat c))
    | .sub => some ((d + 10 - s - bitNat c) % 10, decide (d < s + bitNat c))
    | .cmp => some ((d + 10 - s - bitNat c) % 10, decide (d < s + bitNat c))

/-- One byte of two digits, the low digit first; `none` when an operand is not a digit. -/
def bcdByte (op : BcdOp) (d s : Byte) (c : Bool) : Option (Byte × Bool) :=
  match bcdDigit op (d.toNat % 16) (s.toNat % 16) c with
  | none => none
  | some lo =>
    match bcdDigit op (d.toNat / 16) (s.toNat / 16) lo.2 with
    | none => none
    | some hi => some (BitVec.ofNat 8 (hi.1 * 16 + lo.1), hi.2)

/-- The last byte of an odd number of digits: its low digit follows the rule, its high digit and the carry are free. -/
def bcdOddByte (op : BcdOp) (d s free : Byte) (c fc : Bool) : Byte × Bool :=
  match bcdDigit op (d.toNat % 16) (s.toNat % 16) c with
  | none => (free, fc)
  | some lo => ((free &&& 0xF0) ||| BitVec.ofNat 8 lo.1, fc)

/-- `n` bytes from index `k` on, with the carry and "all result bytes so far are zero"; `odd` marks a last byte of one digit.
Bytes that are not two digits give a free byte and a free carry. -/
def bcdLoop (op : BcdOp) (odd : Bool) : Nat → Word → Bool → Bool → State → Bool × Bool × State
  | 0, _, c, z, s => (c, z, s)
  | n + 1, k, c, z, s =>
    let a := readByte (accessOf (s.segOr .ds)) (s.sreg (s.segOr .ds)) (s.r16 .si + k) s
    let d := readByte .es a.2.seg.es (a.2.r16 .di + k) a.2
    let free := Config.freeByte d.2.draws
    let fc := Config.freeBit d.2.draws
    let r := if odd && n == 0 then bcdOddByte op d.1 a.1 free c fc
             else match bcdByte op d.1 a.1 c with
               | none => (free, fc)
               | some r => r
    let s1 := d.2.bumpDraws
    let s2 := match op with
      | .add => writeByte .es s1.seg.es (s1.r16 .di + k) r.1 s1
      | .sub => writeByte .es s1.seg.es (s1.r16 .di + k) r.1 s1
      | .cmp => s1
    bcdLoop op odd n (k + 1) r.2 (z && r.1 == 0) s2

/-- ADD4S, SUB4S, CMP4S (R594): CL digits, source `DS:SI` (overridable), destination `ES:DI`, CF the final carry, ZF an
all-zero result; SI, DI and CL are kept. What R594 does not state is free: the other flags, everything on bytes that are not
digits, CF and ZF for no digits. -/
def bcdString (op : BcdOp) (s : State) : State :=
  let digits := (s.r8 .cl).toNat
  let r := bcdLoop op (digits % 2 == 1) ((digits + 1) / 2) 0 false true s
  let s1 := r.2.2.setFlags (putFlags (cfMask ||| zfMask) (packStatus r.1 false false r.2.1 false false) r.2.2.flags)
  s1.havocFlags (if digits = 0 then statusMask else pfMask ||| afMask ||| sfMask ||| ofMask)

/-- An undefined group form: its memory operand has set `last_ea` by the time it traps (32_decode_sequencer.md R266,
31_modrm_ea.md R240; that R583 leaves this to them is DEDUCED, log 24). -/
def undefinedGroupForm (s : State) : State :=
  match s.dec.operands.first with
  | .addressingMode m => undefinedOpcode (s.setLastEa (eaOff m s))
  | .none => undefinedOpcode s
  | .register8 _ => undefinedOpcode s
  | .register16 _ => undefinedOpcode s
  | .immediate8 _ => undefinedOpcode s
  | .implicit => undefinedOpcode s

/-! ### Meanings -/

/-- 0F (extension prefix; second byte is the opcode) (0F; R581). -/
def execExt0F (_op2 : Byte) (s : State) : Host.Outcome State Fault Refusal := .next (undefinedOpcode s)

/-- PUSHA (60; R585). -/
def execPusha (s : State) : Host.Outcome State Fault Refusal := .next (pushaOp s)

/-- POPA (61; R586). -/
def execPopa (s : State) : Host.Outcome State Fault Refusal := .next (popaOp s)

/-- BOUND Gv,Ma (mod 0 or 1) (62; R587). -/
def execBoundMod01 (r : Reg16) (m : Mem) (s : State) : Host.Outcome State Fault Refusal := .next (boundOp r m s)

/-- BOUND Gv,Ma (mod 2) (62; R587). -/
def execBoundMod2 (r : Reg16) (m : Mem) (s : State) : Host.Outcome State Fault Refusal := .next (boundOp r m s)

/-- UNDEFINED (62 with mod 3) (62; R583). -/
def execUndef62Mod3 (s : State) : Host.Outcome State Fault Refusal := .next (undefinedOpcode s)

/-- UNDEFINED (63) (63; R583). -/
def execUndef63 (s : State) : Host.Outcome State Fault Refusal := .next (undefinedOpcode s)

/-- REPNC (prefix) (64; R582). -/
def execRepnc (s : State) : Host.Outcome State Fault Refusal := .next (repPrefix .repnc s)

/-- REPC (prefix) (65; R582). -/
def execRepc (s : State) : Host.Outcome State Fault Refusal := .next (repPrefix .repc s)

/-- UNDEFINED (66, NEC FPO2) (66; R596). -/
def execUndef66 (s : State) : Host.Outcome State Fault Refusal := .next (undefinedOpcode s)

/-- UNDEFINED (67, NEC FPO2) (67; R596). -/
def execUndef67 (s : State) : Host.Outcome State Fault Refusal := .next (undefinedOpcode s)

/-- PUSH Iv (68; R588). -/
def execPushIv (imm : Word) (s : State) : Host.Outcome State Fault Refusal := .next (push16 imm s)

/-- IMUL Gv,Ev,Iv (69; R589). -/
def execImulGvEvIv (r : Reg16) (rm : RM16) (imm : Word) (s : State) : Host.Outcome State Fault Refusal := .next (imulImm 2 r rm imm s)

/-- PUSH Ibs (6A; R588). -/
def execPushIbs (imm : Byte) (s : State) : Host.Outcome State Fault Refusal := .next (push16 (sext16 imm) s)

/-- IMUL Gv,Ev,Ibs (6B; R589). -/
def execImulGvEvIbs (r : Reg16) (rm : RM16) (imm : Byte) (s : State) : Host.Outcome State Fault Refusal := .next (imulImm 1 r rm (sext16 imm) s)

/-- INSB (6C; R590). -/
def execInsb (s : State) : Host.Outcome State Fault Refusal := .next (stringOp .insb false insElem8 s)

/-- INSW (6D; R590). -/
def execInsw (s : State) : Host.Outcome State Fault Refusal := .next (stringOp .insw false insElem16 s)

/-- OUTSB (6E; R590). -/
def execOutsb (s : State) : Host.Outcome State Fault Refusal := .next (stringOp .outsb false outsElem8 s)

/-- OUTSW (6F; R590). -/
def execOutsw (s : State) : Host.Outcome State Fault Refusal := .next (stringOp .outsw false outsElem16 s)

/-- ROL Eb/Ev,Ib (C0 /0; R591, R412). -/
def execRolEbEvIb (rm : RMW) (imm : Byte) (s : State) : Host.Outcome State Fault Refusal := .next (shiftImm .rol rm imm s)

/-- ROR Eb/Ev,Ib (C0 /1; R591, R413). -/
def execRorEbEvIb (rm : RMW) (imm : Byte) (s : State) : Host.Outcome State Fault Refusal := .next (shiftImm .ror rm imm s)

/-- RCL Eb/Ev,Ib (C0 /2; R591, R414). -/
def execRclEbEvIb (rm : RMW) (imm : Byte) (s : State) : Host.Outcome State Fault Refusal := .next (shiftImm .rcl rm imm s)

/-- RCR Eb/Ev,Ib (C0 /3; R591, R415). -/
def execRcrEbEvIb (rm : RMW) (imm : Byte) (s : State) : Host.Outcome State Fault Refusal := .next (shiftImm .rcr rm imm s)

/-- SHL/SAL Eb/Ev,Ib (C0 /4; R591, R409). -/
def execShlEbEvIb (rm : RMW) (imm : Byte) (s : State) : Host.Outcome State Fault Refusal := .next (shiftImm .shl rm imm s)

/-- SHR Eb/Ev,Ib (C0 /5; R591, R410). -/
def execShrEbEvIb (rm : RMW) (imm : Byte) (s : State) : Host.Outcome State Fault Refusal := .next (shiftImm .shr rm imm s)

/-- UNDEFINED (C0 /6, C1 /6) (C0 /6; R583). -/
def execUndefC0Reg6 (s : State) : Host.Outcome State Fault Refusal := .next (undefinedGroupForm s)

/-- SAR Eb/Ev,Ib (C0 /7; R591, R411). -/
def execSarEbEvIb (rm : RMW) (imm : Byte) (s : State) : Host.Outcome State Fault Refusal := .next (shiftImm .sar rm imm s)

/-- ENTER Iw,Ib (C8; R592). -/
def execEnter (size : Word) (level : Byte) (s : State) : Host.Outcome State Fault Refusal := .next (enterOp size level s)

/-- LEAVE (C9; R593). -/
def execLeave (s : State) : Host.Outcome State Fault Refusal := .next (leaveOp s)

/-- UNDEFINED (group 2 /6) (D0 /6; R583). -/
def execUndefD0Reg6 (s : State) : Host.Outcome State Fault Refusal := .next (undefinedGroupForm s)

/-- UNDEFINED (D6) (D6; R596). -/
def execUndefD6 (s : State) : Host.Outcome State Fault Refusal := .next (undefinedOpcode s)

/-- UNDEFINED (F1) (F1; R596). -/
def execUndefF1 (s : State) : Host.Outcome State Fault Refusal := .next (undefinedOpcode s)

/-- UNDEFINED (FE /2) (FE /2; R583). -/
def execUndefFe2 (s : State) : Host.Outcome State Fault Refusal := .next (undefinedGroupForm s)

/-- UNDEFINED (FE /3) (FE /3; R583). -/
def execUndefFe3 (s : State) : Host.Outcome State Fault Refusal := .next (undefinedGroupForm s)

/-- UNDEFINED (FE /4) (FE /4; R583). -/
def execUndefFe4 (s : State) : Host.Outcome State Fault Refusal := .next (undefinedGroupForm s)

/-- UNDEFINED (FE /5) (FE /5; R583). -/
def execUndefFe5 (s : State) : Host.Outcome State Fault Refusal := .next (undefinedGroupForm s)

/-- UNDEFINED (FE /6) (FE /6; R583). -/
def execUndefFe6 (s : State) : Host.Outcome State Fault Refusal := .next (undefinedGroupForm s)

/-- UNDEFINED (FE /7) (FE /7; R583). -/
def execUndefFe7 (s : State) : Host.Outcome State Fault Refusal := .next (undefinedGroupForm s)

/-- UNDEFINED (8D with mod 3) (8D; R583). -/
def execUndef8DMod3 (s : State) : Host.Outcome State Fault Refusal := .next (undefinedOpcode s)

/-- UNDEFINED (C4 with mod 3) (C4; R583). -/
def execUndefC4Mod3 (s : State) : Host.Outcome State Fault Refusal := .next (undefinedOpcode s)

/-- UNDEFINED (C5 with mod 3) (C5; R583). -/
def execUndefC5Mod3 (s : State) : Host.Outcome State Fault Refusal := .next (undefinedOpcode s)

/-- UNDEFINED (FF /3 with mod 3) (FF /3; R583). -/
def execUndefFfReg3 (s : State) : Host.Outcome State Fault Refusal := .next (undefinedOpcode s)

/-- UNDEFINED (FF /5 with mod 3) (FF /5; R583). -/
def execUndefFfReg5 (s : State) : Host.Outcome State Fault Refusal := .next (undefinedOpcode s)

/-- ADD4S (0F 20; R594). -/
def execAdd4s (s : State) : Host.Outcome State Fault Refusal := .next (bcdString .add s)

/-- SUB4S (0F 22; R594). -/
def execSub4s (s : State) : Host.Outcome State Fault Refusal := .next (bcdString .sub s)

/-- CMP4S (0F 26; R594). -/
def execCmp4s (s : State) : Host.Outcome State Fault Refusal := .next (bcdString .cmp s)

/-- TEST1 Eb,CL (0F 10; R595). -/
def execTest1EbCl (_s : State) : Host.Outcome State Fault Refusal := .refused .necOnlyOpcode

/-- TEST1 Ev,CL (0F 11; R595). -/
def execTest1EvCl (_s : State) : Host.Outcome State Fault Refusal := .refused .necOnlyOpcode

/-- CLR1 Eb,CL (0F 12; R595). -/
def execClr1EbCl (_s : State) : Host.Outcome State Fault Refusal := .refused .necOnlyOpcode

/-- CLR1 Ev,CL (0F 13; R595). -/
def execClr1EvCl (_s : State) : Host.Outcome State Fault Refusal := .refused .necOnlyOpcode

/-- SET1 Eb,CL (0F 14; R595). -/
def execSet1EbCl (_s : State) : Host.Outcome State Fault Refusal := .refused .necOnlyOpcode

/-- SET1 Ev,CL (0F 15; R595). -/
def execSet1EvCl (_s : State) : Host.Outcome State Fault Refusal := .refused .necOnlyOpcode

/-- NOT1 Eb,CL (0F 16; R595). -/
def execNot1EbCl (_s : State) : Host.Outcome State Fault Refusal := .refused .necOnlyOpcode

/-- NOT1 Ev,CL (0F 17; R595). -/
def execNot1EvCl (_s : State) : Host.Outcome State Fault Refusal := .refused .necOnlyOpcode

/-- TEST1 Eb,Ib (0F 18; R595). -/
def execTest1EbIb (_s : State) : Host.Outcome State Fault Refusal := .refused .necOnlyOpcode

/-- TEST1 Ev,Ib (0F 19; R595). -/
def execTest1EvIb (_s : State) : Host.Outcome State Fault Refusal := .refused .necOnlyOpcode

/-- CLR1 Eb,Ib (0F 1A; R595). -/
def execClr1EbIb (_s : State) : Host.Outcome State Fault Refusal := .refused .necOnlyOpcode

/-- CLR1 Ev,Ib (0F 1B; R595). -/
def execClr1EvIb (_s : State) : Host.Outcome State Fault Refusal := .refused .necOnlyOpcode

/-- SET1 Eb,Ib (0F 1C; R595). -/
def execSet1EbIb (_s : State) : Host.Outcome State Fault Refusal := .refused .necOnlyOpcode

/-- SET1 Ev,Ib (0F 1D; R595). -/
def execSet1EvIb (_s : State) : Host.Outcome State Fault Refusal := .refused .necOnlyOpcode

/-- NOT1 Eb,Ib (0F 1E; R595). -/
def execNot1EbIb (_s : State) : Host.Outcome State Fault Refusal := .refused .necOnlyOpcode

/-- NOT1 Ev,Ib (0F 1F; R595). -/
def execNot1EvIb (_s : State) : Host.Outcome State Fault Refusal := .refused .necOnlyOpcode

/-- ROL4 Eb (0F 28; R595). -/
def execRol4 (_s : State) : Host.Outcome State Fault Refusal := .refused .necOnlyOpcode

/-- ROR4 Eb (0F 2A; R595). -/
def execRor4 (_s : State) : Host.Outcome State Fault Refusal := .refused .necOnlyOpcode

/-- INS reg8,reg8 (bit-field insert) (0F 31; R595). -/
def execInsFieldReg (_s : State) : Host.Outcome State Fault Refusal := .refused .necOnlyOpcode

/-- INS reg8,imm4 (bit-field insert) (0F 39; R595). -/
def execInsFieldImm (_s : State) : Host.Outcome State Fault Refusal := .refused .necOnlyOpcode

/-- EXT reg8,reg8 (bit-field extract) (0F 33; R595). -/
def execExtFieldReg (_s : State) : Host.Outcome State Fault Refusal := .refused .necOnlyOpcode

/-- EXT reg8,imm4 (bit-field extract) (0F 3B; R595). -/
def execExtFieldImm (_s : State) : Host.Outcome State Fault Refusal := .refused .necOnlyOpcode

/-- BRKEM Ib (0F FF; R595). -/
def execBrkem (_s : State) : Host.Outcome State Fault Refusal := .refused .necOnlyOpcode

end Sys2Proof.Machine
end

