-- ==== Sys2Proof/Machine/Transfer.lean ====
section
/-! DEFINITION. Meanings of the data transfer instructions (40_data_transfer.md R300 to R326). -/
namespace Sys2Proof.Machine
open Sys2Proof Host

/-! ### Shared operations -/

/-- MOV to a segment register other than CS: the inhibit is set (R305, 60_exceptions.md R627). -/
def movToSreg (r : SReg) (rm : RM16) (s : State) : State :=
  let v := load16 rm s
  (v.2.setSreg r v.1).setInhibit true

/-- PUSH r16 reads the register after SP has moved (R306). On the NEC parts the word that PUSH SP stores is a free choice
of the old and the new SP (93_implementation_defined.md U17, log 17). -/
def pushReg (r : Reg16) (s : State) : State :=
  let s1 := s.setR16 .sp (s.r16 .sp - 2)
  if r = .sp ∧ s.cfg.cpu.isNec = true then
    writeWord .ss s1.seg.ss (s1.r16 .sp) (if Config.freeBit s.draws then s.r16 .sp else s1.r16 .sp) s1.bumpDraws
  else writeWord .ss s1.seg.ss (s1.r16 .sp) (s1.r16 r) s1

/-- PUSH r/m16. For the register SP the word stored is the old SP or the new one, a free choice
(R308, 93_implementation_defined.md U12, log 16). -/
def pushRM (rm : RM16) (s : State) : State :=
  if rm = .reg .sp then
    push16 (if Config.freeBit s.draws then s.r16 .sp else s.r16 .sp - 2) s.bumpDraws
  else
    let v := load16 rm s
    push16 v.1 v.2

/-- POP r16: the increment of SP is overwritten by POP SP (R309). -/
def popReg (r : Reg16) (s : State) : State :=
  let t := pop16 s
  t.2.setR16 r t.1

/-- POP sreg other than CS: the inhibit is set (R310). -/
def popSreg (r : SReg) (s : State) : State :=
  let t := pop16 s
  (t.2.setSreg r t.1).setInhibit true

/-- POP r/m16: the address first, then the pop, then the write (R311). -/
def popRM (rm : RM16) (s : State) : State :=
  let p := resolve16 rm s
  let t := pop16 p.2
  writePlace16 p.1 t.1 t.2

/-- XCHG r/m8,r8 (R312). -/
def xchg8 (rm : RM8) (r : Reg8) (s : State) : State :=
  let p := resolve8 rm s
  let a := readPlace8 p.1 p.2
  (writePlace8 p.1 (a.2.r8 r) a.2).setR8 r a.1

/-- XCHG r/m16,r16 (R312). -/
def xchg16 (rm : RM16) (r : Reg16) (s : State) : State :=
  let p := resolve16 rm s
  let a := readPlace16 p.1 p.2
  (writePlace16 p.1 (a.2.r16 r) a.2).setR16 r a.1

/-- XCHG AX,r16 (R313). -/
def xchgAx (r : Reg16) (s : State) : State := (s.setR16 .ax (s.r16 r)).setR16 r (s.r16 .ax)

/-- The accumulator from memory at a 16-bit offset, which becomes `last_ea` (R303). -/
def movFromMoffs8 (o : Word) (s : State) : State :=
  let r := s.segOr .ds
  let v := readByte (accessOf r) (s.sreg r) o (s.setLastEa o)
  v.2.setR8 .al v.1

def movFromMoffs16 (o : Word) (s : State) : State :=
  let r := s.segOr .ds
  let v := readWord (accessOf r) (s.sreg r) o (s.setLastEa o)
  v.2.setR16 .ax v.1

/-- The accumulator to memory at a 16-bit offset, which becomes `last_ea` (R303). -/
def movToMoffs8 (o : Word) (s : State) : State :=
  let r := s.segOr .ds
  writeByte (accessOf r) (s.sreg r) o (s.r8 .al) (s.setLastEa o)

def movToMoffs16 (o : Word) (s : State) : State :=
  let r := s.segOr .ds
  writeWord (accessOf r) (s.sreg r) o (s.r16 .ax) (s.setLastEa o)

/-- IN (R315, R316). -/
def inByte (port : Word) (s : State) : State :=
  let v := ioReadByte port s
  v.2.setR8 .al v.1

def inWord (port : Word) (s : State) : State :=
  let v := ioReadWord port s
  v.2.setR16 .ax v.1

/-- XLAT (R319). -/
def xlatOp (s : State) : State :=
  let o := s.r16 .bx + zext16 (s.r8 .al)
  let r := s.segOr .ds
  let v := readByte (accessOf r) (s.sreg r) o (s.setLastEa o)
  v.2.setR8 .al v.1

/-- LEA (R320): the offset of the memory form, which becomes `last_ea`; nothing is read. -/
def leaOp (r : Reg16) (m : Mem) (s : State) : State := (s.setLastEa (eaOff m s)).setR16 r (eaOff m s)

/-- LDS, LES: register and segment register from a far pointer; the inhibit is set (R321, R322, 60_exceptions.md R627). -/
def loadFarPointer (r : Reg16) (g : SReg) (p : Word × Word × State) : State :=
  ((p.2.2.setR16 r p.1).setSreg g p.2.1).setInhibit true

/-- SAHF (R324): bits 7, 6, 4, 2, 0 from AH. -/
def sahfOp (s : State) : State := s.setFlags (putFlags 0x00D5 (zext16 (s.r8 .ah)) s.flags)

/-- POPF (R326): the reserved bits stay pinned. -/
def popfOp (s : State) : State :=
  let t := pop16 s
  t.2.setFlags (pinFlags t.1)

/-! ### Meanings -/

/-- PUSH ES (06; R307). -/
def execPushEs (s : State) : Host.Outcome State Fault Refusal := .next (push16 s.seg.es s)

/-- POP ES (07; R310). -/
def execPopEs (s : State) : Host.Outcome State Fault Refusal := .next (popSreg .es s)

/-- PUSH CS (0E; R307). -/
def execPushCs (s : State) : Host.Outcome State Fault Refusal := .next (push16 s.seg.cs s)

/-- PUSH SS (16; R307). -/
def execPushSs (s : State) : Host.Outcome State Fault Refusal := .next (push16 s.seg.ss s)

/-- POP SS (17; R310). -/
def execPopSs (s : State) : Host.Outcome State Fault Refusal := .next (popSreg .ss s)

/-- PUSH DS (1E; R307). -/
def execPushDs (s : State) : Host.Outcome State Fault Refusal := .next (push16 s.seg.ds s)

/-- POP DS (1F; R310). -/
def execPopDs (s : State) : Host.Outcome State Fault Refusal := .next (popSreg .ds s)

/-- PUSH r16 (50; R306). -/
def execPushR16 (r : Reg16) (s : State) : Host.Outcome State Fault Refusal := .next (pushReg r s)

/-- POP r16 (58; R309). -/
def execPopR16 (r : Reg16) (s : State) : Host.Outcome State Fault Refusal := .next (popReg r s)

/-- XCHG Eb,Gb (86; R312). -/
def execXchgEbGb (rm : RM8) (r : Reg8) (s : State) : Host.Outcome State Fault Refusal := .next (xchg8 rm r s)

/-- XCHG Ev,Gv (87; R312). -/
def execXchgEvGv (rm : RM16) (r : Reg16) (s : State) : Host.Outcome State Fault Refusal := .next (xchg16 rm r s)

/-- MOV Eb,Gb (88; R300). -/
def execMovEbGb (rm : RM8) (r : Reg8) (s : State) : Host.Outcome State Fault Refusal := .next (store8 rm (fun t => t.r8 r) s)

/-- MOV Ev,Gv (89; R300). -/
def execMovEvGv (rm : RM16) (r : Reg16) (s : State) : Host.Outcome State Fault Refusal := .next (store16 rm (fun t => t.r16 r) s)

/-- MOV Gb,Eb (8A; R300). -/
def execMovGbEb (r : Reg8) (rm : RM8) (s : State) : Host.Outcome State Fault Refusal := .next ((let v := load8 rm s; v.2.setR8 r v.1))

/-- MOV Gv,Ev (8B; R300). -/
def execMovGvEv (r : Reg16) (rm : RM16) (s : State) : Host.Outcome State Fault Refusal := .next ((let v := load16 rm s; v.2.setR16 r v.1))

/-- MOV Ew,Sw (8C /0; R304). -/
def execMovEwSw (rm : RM16) (sr : SReg) (s : State) : Host.Outcome State Fault Refusal := .next (store16 rm (fun t => t.sreg sr) s)

/-- LEA Gv,M (mod 0 or 1) (8D; R320). -/
def execLeaMod01 (r : Reg16) (m : Mem) (s : State) : Host.Outcome State Fault Refusal := .next (leaOp r m s)

/-- LEA Gv,M (mod 2) (8D; R320). -/
def execLeaMod2 (r : Reg16) (m : Mem) (s : State) : Host.Outcome State Fault Refusal := .next (leaOp r m s)

/-- MOV ES,Ew (8E /0; R305). -/
def execMovEsEw (rm : RM16) (s : State) : Host.Outcome State Fault Refusal := .next (movToSreg .es rm s)

/-- MOV SS,Ew (8E /2; R305). -/
def execMovSsEw (rm : RM16) (s : State) : Host.Outcome State Fault Refusal := .next (movToSreg .ss rm s)

/-- MOV DS,Ew (8E /3; R305). -/
def execMovDsEw (rm : RM16) (s : State) : Host.Outcome State Fault Refusal := .next (movToSreg .ds rm s)

/-- POP Ev (8F /0; R311). -/
def execPopEv (rm : RM16) (s : State) : Host.Outcome State Fault Refusal := .next (popRM rm s)

/-- NOP (90; R314). -/
def execNop (s : State) : Host.Outcome State Fault Refusal := .next s

/-- XCHG AX,CX (91; R313). -/
def execXchgAxCx (s : State) : Host.Outcome State Fault Refusal := .next (xchgAx .cx s)

/-- XCHG AX,DX (92; R313). -/
def execXchgAxDx (s : State) : Host.Outcome State Fault Refusal := .next (xchgAx .dx s)

/-- XCHG AX,BX (93; R313). -/
def execXchgAxBx (s : State) : Host.Outcome State Fault Refusal := .next (xchgAx .bx s)

/-- XCHG AX,SP (94; R313). -/
def execXchgAxSp (s : State) : Host.Outcome State Fault Refusal := .next (xchgAx .sp s)

/-- XCHG AX,BP (95; R313). -/
def execXchgAxBp (s : State) : Host.Outcome State Fault Refusal := .next (xchgAx .bp s)

/-- XCHG AX,SI (96; R313). -/
def execXchgAxSi (s : State) : Host.Outcome State Fault Refusal := .next (xchgAx .si s)

/-- XCHG AX,DI (97; R313). -/
def execXchgAxDi (s : State) : Host.Outcome State Fault Refusal := .next (xchgAx .di s)

/-- PUSHF (9C; R325). -/
def execPushf (s : State) : Host.Outcome State Fault Refusal := .next (push16 s.flags s)

/-- POPF (9D; R326). -/
def execPopf (s : State) : Host.Outcome State Fault Refusal := .next (popfOp s)

/-- SAHF (9E; R324). -/
def execSahf (s : State) : Host.Outcome State Fault Refusal := .next (sahfOp s)

/-- LAHF (9F; R323). -/
def execLahf (s : State) : Host.Outcome State Fault Refusal := .next (s.setR8 .ah (loByte s.flags))

/-- MOV AL,Ob (A0; R303). -/
def execMovAlOb (o : Word) (s : State) : Host.Outcome State Fault Refusal := .next (movFromMoffs8 o s)

/-- MOV AX,Ov (A1; R303). -/
def execMovAxOv (o : Word) (s : State) : Host.Outcome State Fault Refusal := .next (movFromMoffs16 o s)

/-- MOV Ob,AL (A2; R303). -/
def execMovObAl (o : Word) (s : State) : Host.Outcome State Fault Refusal := .next (movToMoffs8 o s)

/-- MOV Ov,AX (A3; R303). -/
def execMovOvAx (o : Word) (s : State) : Host.Outcome State Fault Refusal := .next (movToMoffs16 o s)

/-- MOV r8,Ib (B0; R302). -/
def execMovR8Ib (r : Reg8) (imm : Byte) (s : State) : Host.Outcome State Fault Refusal := .next (s.setR8 r imm)

/-- MOV r16,Iv (B8; R302). -/
def execMovR16Iv (r : Reg16) (imm : Word) (s : State) : Host.Outcome State Fault Refusal := .next (s.setR16 r imm)

/-- LES Gv,Mp (mod 0 or 1) (C4; R322). -/
def execLesMod01 (r : Reg16) (m : Mem) (s : State) : Host.Outcome State Fault Refusal := .next (loadFarPointer r .es (loadFar m s))

/-- LES Gv,Mp (mod 2) (C4; R322). -/
def execLesMod2 (r : Reg16) (m : Mem) (s : State) : Host.Outcome State Fault Refusal := .next (loadFarPointer r .es (loadFar m s))

/-- LDS Gv,Mp (mod 0 or 1) (C5; R321). -/
def execLdsMod01 (r : Reg16) (m : Mem) (s : State) : Host.Outcome State Fault Refusal := .next (loadFarPointer r .ds (loadFar m s))

/-- LDS Gv,Mp (mod 2) (C5; R321). -/
def execLdsMod2 (r : Reg16) (m : Mem) (s : State) : Host.Outcome State Fault Refusal := .next (loadFarPointer r .ds (loadFar m s))

/-- MOV Eb,Ib (C6 /0; R301). -/
def execMovEbIb (rm : RM8) (imm : Byte) (s : State) : Host.Outcome State Fault Refusal := .next (store8 rm (fun _ => imm) s)

/-- MOV Ev,Iv (C7 /0; R301). -/
def execMovEvIv (rm : RM16) (imm : Word) (s : State) : Host.Outcome State Fault Refusal := .next (store16 rm (fun _ => imm) s)

/-- XLAT (D7; R319). -/
def execXlat (s : State) : Host.Outcome State Fault Refusal := .next (xlatOp s)

/-- IN AL,Ib (E4; R315). -/
def execInAlIb (imm : Byte) (s : State) : Host.Outcome State Fault Refusal := .next (inByte (zext16 imm) s)

/-- IN AX,Ib (E5; R315). -/
def execInAxIb (imm : Byte) (s : State) : Host.Outcome State Fault Refusal := .next (inWord (zext16 imm) s)

/-- OUT Ib,AL (E6; R317). -/
def execOutIbAl (imm : Byte) (s : State) : Host.Outcome State Fault Refusal := .next (ioWriteByte (zext16 imm) (s.r8 .al) s)

/-- OUT Ib,AX (E7; R317). -/
def execOutIbAx (imm : Byte) (s : State) : Host.Outcome State Fault Refusal := .next (ioWriteWord (zext16 imm) (s.r16 .ax) s)

/-- IN AL,DX (EC; R316). -/
def execInAlDx (s : State) : Host.Outcome State Fault Refusal := .next (inByte (s.r16 .dx) s)

/-- IN AX,DX (ED; R316). -/
def execInAxDx (s : State) : Host.Outcome State Fault Refusal := .next (inWord (s.r16 .dx) s)

/-- OUT DX,AL (EE; R318). -/
def execOutDxAl (s : State) : Host.Outcome State Fault Refusal := .next (ioWriteByte (s.r16 .dx) (s.r8 .al) s)

/-- OUT DX,AX (EF; R318). -/
def execOutDxAx (s : State) : Host.Outcome State Fault Refusal := .next (ioWriteWord (s.r16 .dx) (s.r16 .ax) s)

/-- PUSH Ev (FF /6; R308). -/
def execPushEv (rm : RM16) (s : State) : Host.Outcome State Fault Refusal := .next (pushRM rm s)

end Sys2Proof.Machine
end

