-- ==== Sys2Proof/Machine/Undocumented.lean ====
section
/-! DEFINITION. Meanings of the undocumented encodings of the 8088/8086 (46_undefined_opcodes.md R550 to R566). -/
namespace Sys2Proof.Machine
open Sys2Proof Host

/-! ### Shared operations -/

/-- CS is written without a flush: the queue and PC stay, and each code byte that is not in the queue comes from the old segment or
the new one until the next flush (R553, R565, 70_reset_and_hazards.md R685, U19, log 46); the inhibit is set. -/
def loadCs (v : Word) (s : State) : State :=
  let s1 := s.prefetch
  ((s1.setStale (s1.seg.cs :: s1.stale)).setSreg .cs v).setInhibit true

/-- MOV CS,r/m16 (R565). -/
def movToCs (rm : RM16) (s : State) : State :=
  let v := load16 rm s
  loadCs v.1 v.2

/-- POP CS (R553). -/
def popCsOp (s : State) : State :=
  let t := pop16 s
  loadCs t.1 t.2

/-- SETMO and SETMOC (R557). -/
def setmoRM (rm : RMW) (count : State → Nat) (s : State) : State :=
  modifyW 0 rm (fun _ t => setmoOut (count t) t) (fun _ t => setmoOut (count t) t) s

/-! ### Meanings -/

/-- POP CS (0F; R553). -/
def execPopCs (s : State) : Host.Outcome State Fault Refusal := .next (popCsOp s)

/-- JO Jb (undocumented duplicate of 70) (60; R551). -/
def execJoDup60 (d : Byte) (s : State) : Host.Outcome State Fault Refusal := .next (jcc 0 d s)

/-- JNO Jb (undocumented duplicate of 71) (61; R551). -/
def execJnoDup61 (d : Byte) (s : State) : Host.Outcome State Fault Refusal := .next (jcc 1 d s)

/-- JB/JC/JNAE Jb (undocumented duplicate of 72) (62; R551). -/
def execJbDup62 (d : Byte) (s : State) : Host.Outcome State Fault Refusal := .next (jcc 2 d s)

/-- JNB/JNC/JAE Jb (undocumented duplicate of 73) (63; R551). -/
def execJnbDup63 (d : Byte) (s : State) : Host.Outcome State Fault Refusal := .next (jcc 3 d s)

/-- JZ/JE Jb (undocumented duplicate of 74) (64; R551). -/
def execJzDup64 (d : Byte) (s : State) : Host.Outcome State Fault Refusal := .next (jcc 4 d s)

/-- JNZ/JNE Jb (undocumented duplicate of 75) (65; R551). -/
def execJnzDup65 (d : Byte) (s : State) : Host.Outcome State Fault Refusal := .next (jcc 5 d s)

/-- JBE/JNA Jb (undocumented duplicate of 76) (66; R551). -/
def execJbeDup66 (d : Byte) (s : State) : Host.Outcome State Fault Refusal := .next (jcc 6 d s)

/-- JA/JNBE Jb (undocumented duplicate of 77) (67; R551). -/
def execJaDup67 (d : Byte) (s : State) : Host.Outcome State Fault Refusal := .next (jcc 7 d s)

/-- JS Jb (undocumented duplicate of 78) (68; R551). -/
def execJsDup68 (d : Byte) (s : State) : Host.Outcome State Fault Refusal := .next (jcc 8 d s)

/-- JNS Jb (undocumented duplicate of 79) (69; R551). -/
def execJnsDup69 (d : Byte) (s : State) : Host.Outcome State Fault Refusal := .next (jcc 9 d s)

/-- JP/JPE Jb (undocumented duplicate of 7A) (6A; R551). -/
def execJpDup6A (d : Byte) (s : State) : Host.Outcome State Fault Refusal := .next (jcc 10 d s)

/-- JNP/JPO Jb (undocumented duplicate of 7B) (6B; R551). -/
def execJnpDup6B (d : Byte) (s : State) : Host.Outcome State Fault Refusal := .next (jcc 11 d s)

/-- JL/JNGE Jb (undocumented duplicate of 7C) (6C; R551). -/
def execJlDup6C (d : Byte) (s : State) : Host.Outcome State Fault Refusal := .next (jcc 12 d s)

/-- JGE/JNL Jb (undocumented duplicate of 7D) (6D; R551). -/
def execJgeDup6D (d : Byte) (s : State) : Host.Outcome State Fault Refusal := .next (jcc 13 d s)

/-- JLE/JNG Jb (undocumented duplicate of 7E) (6E; R551). -/
def execJleDup6E (d : Byte) (s : State) : Host.Outcome State Fault Refusal := .next (jcc 14 d s)

/-- JG/JNLE Jb (undocumented duplicate of 7F) (6F; R551). -/
def execJgDup6F (d : Byte) (s : State) : Host.Outcome State Fault Refusal := .next (jcc 15 d s)

/-- ADD Eb,Ib (82, undocumented duplicate of 80 /0) (82 /0; R554, R354). -/
def execAddEbIb82 (rm : RM8) (imm : Byte) (s : State) : Host.Outcome State Fault Refusal := .next (aluRmImm8 .add 1 rm imm s)

/-- OR Eb,Ib (82, undocumented duplicate of 80 /1) (82 /1; R554, R402). -/
def execOrEbIb82 (rm : RM8) (imm : Byte) (s : State) : Host.Outcome State Fault Refusal := .next (aluRmImm8 .or 1 rm imm s)

/-- ADC Eb,Ib (82, undocumented duplicate of 80 /2) (82 /2; R554, R355). -/
def execAdcEbIb82 (rm : RM8) (imm : Byte) (s : State) : Host.Outcome State Fault Refusal := .next (aluRmImm8 .adc 1 rm imm s)

/-- SBB Eb,Ib (82, undocumented duplicate of 80 /3) (82 /3; R554, R359). -/
def execSbbEbIb82 (rm : RM8) (imm : Byte) (s : State) : Host.Outcome State Fault Refusal := .next (aluRmImm8 .sbb 1 rm imm s)

/-- AND Eb,Ib (82, undocumented duplicate of 80 /4) (82 /4; R554, R401). -/
def execAndEbIb82 (rm : RM8) (imm : Byte) (s : State) : Host.Outcome State Fault Refusal := .next (aluRmImm8 .and 1 rm imm s)

/-- SUB Eb,Ib (82, undocumented duplicate of 80 /5) (82 /5; R554, R358). -/
def execSubEbIb82 (rm : RM8) (imm : Byte) (s : State) : Host.Outcome State Fault Refusal := .next (aluRmImm8 .sub 1 rm imm s)

/-- XOR Eb,Ib (82, undocumented duplicate of 80 /6) (82 /6; R554, R403). -/
def execXorEbIb82 (rm : RM8) (imm : Byte) (s : State) : Host.Outcome State Fault Refusal := .next (aluRmImm8 .xor 1 rm imm s)

/-- CMP Eb,Ib (82, undocumented duplicate of 80 /7) (82 /7; R554, R363). -/
def execCmpEbIb82 (rm : RM8) (imm : Byte) (s : State) : Host.Outcome State Fault Refusal := .next (aluRmImm8 .cmp 1 rm imm s)

/-- MOV Ew,Sw (reg 4..7, undocumented) (8C /4; R560, R304). -/
def execMovEwSwHigh (rm : RM16) (sr : SReg) (s : State) : Host.Outcome State Fault Refusal := .next (store16 rm (fun t => t.sreg sr) s)

/-- LEA Gv,M (mod 3, register form, uses last_ea) (8D; R564). -/
def execLeaMod3 (r : Reg16) (_rm : Reg16) (s : State) : Host.Outcome State Fault Refusal := .next (s.setR16 r s.lastEa)

/-- MOV CS,Ew (8E /1, undocumented) (8E /1; R565). -/
def execMovCsEw (rm : RM16) (s : State) : Host.Outcome State Fault Refusal := .next (movToCs rm s)

/-- MOV ES,Ew (8E /4, undocumented) (8E /4; R560, R305). -/
def execMovEsEw4 (rm : RM16) (s : State) : Host.Outcome State Fault Refusal := .next (movToSreg .es rm s)

/-- MOV CS,Ew (8E /5, undocumented) (8E /5; R565). -/
def execMovCsEw5 (rm : RM16) (s : State) : Host.Outcome State Fault Refusal := .next (movToCs rm s)

/-- MOV SS,Ew (8E /6, undocumented) (8E /6; R560, R305). -/
def execMovSsEw6 (rm : RM16) (s : State) : Host.Outcome State Fault Refusal := .next (movToSreg .ss rm s)

/-- MOV DS,Ew (8E /7, undocumented) (8E /7; R560, R305). -/
def execMovDsEw7 (rm : RM16) (s : State) : Host.Outcome State Fault Refusal := .next (movToSreg .ds rm s)

/-- POP Ev (8F /1, undocumented duplicate of 8F /0) (8F /1; R561, R311). -/
def execPopEvReg1 (rm : RM16) (s : State) : Host.Outcome State Fault Refusal := .next (popRM rm s)

/-- POP Ev (8F /2, undocumented duplicate of 8F /0) (8F /2; R561, R311). -/
def execPopEvReg2 (rm : RM16) (s : State) : Host.Outcome State Fault Refusal := .next (popRM rm s)

/-- POP Ev (8F /3, undocumented duplicate of 8F /0) (8F /3; R561, R311). -/
def execPopEvReg3 (rm : RM16) (s : State) : Host.Outcome State Fault Refusal := .next (popRM rm s)

/-- POP Ev (8F /4, undocumented duplicate of 8F /0) (8F /4; R561, R311). -/
def execPopEvReg4 (rm : RM16) (s : State) : Host.Outcome State Fault Refusal := .next (popRM rm s)

/-- POP Ev (8F /5, undocumented duplicate of 8F /0) (8F /5; R561, R311). -/
def execPopEvReg5 (rm : RM16) (s : State) : Host.Outcome State Fault Refusal := .next (popRM rm s)

/-- POP Ev (8F /6, undocumented duplicate of 8F /0) (8F /6; R561, R311). -/
def execPopEvReg6 (rm : RM16) (s : State) : Host.Outcome State Fault Refusal := .next (popRM rm s)

/-- POP Ev (8F /7, undocumented duplicate of 8F /0) (8F /7; R561, R311). -/
def execPopEvReg7 (rm : RM16) (s : State) : Host.Outcome State Fault Refusal := .next (popRM rm s)

/-- RET Iw (C0, undocumented duplicate of C2) (C0; R552, R483). -/
def execRetIwC0 (imm : Word) (s : State) : Host.Outcome State Fault Refusal := .next (retNear imm s)

/-- RET (C1, undocumented duplicate of C3) (C1; R552, R482). -/
def execRetC1 (s : State) : Host.Outcome State Fault Refusal := .next (retNear 0 s)

/-- LES Gv,Mp (mod 3, register form, uses last_ea) (C4; R564). -/
def execLesMod3 (r : Reg16) (_rm : Reg16) (s : State) : Host.Outcome State Fault Refusal := .next (loadFarPointer r .es (loadFarLastEa s))

/-- LDS Gv,Mp (mod 3, register form, uses last_ea) (C5; R564). -/
def execLdsMod3 (r : Reg16) (_rm : Reg16) (s : State) : Host.Outcome State Fault Refusal := .next (loadFarPointer r .ds (loadFarLastEa s))

/-- MOV Eb,Ib (C6 /1, undocumented duplicate of /0) (C6 /1; R561, R301). -/
def execMovEbIbReg1 (rm : RM8) (imm : Byte) (s : State) : Host.Outcome State Fault Refusal := .next (store8 rm (fun _ => imm) s)

/-- MOV Eb,Ib (C6 /2, undocumented duplicate of /0) (C6 /2; R561, R301). -/
def execMovEbIbReg2 (rm : RM8) (imm : Byte) (s : State) : Host.Outcome State Fault Refusal := .next (store8 rm (fun _ => imm) s)

/-- MOV Eb,Ib (C6 /3, undocumented duplicate of /0) (C6 /3; R561, R301). -/
def execMovEbIbReg3 (rm : RM8) (imm : Byte) (s : State) : Host.Outcome State Fault Refusal := .next (store8 rm (fun _ => imm) s)

/-- MOV Eb,Ib (C6 /4, undocumented duplicate of /0) (C6 /4; R561, R301). -/
def execMovEbIbReg4 (rm : RM8) (imm : Byte) (s : State) : Host.Outcome State Fault Refusal := .next (store8 rm (fun _ => imm) s)

/-- MOV Eb,Ib (C6 /5, undocumented duplicate of /0) (C6 /5; R561, R301). -/
def execMovEbIbReg5 (rm : RM8) (imm : Byte) (s : State) : Host.Outcome State Fault Refusal := .next (store8 rm (fun _ => imm) s)

/-- MOV Eb,Ib (C6 /6, undocumented duplicate of /0) (C6 /6; R561, R301). -/
def execMovEbIbReg6 (rm : RM8) (imm : Byte) (s : State) : Host.Outcome State Fault Refusal := .next (store8 rm (fun _ => imm) s)

/-- MOV Eb,Ib (C6 /7, undocumented duplicate of /0) (C6 /7; R561, R301). -/
def execMovEbIbReg7 (rm : RM8) (imm : Byte) (s : State) : Host.Outcome State Fault Refusal := .next (store8 rm (fun _ => imm) s)

/-- MOV Ev,Iv (C7 /1, undocumented duplicate of /0) (C7 /1; R561, R301). -/
def execMovEvIvReg1 (rm : RM16) (imm : Word) (s : State) : Host.Outcome State Fault Refusal := .next (store16 rm (fun _ => imm) s)

/-- MOV Ev,Iv (C7 /2, undocumented duplicate of /0) (C7 /2; R561, R301). -/
def execMovEvIvReg2 (rm : RM16) (imm : Word) (s : State) : Host.Outcome State Fault Refusal := .next (store16 rm (fun _ => imm) s)

/-- MOV Ev,Iv (C7 /3, undocumented duplicate of /0) (C7 /3; R561, R301). -/
def execMovEvIvReg3 (rm : RM16) (imm : Word) (s : State) : Host.Outcome State Fault Refusal := .next (store16 rm (fun _ => imm) s)

/-- MOV Ev,Iv (C7 /4, undocumented duplicate of /0) (C7 /4; R561, R301). -/
def execMovEvIvReg4 (rm : RM16) (imm : Word) (s : State) : Host.Outcome State Fault Refusal := .next (store16 rm (fun _ => imm) s)

/-- MOV Ev,Iv (C7 /5, undocumented duplicate of /0) (C7 /5; R561, R301). -/
def execMovEvIvReg5 (rm : RM16) (imm : Word) (s : State) : Host.Outcome State Fault Refusal := .next (store16 rm (fun _ => imm) s)

/-- MOV Ev,Iv (C7 /6, undocumented duplicate of /0) (C7 /6; R561, R301). -/
def execMovEvIvReg6 (rm : RM16) (imm : Word) (s : State) : Host.Outcome State Fault Refusal := .next (store16 rm (fun _ => imm) s)

/-- MOV Ev,Iv (C7 /7, undocumented duplicate of /0) (C7 /7; R561, R301). -/
def execMovEvIvReg7 (rm : RM16) (imm : Word) (s : State) : Host.Outcome State Fault Refusal := .next (store16 rm (fun _ => imm) s)

/-- RETF Iw (C8, undocumented duplicate of CA) (C8; R552, R485). -/
def execRetfIwC8 (imm : Word) (s : State) : Host.Outcome State Fault Refusal := .next (retFar imm s)

/-- RETF (C9, undocumented duplicate of CB) (C9; R552, R484). -/
def execRetfC9 (s : State) : Host.Outcome State Fault Refusal := .next (retFar 0 s)

/-- SETMO Eb/Ev (D0 /6, D1 /6, undocumented) (D0 /6; R557). -/
def execSetmo (rm : RMW) (s : State) : Host.Outcome State Fault Refusal := .next (setmoRM rm (fun _ => 1) s)

/-- SETMOC Eb/Ev,CL (D2 /6, D3 /6, undocumented) (D2 /6; R557). -/
def execSetmoc (rm : RMW) (s : State) : Host.Outcome State Fault Refusal := .next (setmoRM rm (fun t => (t.r8 .cl).toNat) s)

/-- SALC (undocumented) (D6; R556). -/
def execSalc (s : State) : Host.Outcome State Fault Refusal := .next (s.setR8 .al (if flagCF s.flags then 0xFF else 0))

/-- LOCK (prefix; F1, undocumented duplicate of F0) (F1; R555). -/
def execLockF1 (s : State) : Host.Outcome State Fault Refusal := .next (lockPrefixOp s)

/-- TEST Eb,Ib (F6 /1, undocumented duplicate of /0) (F6 /1; R558, R404). -/
def execTestEbIbReg1 (rm : RM8) (imm : Byte) (s : State) : Host.Outcome State Fault Refusal := .next (aluRmImm8 .test 1 rm imm s)

/-- TEST Ev,Iv (F7 /1, undocumented duplicate of /0) (F7 /1; R558, R404). -/
def execTestEvIvReg1 (rm : RM16) (imm : Word) (s : State) : Host.Outcome State Fault Refusal := .next (aluRmImm16 .test 2 rm imm s)

/-- (FE /2, undocumented byte form of FF /2) (FE /2; R563). -/
def execFe2 (_s : State) : Host.Outcome State Fault Refusal := .refused .byteFormOfGroup5

/-- (FE /3, undocumented byte form of FF /3) (FE /3; R563). -/
def execFe3 (_s : State) : Host.Outcome State Fault Refusal := .refused .byteFormOfGroup5

/-- (FE /4, undocumented byte form of FF /4) (FE /4; R563). -/
def execFe4 (_s : State) : Host.Outcome State Fault Refusal := .refused .byteFormOfGroup5

/-- (FE /5, undocumented byte form of FF /5) (FE /5; R563). -/
def execFe5 (_s : State) : Host.Outcome State Fault Refusal := .refused .byteFormOfGroup5

/-- (FE /6, undocumented byte form of FF /6) (FE /6; R563). -/
def execFe6 (_s : State) : Host.Outcome State Fault Refusal := .refused .byteFormOfGroup5

/-- (FE /7, undocumented byte form of FF /7) (FE /7; R563). -/
def execFe7 (_s : State) : Host.Outcome State Fault Refusal := .refused .byteFormOfGroup5

/-- CALL Mp (mod 3, register form, uses last_ea) (FF /3; R564). -/
def execCallMpMod3 (_rm : Reg16) (s : State) : Host.Outcome State Fault Refusal := .next (callFarPointer (loadFarLastEa s))

/-- JMP Mp (mod 3, register form, uses last_ea) (FF /5; R564). -/
def execJmpMpMod3 (_rm : Reg16) (s : State) : Host.Outcome State Fault Refusal := .next (jmpFarPointer (loadFarLastEa s))

/-- PUSH Ev (FF /7, undocumented duplicate of FF /6) (FF /7; R562, R308). -/
def execPushEvReg7 (rm : RM16) (s : State) : Host.Outcome State Fault Refusal := .next (pushRM rm s)

end Sys2Proof.Machine
end

