-- ==== Sys2Proof/Machine/Dispatch.lean ====
section
/-! DEFINITION. Dispatch: one arm per constructor of `Instr`, each the call of its meaning. -/
namespace Sys2Proof.Machine
open Sys2Proof Host

def exec (i : Instr) (s : State) : Host.Outcome State Fault Refusal :=
  match i with
  | .addEbGb rm r => Sys2Proof.Machine.execAddEbGb rm r s
  | .addEvGv rm r => Sys2Proof.Machine.execAddEvGv rm r s
  | .addGbEb r rm => Sys2Proof.Machine.execAddGbEb r rm s
  | .addGvEv r rm => Sys2Proof.Machine.execAddGvEv r rm s
  | .addAlIb imm => Sys2Proof.Machine.execAddAlIb imm s
  | .addAxIv imm => Sys2Proof.Machine.execAddAxIv imm s
  | .orEbGb rm r => Sys2Proof.Machine.execOrEbGb rm r s
  | .orEvGv rm r => Sys2Proof.Machine.execOrEvGv rm r s
  | .orGbEb r rm => Sys2Proof.Machine.execOrGbEb r rm s
  | .orGvEv r rm => Sys2Proof.Machine.execOrGvEv r rm s
  | .orAlIb imm => Sys2Proof.Machine.execOrAlIb imm s
  | .orAxIv imm => Sys2Proof.Machine.execOrAxIv imm s
  | .adcEbGb rm r => Sys2Proof.Machine.execAdcEbGb rm r s
  | .adcEvGv rm r => Sys2Proof.Machine.execAdcEvGv rm r s
  | .adcGbEb r rm => Sys2Proof.Machine.execAdcGbEb r rm s
  | .adcGvEv r rm => Sys2Proof.Machine.execAdcGvEv r rm s
  | .adcAlIb imm => Sys2Proof.Machine.execAdcAlIb imm s
  | .adcAxIv imm => Sys2Proof.Machine.execAdcAxIv imm s
  | .sbbEbGb rm r => Sys2Proof.Machine.execSbbEbGb rm r s
  | .sbbEvGv rm r => Sys2Proof.Machine.execSbbEvGv rm r s
  | .sbbGbEb r rm => Sys2Proof.Machine.execSbbGbEb r rm s
  | .sbbGvEv r rm => Sys2Proof.Machine.execSbbGvEv r rm s
  | .sbbAlIb imm => Sys2Proof.Machine.execSbbAlIb imm s
  | .sbbAxIv imm => Sys2Proof.Machine.execSbbAxIv imm s
  | .andEbGb rm r => Sys2Proof.Machine.execAndEbGb rm r s
  | .andEvGv rm r => Sys2Proof.Machine.execAndEvGv rm r s
  | .andGbEb r rm => Sys2Proof.Machine.execAndGbEb r rm s
  | .andGvEv r rm => Sys2Proof.Machine.execAndGvEv r rm s
  | .andAlIb imm => Sys2Proof.Machine.execAndAlIb imm s
  | .andAxIv imm => Sys2Proof.Machine.execAndAxIv imm s
  | .subEbGb rm r => Sys2Proof.Machine.execSubEbGb rm r s
  | .subEvGv rm r => Sys2Proof.Machine.execSubEvGv rm r s
  | .subGbEb r rm => Sys2Proof.Machine.execSubGbEb r rm s
  | .subGvEv r rm => Sys2Proof.Machine.execSubGvEv r rm s
  | .subAlIb imm => Sys2Proof.Machine.execSubAlIb imm s
  | .subAxIv imm => Sys2Proof.Machine.execSubAxIv imm s
  | .xorEbGb rm r => Sys2Proof.Machine.execXorEbGb rm r s
  | .xorEvGv rm r => Sys2Proof.Machine.execXorEvGv rm r s
  | .xorGbEb r rm => Sys2Proof.Machine.execXorGbEb r rm s
  | .xorGvEv r rm => Sys2Proof.Machine.execXorGvEv r rm s
  | .xorAlIb imm => Sys2Proof.Machine.execXorAlIb imm s
  | .xorAxIv imm => Sys2Proof.Machine.execXorAxIv imm s
  | .cmpEbGb rm r => Sys2Proof.Machine.execCmpEbGb rm r s
  | .cmpEvGv rm r => Sys2Proof.Machine.execCmpEvGv rm r s
  | .cmpGbEb r rm => Sys2Proof.Machine.execCmpGbEb r rm s
  | .cmpGvEv r rm => Sys2Proof.Machine.execCmpGvEv r rm s
  | .cmpAlIb imm => Sys2Proof.Machine.execCmpAlIb imm s
  | .cmpAxIv imm => Sys2Proof.Machine.execCmpAxIv imm s
  | .incR16 r => Sys2Proof.Machine.execIncR16 r s
  | .decR16 r => Sys2Proof.Machine.execDecR16 r s
  | .pushR16 r => Sys2Proof.Machine.execPushR16 r s
  | .popR16 r => Sys2Proof.Machine.execPopR16 r s
  | .joDup60 d => Sys2Proof.Machine.execJoDup60 d s
  | .jnoDup61 d => Sys2Proof.Machine.execJnoDup61 d s
  | .jbDup62 d => Sys2Proof.Machine.execJbDup62 d s
  | .jnbDup63 d => Sys2Proof.Machine.execJnbDup63 d s
  | .jzDup64 d => Sys2Proof.Machine.execJzDup64 d s
  | .jnzDup65 d => Sys2Proof.Machine.execJnzDup65 d s
  | .jbeDup66 d => Sys2Proof.Machine.execJbeDup66 d s
  | .jaDup67 d => Sys2Proof.Machine.execJaDup67 d s
  | .jsDup68 d => Sys2Proof.Machine.execJsDup68 d s
  | .jnsDup69 d => Sys2Proof.Machine.execJnsDup69 d s
  | .jpDup6A d => Sys2Proof.Machine.execJpDup6A d s
  | .jnpDup6B d => Sys2Proof.Machine.execJnpDup6B d s
  | .jlDup6C d => Sys2Proof.Machine.execJlDup6C d s
  | .jgeDup6D d => Sys2Proof.Machine.execJgeDup6D d s
  | .jleDup6E d => Sys2Proof.Machine.execJleDup6E d s
  | .jgDup6F d => Sys2Proof.Machine.execJgDup6F d s
  | .jo d => Sys2Proof.Machine.execJo d s
  | .jno d => Sys2Proof.Machine.execJno d s
  | .jb d => Sys2Proof.Machine.execJb d s
  | .jnb d => Sys2Proof.Machine.execJnb d s
  | .jz d => Sys2Proof.Machine.execJz d s
  | .jnz d => Sys2Proof.Machine.execJnz d s
  | .jbe d => Sys2Proof.Machine.execJbe d s
  | .ja d => Sys2Proof.Machine.execJa d s
  | .js d => Sys2Proof.Machine.execJs d s
  | .jns d => Sys2Proof.Machine.execJns d s
  | .jp d => Sys2Proof.Machine.execJp d s
  | .jnp d => Sys2Proof.Machine.execJnp d s
  | .jl d => Sys2Proof.Machine.execJl d s
  | .jge d => Sys2Proof.Machine.execJge d s
  | .jle d => Sys2Proof.Machine.execJle d s
  | .jg d => Sys2Proof.Machine.execJg d s
  | .addEbIb rm imm => Sys2Proof.Machine.execAddEbIb rm imm s
  | .orEbIb rm imm => Sys2Proof.Machine.execOrEbIb rm imm s
  | .adcEbIb rm imm => Sys2Proof.Machine.execAdcEbIb rm imm s
  | .sbbEbIb rm imm => Sys2Proof.Machine.execSbbEbIb rm imm s
  | .andEbIb rm imm => Sys2Proof.Machine.execAndEbIb rm imm s
  | .subEbIb rm imm => Sys2Proof.Machine.execSubEbIb rm imm s
  | .xorEbIb rm imm => Sys2Proof.Machine.execXorEbIb rm imm s
  | .cmpEbIb rm imm => Sys2Proof.Machine.execCmpEbIb rm imm s
  | .addEvIv rm imm => Sys2Proof.Machine.execAddEvIv rm imm s
  | .orEvIv rm imm => Sys2Proof.Machine.execOrEvIv rm imm s
  | .adcEvIv rm imm => Sys2Proof.Machine.execAdcEvIv rm imm s
  | .sbbEvIv rm imm => Sys2Proof.Machine.execSbbEvIv rm imm s
  | .andEvIv rm imm => Sys2Proof.Machine.execAndEvIv rm imm s
  | .subEvIv rm imm => Sys2Proof.Machine.execSubEvIv rm imm s
  | .xorEvIv rm imm => Sys2Proof.Machine.execXorEvIv rm imm s
  | .cmpEvIv rm imm => Sys2Proof.Machine.execCmpEvIv rm imm s
  | .addEbIb82 rm imm => Sys2Proof.Machine.execAddEbIb82 rm imm s
  | .orEbIb82 rm imm => Sys2Proof.Machine.execOrEbIb82 rm imm s
  | .adcEbIb82 rm imm => Sys2Proof.Machine.execAdcEbIb82 rm imm s
  | .sbbEbIb82 rm imm => Sys2Proof.Machine.execSbbEbIb82 rm imm s
  | .andEbIb82 rm imm => Sys2Proof.Machine.execAndEbIb82 rm imm s
  | .subEbIb82 rm imm => Sys2Proof.Machine.execSubEbIb82 rm imm s
  | .xorEbIb82 rm imm => Sys2Proof.Machine.execXorEbIb82 rm imm s
  | .cmpEbIb82 rm imm => Sys2Proof.Machine.execCmpEbIb82 rm imm s
  | .addEvIbs rm imm => Sys2Proof.Machine.execAddEvIbs rm imm s
  | .orEvIbs rm imm => Sys2Proof.Machine.execOrEvIbs rm imm s
  | .adcEvIbs rm imm => Sys2Proof.Machine.execAdcEvIbs rm imm s
  | .sbbEvIbs rm imm => Sys2Proof.Machine.execSbbEvIbs rm imm s
  | .andEvIbs rm imm => Sys2Proof.Machine.execAndEvIbs rm imm s
  | .subEvIbs rm imm => Sys2Proof.Machine.execSubEvIbs rm imm s
  | .xorEvIbs rm imm => Sys2Proof.Machine.execXorEvIbs rm imm s
  | .cmpEvIbs rm imm => Sys2Proof.Machine.execCmpEvIbs rm imm s
  | .testEbGb rm r => Sys2Proof.Machine.execTestEbGb rm r s
  | .testEvGv rm r => Sys2Proof.Machine.execTestEvGv rm r s
  | .xchgEbGb rm r => Sys2Proof.Machine.execXchgEbGb rm r s
  | .xchgEvGv rm r => Sys2Proof.Machine.execXchgEvGv rm r s
  | .movEbGb rm r => Sys2Proof.Machine.execMovEbGb rm r s
  | .movEvGv rm r => Sys2Proof.Machine.execMovEvGv rm r s
  | .movGbEb r rm => Sys2Proof.Machine.execMovGbEb r rm s
  | .movGvEv r rm => Sys2Proof.Machine.execMovGvEv r rm s
  | .movEwSw rm sr => Sys2Proof.Machine.execMovEwSw rm sr s
  | .movEwSwHigh rm sr => Sys2Proof.Machine.execMovEwSwHigh rm sr s
  | .leaMod01 r m => Sys2Proof.Machine.execLeaMod01 r m s
  | .leaMod2 r m => Sys2Proof.Machine.execLeaMod2 r m s
  | .leaMod3 r rm => Sys2Proof.Machine.execLeaMod3 r rm s
  | .movEsEw rm => Sys2Proof.Machine.execMovEsEw rm s
  | .movCsEw rm => Sys2Proof.Machine.execMovCsEw rm s
  | .movSsEw rm => Sys2Proof.Machine.execMovSsEw rm s
  | .movDsEw rm => Sys2Proof.Machine.execMovDsEw rm s
  | .movEsEw4 rm => Sys2Proof.Machine.execMovEsEw4 rm s
  | .movCsEw5 rm => Sys2Proof.Machine.execMovCsEw5 rm s
  | .movSsEw6 rm => Sys2Proof.Machine.execMovSsEw6 rm s
  | .movDsEw7 rm => Sys2Proof.Machine.execMovDsEw7 rm s
  | .popEv rm => Sys2Proof.Machine.execPopEv rm s
  | .popEvReg1 rm => Sys2Proof.Machine.execPopEvReg1 rm s
  | .popEvReg2 rm => Sys2Proof.Machine.execPopEvReg2 rm s
  | .popEvReg3 rm => Sys2Proof.Machine.execPopEvReg3 rm s
  | .popEvReg4 rm => Sys2Proof.Machine.execPopEvReg4 rm s
  | .popEvReg5 rm => Sys2Proof.Machine.execPopEvReg5 rm s
  | .popEvReg6 rm => Sys2Proof.Machine.execPopEvReg6 rm s
  | .popEvReg7 rm => Sys2Proof.Machine.execPopEvReg7 rm s
  | .callAp off sg => Sys2Proof.Machine.execCallAp off sg s
  | .movAlOb o => Sys2Proof.Machine.execMovAlOb o s
  | .movAxOv o => Sys2Proof.Machine.execMovAxOv o s
  | .movObAl o => Sys2Proof.Machine.execMovObAl o s
  | .movOvAx o => Sys2Proof.Machine.execMovOvAx o s
  | .testAlIb imm => Sys2Proof.Machine.execTestAlIb imm s
  | .testAxIv imm => Sys2Proof.Machine.execTestAxIv imm s
  | .movR8Ib r imm => Sys2Proof.Machine.execMovR8Ib r imm s
  | .movR16Iv r imm => Sys2Proof.Machine.execMovR16Iv r imm s
  | .retIwC0 imm => Sys2Proof.Machine.execRetIwC0 imm s
  | .retIw imm => Sys2Proof.Machine.execRetIw imm s
  | .lesMod01 r m => Sys2Proof.Machine.execLesMod01 r m s
  | .lesMod2 r m => Sys2Proof.Machine.execLesMod2 r m s
  | .lesMod3 r rm => Sys2Proof.Machine.execLesMod3 r rm s
  | .ldsMod01 r m => Sys2Proof.Machine.execLdsMod01 r m s
  | .ldsMod2 r m => Sys2Proof.Machine.execLdsMod2 r m s
  | .ldsMod3 r rm => Sys2Proof.Machine.execLdsMod3 r rm s
  | .movEbIb rm imm => Sys2Proof.Machine.execMovEbIb rm imm s
  | .movEbIbReg1 rm imm => Sys2Proof.Machine.execMovEbIbReg1 rm imm s
  | .movEbIbReg2 rm imm => Sys2Proof.Machine.execMovEbIbReg2 rm imm s
  | .movEbIbReg3 rm imm => Sys2Proof.Machine.execMovEbIbReg3 rm imm s
  | .movEbIbReg4 rm imm => Sys2Proof.Machine.execMovEbIbReg4 rm imm s
  | .movEbIbReg5 rm imm => Sys2Proof.Machine.execMovEbIbReg5 rm imm s
  | .movEbIbReg6 rm imm => Sys2Proof.Machine.execMovEbIbReg6 rm imm s
  | .movEbIbReg7 rm imm => Sys2Proof.Machine.execMovEbIbReg7 rm imm s
  | .movEvIv rm imm => Sys2Proof.Machine.execMovEvIv rm imm s
  | .movEvIvReg1 rm imm => Sys2Proof.Machine.execMovEvIvReg1 rm imm s
  | .movEvIvReg2 rm imm => Sys2Proof.Machine.execMovEvIvReg2 rm imm s
  | .movEvIvReg3 rm imm => Sys2Proof.Machine.execMovEvIvReg3 rm imm s
  | .movEvIvReg4 rm imm => Sys2Proof.Machine.execMovEvIvReg4 rm imm s
  | .movEvIvReg5 rm imm => Sys2Proof.Machine.execMovEvIvReg5 rm imm s
  | .movEvIvReg6 rm imm => Sys2Proof.Machine.execMovEvIvReg6 rm imm s
  | .movEvIvReg7 rm imm => Sys2Proof.Machine.execMovEvIvReg7 rm imm s
  | .retfIwC8 imm => Sys2Proof.Machine.execRetfIwC8 imm s
  | .retfIw imm => Sys2Proof.Machine.execRetfIw imm s
  | .intIb imm => Sys2Proof.Machine.execIntIb imm s
  | .rolEbEv rm n => Sys2Proof.Machine.execRolEbEv rm n s
  | .rorEbEv rm n => Sys2Proof.Machine.execRorEbEv rm n s
  | .rclEbEv rm n => Sys2Proof.Machine.execRclEbEv rm n s
  | .rcrEbEv rm n => Sys2Proof.Machine.execRcrEbEv rm n s
  | .shlEbEv rm n => Sys2Proof.Machine.execShlEbEv rm n s
  | .shrEbEv rm n => Sys2Proof.Machine.execShrEbEv rm n s
  | .setmo rm => Sys2Proof.Machine.execSetmo rm s
  | .setmoc rm => Sys2Proof.Machine.execSetmoc rm s
  | .sarEbEv rm n => Sys2Proof.Machine.execSarEbEv rm n s
  | .aamIb imm => Sys2Proof.Machine.execAamIb imm s
  | .aadIb imm => Sys2Proof.Machine.execAadIb imm s
  | .esc op ext rm => Sys2Proof.Machine.execEsc op ext rm s
  | .loopnz d => Sys2Proof.Machine.execLoopnz d s
  | .loopz d => Sys2Proof.Machine.execLoopz d s
  | .loop d => Sys2Proof.Machine.execLoop d s
  | .jcxz d => Sys2Proof.Machine.execJcxz d s
  | .inAlIb imm => Sys2Proof.Machine.execInAlIb imm s
  | .inAxIb imm => Sys2Proof.Machine.execInAxIb imm s
  | .outIbAl imm => Sys2Proof.Machine.execOutIbAl imm s
  | .outIbAx imm => Sys2Proof.Machine.execOutIbAx imm s
  | .callJv d => Sys2Proof.Machine.execCallJv d s
  | .jmpJv d => Sys2Proof.Machine.execJmpJv d s
  | .jmpAp off sg => Sys2Proof.Machine.execJmpAp off sg s
  | .jmpJb d => Sys2Proof.Machine.execJmpJb d s
  | .testEbIb rm imm => Sys2Proof.Machine.execTestEbIb rm imm s
  | .testEbIbReg1 rm imm => Sys2Proof.Machine.execTestEbIbReg1 rm imm s
  | .testEvIv rm imm => Sys2Proof.Machine.execTestEvIv rm imm s
  | .testEvIvReg1 rm imm => Sys2Proof.Machine.execTestEvIvReg1 rm imm s
  | .notEbEv rm => Sys2Proof.Machine.execNotEbEv rm s
  | .negEbEv rm => Sys2Proof.Machine.execNegEbEv rm s
  | .mulEbEv rm => Sys2Proof.Machine.execMulEbEv rm s
  | .imulEbEv rm => Sys2Proof.Machine.execImulEbEv rm s
  | .divEbEv rm => Sys2Proof.Machine.execDivEbEv rm s
  | .idivEbEv rm => Sys2Proof.Machine.execIdivEbEv rm s
  | .incEbEv rm => Sys2Proof.Machine.execIncEbEv rm s
  | .decEbEv rm => Sys2Proof.Machine.execDecEbEv rm s
  | .callEv rm => Sys2Proof.Machine.execCallEv rm s
  | .callMpMod01 m => Sys2Proof.Machine.execCallMpMod01 m s
  | .callMpMod2 m => Sys2Proof.Machine.execCallMpMod2 m s
  | .callMpMod3 rm => Sys2Proof.Machine.execCallMpMod3 rm s
  | .jmpEv rm => Sys2Proof.Machine.execJmpEv rm s
  | .jmpMpMod01 m => Sys2Proof.Machine.execJmpMpMod01 m s
  | .jmpMpMod2 m => Sys2Proof.Machine.execJmpMpMod2 m s
  | .jmpMpMod3 rm => Sys2Proof.Machine.execJmpMpMod3 rm s
  | .pushEv rm => Sys2Proof.Machine.execPushEv rm s
  | .pushEvReg7 rm => Sys2Proof.Machine.execPushEvReg7 rm s
  | .ext0F op2 => Sys2Proof.Machine.execExt0F op2 s
  | .boundMod01 r m => Sys2Proof.Machine.execBoundMod01 r m s
  | .boundMod2 r m => Sys2Proof.Machine.execBoundMod2 r m s
  | .pushIv imm => Sys2Proof.Machine.execPushIv imm s
  | .imulGvEvIv r rm imm => Sys2Proof.Machine.execImulGvEvIv r rm imm s
  | .pushIbs imm => Sys2Proof.Machine.execPushIbs imm s
  | .imulGvEvIbs r rm imm => Sys2Proof.Machine.execImulGvEvIbs r rm imm s
  | .rolEbEvIb rm imm => Sys2Proof.Machine.execRolEbEvIb rm imm s
  | .rorEbEvIb rm imm => Sys2Proof.Machine.execRorEbEvIb rm imm s
  | .rclEbEvIb rm imm => Sys2Proof.Machine.execRclEbEvIb rm imm s
  | .rcrEbEvIb rm imm => Sys2Proof.Machine.execRcrEbEvIb rm imm s
  | .shlEbEvIb rm imm => Sys2Proof.Machine.execShlEbEvIb rm imm s
  | .shrEbEvIb rm imm => Sys2Proof.Machine.execShrEbEvIb rm imm s
  | .sarEbEvIb rm imm => Sys2Proof.Machine.execSarEbEvIb rm imm s
  | .enter size level => Sys2Proof.Machine.execEnter size level s
  | .pushEs => Sys2Proof.Machine.execPushEs s
  | .popEs => Sys2Proof.Machine.execPopEs s
  | .pushCs => Sys2Proof.Machine.execPushCs s
  | .popCs => Sys2Proof.Machine.execPopCs s
  | .pushSs => Sys2Proof.Machine.execPushSs s
  | .popSs => Sys2Proof.Machine.execPopSs s
  | .pushDs => Sys2Proof.Machine.execPushDs s
  | .popDs => Sys2Proof.Machine.execPopDs s
  | .segEs => Sys2Proof.Machine.execSegEs s
  | .daa => Sys2Proof.Machine.execDaa s
  | .segCs => Sys2Proof.Machine.execSegCs s
  | .das => Sys2Proof.Machine.execDas s
  | .segSs => Sys2Proof.Machine.execSegSs s
  | .aaa => Sys2Proof.Machine.execAaa s
  | .segDs => Sys2Proof.Machine.execSegDs s
  | .aas => Sys2Proof.Machine.execAas s
  | .nop => Sys2Proof.Machine.execNop s
  | .xchgAxCx => Sys2Proof.Machine.execXchgAxCx s
  | .xchgAxDx => Sys2Proof.Machine.execXchgAxDx s
  | .xchgAxBx => Sys2Proof.Machine.execXchgAxBx s
  | .xchgAxSp => Sys2Proof.Machine.execXchgAxSp s
  | .xchgAxBp => Sys2Proof.Machine.execXchgAxBp s
  | .xchgAxSi => Sys2Proof.Machine.execXchgAxSi s
  | .xchgAxDi => Sys2Proof.Machine.execXchgAxDi s
  | .cbw => Sys2Proof.Machine.execCbw s
  | .cwd => Sys2Proof.Machine.execCwd s
  | .wait => Sys2Proof.Machine.execWait s
  | .pushf => Sys2Proof.Machine.execPushf s
  | .popf => Sys2Proof.Machine.execPopf s
  | .sahf => Sys2Proof.Machine.execSahf s
  | .lahf => Sys2Proof.Machine.execLahf s
  | .movsb => Sys2Proof.Machine.execMovsb s
  | .movsw => Sys2Proof.Machine.execMovsw s
  | .cmpsb => Sys2Proof.Machine.execCmpsb s
  | .cmpsw => Sys2Proof.Machine.execCmpsw s
  | .stosb => Sys2Proof.Machine.execStosb s
  | .stosw => Sys2Proof.Machine.execStosw s
  | .lodsb => Sys2Proof.Machine.execLodsb s
  | .lodsw => Sys2Proof.Machine.execLodsw s
  | .scasb => Sys2Proof.Machine.execScasb s
  | .scasw => Sys2Proof.Machine.execScasw s
  | .retC1 => Sys2Proof.Machine.execRetC1 s
  | .ret => Sys2Proof.Machine.execRet s
  | .retfC9 => Sys2Proof.Machine.execRetfC9 s
  | .retf => Sys2Proof.Machine.execRetf s
  | .int3 => Sys2Proof.Machine.execInt3 s
  | .into => Sys2Proof.Machine.execInto s
  | .iret => Sys2Proof.Machine.execIret s
  | .salc => Sys2Proof.Machine.execSalc s
  | .xlat => Sys2Proof.Machine.execXlat s
  | .inAlDx => Sys2Proof.Machine.execInAlDx s
  | .inAxDx => Sys2Proof.Machine.execInAxDx s
  | .outDxAl => Sys2Proof.Machine.execOutDxAl s
  | .outDxAx => Sys2Proof.Machine.execOutDxAx s
  | .lock => Sys2Proof.Machine.execLock s
  | .lockF1 => Sys2Proof.Machine.execLockF1 s
  | .repne => Sys2Proof.Machine.execRepne s
  | .rep => Sys2Proof.Machine.execRep s
  | .hlt => Sys2Proof.Machine.execHlt s
  | .cmc => Sys2Proof.Machine.execCmc s
  | .clc => Sys2Proof.Machine.execClc s
  | .stc => Sys2Proof.Machine.execStc s
  | .cli => Sys2Proof.Machine.execCli s
  | .sti => Sys2Proof.Machine.execSti s
  | .cld => Sys2Proof.Machine.execCld s
  | .std => Sys2Proof.Machine.execStd s
  | .fe2 => Sys2Proof.Machine.execFe2 s
  | .fe3 => Sys2Proof.Machine.execFe3 s
  | .fe4 => Sys2Proof.Machine.execFe4 s
  | .fe5 => Sys2Proof.Machine.execFe5 s
  | .fe6 => Sys2Proof.Machine.execFe6 s
  | .fe7 => Sys2Proof.Machine.execFe7 s
  | .pusha => Sys2Proof.Machine.execPusha s
  | .popa => Sys2Proof.Machine.execPopa s
  | .undef62Mod3 => Sys2Proof.Machine.execUndef62Mod3 s
  | .undef63 => Sys2Proof.Machine.execUndef63 s
  | .repnc => Sys2Proof.Machine.execRepnc s
  | .repc => Sys2Proof.Machine.execRepc s
  | .undef66 => Sys2Proof.Machine.execUndef66 s
  | .undef67 => Sys2Proof.Machine.execUndef67 s
  | .insb => Sys2Proof.Machine.execInsb s
  | .insw => Sys2Proof.Machine.execInsw s
  | .outsb => Sys2Proof.Machine.execOutsb s
  | .outsw => Sys2Proof.Machine.execOutsw s
  | .undefC0Reg6 => Sys2Proof.Machine.execUndefC0Reg6 s
  | .leave => Sys2Proof.Machine.execLeave s
  | .undefD0Reg6 => Sys2Proof.Machine.execUndefD0Reg6 s
  | .undefD6 => Sys2Proof.Machine.execUndefD6 s
  | .undefF1 => Sys2Proof.Machine.execUndefF1 s
  | .undefFe2 => Sys2Proof.Machine.execUndefFe2 s
  | .undefFe3 => Sys2Proof.Machine.execUndefFe3 s
  | .undefFe4 => Sys2Proof.Machine.execUndefFe4 s
  | .undefFe5 => Sys2Proof.Machine.execUndefFe5 s
  | .undefFe6 => Sys2Proof.Machine.execUndefFe6 s
  | .undefFe7 => Sys2Proof.Machine.execUndefFe7 s
  | .undef8DMod3 => Sys2Proof.Machine.execUndef8DMod3 s
  | .undefC4Mod3 => Sys2Proof.Machine.execUndefC4Mod3 s
  | .undefC5Mod3 => Sys2Proof.Machine.execUndefC5Mod3 s
  | .undefFfReg3 => Sys2Proof.Machine.execUndefFfReg3 s
  | .undefFfReg5 => Sys2Proof.Machine.execUndefFfReg5 s
  | .add4s => Sys2Proof.Machine.execAdd4s s
  | .sub4s => Sys2Proof.Machine.execSub4s s
  | .cmp4s => Sys2Proof.Machine.execCmp4s s
  | .test1EbCl => Sys2Proof.Machine.execTest1EbCl s
  | .test1EvCl => Sys2Proof.Machine.execTest1EvCl s
  | .clr1EbCl => Sys2Proof.Machine.execClr1EbCl s
  | .clr1EvCl => Sys2Proof.Machine.execClr1EvCl s
  | .set1EbCl => Sys2Proof.Machine.execSet1EbCl s
  | .set1EvCl => Sys2Proof.Machine.execSet1EvCl s
  | .not1EbCl => Sys2Proof.Machine.execNot1EbCl s
  | .not1EvCl => Sys2Proof.Machine.execNot1EvCl s
  | .test1EbIb => Sys2Proof.Machine.execTest1EbIb s
  | .test1EvIb => Sys2Proof.Machine.execTest1EvIb s
  | .clr1EbIb => Sys2Proof.Machine.execClr1EbIb s
  | .clr1EvIb => Sys2Proof.Machine.execClr1EvIb s
  | .set1EbIb => Sys2Proof.Machine.execSet1EbIb s
  | .set1EvIb => Sys2Proof.Machine.execSet1EvIb s
  | .not1EbIb => Sys2Proof.Machine.execNot1EbIb s
  | .not1EvIb => Sys2Proof.Machine.execNot1EvIb s
  | .rol4 => Sys2Proof.Machine.execRol4 s
  | .ror4 => Sys2Proof.Machine.execRor4 s
  | .insFieldReg => Sys2Proof.Machine.execInsFieldReg s
  | .insFieldImm => Sys2Proof.Machine.execInsFieldImm s
  | .extFieldReg => Sys2Proof.Machine.execExtFieldReg s
  | .extFieldImm => Sys2Proof.Machine.execExtFieldImm s
  | .brkem => Sys2Proof.Machine.execBrkem s

end Sys2Proof.Machine
end

