-- ==== Sys2Proof/Machine/Sequencer.lean ====
section
/-! DEFINITION. The sequencer: fetching, running and finishing an instruction (32_decode_sequencer.md R260 to R278), and
the events of the agenda (log 7). -/
namespace Sys2Proof.Machine
open Sys2Proof Host

/-- After a meaning: the boundary check, which ends the instruction (R278); `more` after a prefix, which belongs to the instruction that
follows (60_exceptions.md R629, R263); else the instruction goes on in the next step. -/
def finish (more : State → Host.Outcome State Fault Refusal) (o : Host.Outcome State Fault Refusal) :
    Host.Outcome State Fault Refusal :=
  match o with
  | .next t => if t.life = .checkInterrupts then .next (checkInterrupts t) else if t.life = .decodePrefix then more t else .next t
  | .fault f => .fault f
  | .refused r => .refused r

/-- The state in which a fetched instruction is decoded: a new instruction begins, unless a prefix has been read. -/
def fetchState (s : State) : State := if s.life = .decodePrefix then s else beginInstr s

/-- The state in which a meaning runs: its bytes are taken. -/
def readyToExec (i : Instr) (n : Nat) (s : State) : State := (consume n i (fetchState s)).setLife .checkInterrupts

/-- Fetch, decode and run the instruction at CS:IP with its prefixes, of which there are at most so many. -/
def fetchExec : Nat → State → Host.Outcome State Fault Refusal
  | 0, s => .next s
  | n + 1, s =>
    match decode s.cfg.cpu s.window with
    | .ok i rest => finish (fetchExec n) (exec i (readyToExec i (maxInstrBytes - rest.length) s))
    | .rejected _ => .fault .undecodable

/-- More prefixes than a code segment and a queue can hold: a step that has read so many is in a segment of prefix bytes only, and the
next step goes on (log 8). -/
def prefixLimit : Nat := 65536 + 6

/-- An EU step begins. It stands for all the ticks it takes, so a code fetch in `T1` to `T4` comes to its end first
(22_biu_tstate_engine.md R149, log 10); then the prefetcher may fill (21_prefetch_queue.md R111). -/
def beginStep (s : State) : State := (s.setSteps (s.steps + 1)).completeFetch.prefetch

/-- What the EU does next: an instruction that goes on (a repetition, WAIT), or the instruction at CS:IP. Where a tick has asked for the
Halt cycle, which stops fetching, the halt begins (22_biu_tstate_engine.md R158, log 10). -/
def runNext (s : State) : Host.Outcome State Fault Refusal :=
  if s.biu.fetchState = .halted then .next (s.setHalted true)
  else
    let s1 := beginStep s
    match s1.life, s1.dec.instr with
    | .execute, some i => finish .next (exec i (s1.setLife .checkInterrupts))
    | _, _ => fetchExec prefixLimit s1

/-- While the CPU is halted every step makes the boundary check (60_exceptions.md R631), unless it has accepted a sequence already. -/
def haltCheck (s : State) : State := if s.halted && s.sequences.isEmpty then checkInterrupts s else s

/-- One step of the EU: an accepted interrupt sequence, the check that finds none while halted, the next iteration of an instruction that
goes on, or the instruction at CS:IP with its prefixes (00_scope.md R8, log 8). -/
def euStep (s : State) : Host.Outcome State Fault Refusal :=
  let s1 := haltCheck s
  match s1.sequences with
  | q :: rest => .next (runSequence q rest (beginStep s1))
  | [] => if s1.halted then .next s1 else runNext s1

/-- A level on NMI: its rising edge sets the latch (60_exceptions.md R625). -/
def nmiLevel (l : Bool) (s : State) : State :=
  (s.setPins { s.pins with nmi := l }).setNmiLatch (s.nmiLatch || (l && !s.pins.nmi))

/-- One event. -/
def runEvent (e : Event) (s : State) : Host.Outcome State Fault Refusal :=
  match e with
  | .eu => euStep s
  | .intr l v => .next (s.setPins { s.pins with intr := l, vector := v })
  | .nmi l => .next (nmiLevel l s)
  | .test l => .next (s.setPins { s.pins with test := l })
  | .reset => .next s.applyReset
  | .device bs => .next (s.setDevIn (s.devIn ++ bs))
  | .tick a inp => .next (tick a inp s)

/-- The next event of the agenda; when it is empty, a step of the EU. -/
def runStep (s : State) : Host.Outcome State Fault Refusal :=
  match s.script with
  | [] => euStep s
  | e :: rest => runEvent e (s.setScript rest)

/-- Bytes stored in the code segment from an offset on. -/
def storeCode (bs : List Byte) (off : Word) (s : State) : State :=
  match bs with
  | [] => s
  | b :: bs => storeCode bs (off + 1) (s.setMem (memWrite s.mem (lin s.seg.cs off).toNat b))

/-- The next step fetches and runs these bytes: they stand in memory at CS:IP, the queue is empty, no instruction or interrupt
sequence is under way, the CPU is not halted and the agenda is empty (log 41). -/
def placeCode (bs : List Byte) (s : State) : State :=
  let s1 := ((((s.setScript []).setHalted false).setDec DecodeState.clear).setLife .fetch).setSequences []
  storeCode bs s1.ip s1.flush

end Sys2Proof.Machine
end

