-- ==== Sys2Proof/Machine/Step.lean ====
section
/-! DEFINITION. One step of the machine. -/
namespace Sys2Proof.Machine
open Sys2Proof Host

/-- One step: the next event of the agenda, or an EU step (log 7, log 8). -/
def step (s : State) : Host.Outcome State Fault Refusal := runStep s

/-- The state whose next step fetches and runs the instruction with the table bits `w` (log 23, log 41). -/
def State.withFetchWord (s : State) (nbits w : Nat) : State := placeCode (tableBytes nbits w) s

end Sys2Proof.Machine
end

