-- ==== Sys2Proof/Safety.lean ====
section
/-! DEFINITION. What counts as a safe run, the invariant of the machine, and the terms in which statements say what an
instruction leaves alone. -/
namespace Sys2Proof.Machine
open Sys2Proof

/-! ### Safety -/

/-- A run of `n` steps is safe when it meets no fault; a refusal ends it safely (00_scope.md R7, 20_memory.md R78). -/
def SafeRun (n : Nat) (s : State) : Prop := ∀ f, Host.Core.run core n s ≠ .fault f

/-- The bytes that fetches under way will bring: the one on the bus, and the one in its address cycle at the width of the bus. -/
def State.owed (s : State) : Nat := s.biu.inFlight + if s.biu.prep = .fetch then s.busWidth else 0

/-- What holds between any two steps: memory is in its canonical form and lists only addresses of `ADDR_BITS` bits, the
reserved flags read as 10_state.md R36 says, the queue has room for all that it holds and all that is on the way
(21_prefetch_queue.md R110, R112, R114), and PC is ahead of IP by the length of the queue (10_state.md R32). -/
structure State.Inv (s : State) : Prop where
  memWf : Memory.wf s.mem = true
  memSmall : ∀ c ∈ s.mem, c.1 < 2 ^ s.cfg.addrBits.bits
  flags : flagsPinned s.flags = true
  queueFits : s.queue.length + s.owed ≤ s.capacity
  pcAhead : s.pc = s.ip + BitVec.ofNat 16 s.queue.length

/-! ### Frames -/

/-- The byte that memory holds at an address. -/
def State.byteAt (s : State) (a : BitVec 20) : Byte := memRead s.mem a.toNat

/-- The bus interface unit without what prefetching and reads of the queue move: the fetch state, the address cycle, the bus cycle in
progress with its wait count, and the read that waits. -/
def Biu.latches (b : Biu) : Biu :=
  { b with fetchState := .normal, prep := .idle, ta := .td, tState := .ti, busState := .passive, access := .none,
           cycle := none, busWait := 0, queueRead := false }

/-- A code fetch, which the bus interface unit makes of its own accord (20_memory.md R88). -/
def BusEvent.isFetch : BusEvent → Bool
  | .codeFetch _ _ _ => true
  | .memRead _ _ _ _ => false
  | .memWrite _ _ _ _ => false
  | .ioRead _ _ => false
  | .ioWrite _ _ => false
  | .intAck _ _ => false
  | .halt => false

/-- The bus operations other than code fetches, newest first. -/
def State.demands (s : State) : List BusEvent := s.bus.filter fun e => !e.isFetch

/-- The state that an ordinary instruction does not touch: segment registers, inhibit, latches and outputs, the decode state
and lifecycle, the interrupt sequences accepted, the inputs, the refresh scheduler, the tick counter and record, the agenda,
the count of EU steps and the parameters. -/
structure System where
  seg : Segs
  inhibit : Bool
  nmiLatch : Bool
  lock : Bool
  halted : Bool
  dec : DecodeState
  life : Life
  sequences : List IntSequence
  pins : Pins
  latches : Biu
  dma : Dma
  cycles : Nat
  record : Option CycleRecord
  script : List Event
  steps : Nat
  cfg : Cfg
  deriving DecidableEq, Repr

def State.system (s : State) : System where
  seg := s.seg
  inhibit := s.inhibit
  nmiLatch := s.nmiLatch
  lock := s.lock
  halted := s.halted
  dec := s.dec
  life := s.life
  sequences := s.sequences
  pins := s.pins
  latches := s.biu.latches
  dma := s.dma
  cycles := s.cycles
  record := s.record
  script := s.script
  steps := s.steps
  cfg := s.cfg

/-- Every byte of memory reads as before, except those at the addresses of a list. -/
def MemKeptBut (l : List (BitVec 20)) (s t : State) : Prop := ∀ a, a ∉ l → t.byteAt a = s.byteAt a

/-- Every byte of memory reads as before. -/
def MemKept (s t : State) : Prop := ∀ a, t.byteAt a = s.byteAt a

/-- Every general register but those of a list is as before. -/
def RegsKeptBut (l : List Reg16) (s t : State) : Prop := ∀ r, r ∉ l → t.r16 r = s.r16 r

/-- The bits of FLAGS outside a mask are as before. -/
def FlagsKeptBut (mask : Word) (s t : State) : Prop := t.flags &&& ~~~mask = s.flags &&& ~~~mask

/-- The byte at an address is in RAM: a write changes it and a read returns it (20_memory.md R76). -/
def State.isRam (s : State) (a : BitVec 20) : Prop := s.kindAt a = .ram

/-- IP has passed `k` bytes more: the immediate that an instruction reads after its operand (32_decode_sequencer.md R267). -/
def State.past (s : State) (k : Nat) : State := s.setIp (s.ip + BitVec.ofNat 16 k)

/-- An instruction completes: its meaning answers a next state, of which something holds. -/
def Completes (i : Instr) (s : State) (P : State → Prop) : Prop := ∃ t, exec i s = .next t ∧ P t

/-- IP, which has passed the instruction already, and the system part are as before. -/
def Ordinary (s t : State) : Prop := t.ip = s.ip ∧ t.system = s.system

/-! ### Writes -/

/-- A byte register takes a value; every other byte register and every word register that does not hold it is as before. -/
def Reg8Written (r : Reg8) (v : Byte) (s t : State) : Prop :=
  t.r8 r = v ∧ (∀ q, q ≠ r → t.r8 q = s.r8 q) ∧ RegsKeptBut [r.parent] s t

/-- A word register takes a value; the others are as before. -/
def Reg16Written (r : Reg16) (v : Word) (s t : State) : Prop := t.r16 r = v ∧ RegsKeptBut [r] s t

/-- A byte is stored at `seg:off`: no other byte of memory changes, and in RAM it is read back. -/
def MemByte (sv off : Word) (v : Byte) (s t : State) : Prop :=
  MemKeptBut [lin sv off] s t ∧
    (Memory.wf s.mem = true → s.isRam (lin sv off) → t.byteAt (lin sv off) = v)

/-- A word is stored at `seg:off`, its high byte at the next offset of the segment: no other byte of memory changes, and in
RAM its halves are read back. -/
def MemWord (sv off v : Word) (s t : State) : Prop :=
  MemKeptBut [lin sv off, lin sv (off + 1)] s t ∧
    (Memory.wf s.mem = true → s.isRam (lin sv off) → t.byteAt (lin sv off) = loByte v) ∧
    (Memory.wf s.mem = true → s.isRam (lin sv (off + 1)) → t.byteAt (lin sv (off + 1)) = hiByte v)

/-- A byte operand takes a value: the register, or the byte at the effective address; nothing else is written. -/
def Stored8 (rm : RM8) (v : Byte) (s t : State) : Prop :=
  match rm with
  | .reg r => Reg8Written r v s t ∧ MemKept s t
  | .mem m => t.gpr = s.gpr ∧ MemByte (s.sreg (eaSeg m s)) (eaOff m s) v s t

/-- A word operand takes a value: the register, or the word at the effective address; nothing else is written. -/
def Stored16 (rm : RM16) (v : Word) (s t : State) : Prop :=
  match rm with
  | .reg r => Reg16Written r v s t ∧ MemKept s t
  | .mem m => t.gpr = s.gpr ∧ MemWord (s.sreg (eaSeg m s)) (eaOff m s) v s t

end Sys2Proof.Machine

namespace Sys2Proof
open Sys2Proof.Machine

/-- `last_ea` after an instruction with this operand (31_modrm_ea.md R240). -/
def RM8.ea (rm : RM8) (s : State) : Word :=
  match rm with
  | .reg _ => s.lastEa
  | .mem m => eaOff m s

def RM16.ea (rm : RM16) (s : State) : Word :=
  match rm with
  | .reg _ => s.lastEa
  | .mem m => eaOff m s

/-- The byte operand as a read returns it. -/
def RM8.value (rm : RM8) (s : State) : Byte := (load8 rm s).1

/-- The word operand as a read returns it. -/
def RM16.value (rm : RM16) (s : State) : Word := (load16 rm s).1

end Sys2Proof

namespace Sys2Proof.Machine
open Sys2Proof

/-- Nothing is written: registers and memory are as before. -/
def NothingWritten (s t : State) : Prop := t.gpr = s.gpr ∧ MemKept s t

/-! ### Operations on an operand -/

/-- What an operation with the outcome `out` (a value to write, if any, and the flags word) leaves of a byte operand. -/
def Modified8 (rm : RM8) (out : Option Byte × Word) (s t : State) : Prop :=
  (match out.1 with
    | some v => Stored8 rm v s t
    | none => NothingWritten s t) ∧ t.flags = out.2 ∧ t.lastEa = rm.ea s ∧ Ordinary s t

/-- The same of a word operand. -/
def Modified16 (rm : RM16) (out : Option Word × Word) (s t : State) : Prop :=
  (match out.1 with
    | some v => Stored16 rm v s t
    | none => NothingWritten s t) ∧ t.flags = out.2 ∧ t.lastEa = rm.ea s ∧ Ordinary s t

/-- The same of an operand of either width, the outcome a function of the operand's value. -/
def ModifiedW (rm : RMW) (out8 : Byte → Option Byte × Word) (out16 : Word → Option Word × Word) (s t : State) : Prop :=
  match rm with
  | .byte rm => Modified8 rm (out8 (rm.value s)) s t
  | .word rm => Modified16 rm (out16 (rm.value s)) s t

/-- The same of an operand of either width with `k` bytes of an immediate read after it (32_decode_sequencer.md R267). -/
def ModifiedLateW (k : Nat) (rm : RMW) (out8 : Byte → Option Byte × Word) (out16 : Word → Option Word × Word) (s t : State) : Prop :=
  match rm with
  | .byte rm => Modified8 rm (out8 (rm.value s)) (s.past k) t
  | .word rm => Modified16 rm (out16 (rm.value s)) (s.past k) t

/-- `op dst,src` on bytes with values `a` and `b`: the result goes to `dst` unless the operation writes none, the six status
flags follow the operation, nothing else changes but `last_ea` for a memory form. -/
def AluEffect8 (op : AluOp) (dst : RM8) (a b : Byte) (ea : Word) (s t : State) : Prop :=
  (op.writes = true → Stored8 dst (aluResult op a b (flagCF s.flags)) s t) ∧
    (op.writes = false → NothingWritten s t) ∧
    t.flags = putFlags statusMask (aluStatus op a b (flagCF s.flags)) s.flags ∧ t.lastEa = ea ∧ Ordinary s t

/-- The same on words. -/
def AluEffect16 (op : AluOp) (dst : RM16) (a b : Word) (ea : Word) (s t : State) : Prop :=
  (op.writes = true → Stored16 dst (aluResult op a b (flagCF s.flags)) s t) ∧
    (op.writes = false → NothingWritten s t) ∧
    t.flags = putFlags statusMask (aluStatus op a b (flagCF s.flags)) s.flags ∧ t.lastEa = ea ∧ Ordinary s t

/-- Only registers of a list may have changed, and flags of a mask: memory and the rest are as before. -/
def OnlyRegs (l : List Reg16) (mask : Word) (s t : State) : Prop :=
  RegsKeptBut l s t ∧ FlagsKeptBut mask s t ∧ MemKept s t ∧ Ordinary s t

/-! ### Memory as words -/

/-- The byte at an address is in RAM or ROM: a read returns it (20_memory.md R76). -/
def State.isMemory (s : State) (a : BitVec 20) : Prop := s.kindAt a = .ram ∨ s.kindAt a = .rom

/-- The word that memory holds at `seg:off`, its high byte at the next offset of the segment (20_memory.md R80). -/
def State.wordAt (s : State) (sv off : Word) : Word := wordOf (s.byteAt (lin sv off)) (s.byteAt (lin sv (off + 1)))

/-- Both bytes of the word at `seg:off` are in RAM or ROM. -/
def State.wordInMemory (s : State) (sv off : Word) : Prop := s.isMemory (lin sv off) ∧ s.isMemory (lin sv (off + 1))

/-! ### The stack -/

/-- A word is pushed: SP has moved by two, the word stands at SS:SP, no other register and no other byte changes. -/
def Pushed (v : Word) (s t : State) : Prop :=
  t.r16 .sp = s.r16 .sp - 2 ∧ RegsKeptBut [.sp] s t ∧ MemWord s.seg.ss (s.r16 .sp - 2) v s t

/-- The offset of the `k`-th word pushed, counted from 0. -/
def stackSlot (s : State) (k : Nat) : Word := s.r16 .sp - BitVec.ofNat 16 (2 * (k + 1))

/-- The addresses of the first `n` words pushed. -/
def stackBytes (s : State) (n : Nat) : List (BitVec 20) :=
  (List.range n).flatMap fun k => [lin s.seg.ss (stackSlot s k), lin s.seg.ss (stackSlot s k + 1)]

/-- The words of a list are pushed, the first one first: SP has moved, each word stands in its slot, no other register and no
other byte changes. -/
def PushedWords (vs : List Word) (s t : State) : Prop :=
  t.r16 .sp = s.r16 .sp - BitVec.ofNat 16 (2 * vs.length) ∧ RegsKeptBut [.sp] s t ∧
    MemKeptBut (stackBytes s vs.length) s t ∧
    ∀ k v, vs[k]? = some v → Memory.wf s.mem = true →
      (s.isRam (lin s.seg.ss (stackSlot s k)) → t.byteAt (lin s.seg.ss (stackSlot s k)) = loByte v) ∧
      (s.isRam (lin s.seg.ss (stackSlot s k + 1)) → t.byteAt (lin s.seg.ss (stackSlot s k + 1)) = hiByte v)

/-- The word at SS:SP as a read returns it. -/
def topWord (s : State) : Word := (readWord .ss s.seg.ss (s.r16 .sp) s).1

/-! ### Transfers of control -/

/-- The instruction stream goes on at an offset: IP and PC are there, the queue is empty (21_prefetch_queue.md R117), and its bytes
come from the segment of CS (46_undefined_opcodes.md R553: until the next flush). -/
def FetchesAt (t' : Word) (t : State) : Prop :=
  t.ip = t' ∧ t.pc = t' ∧ t.queue = [] ∧ t.nextIsFirst = true ∧ t.stale = []

/-- The system part with another CS. -/
def State.systemCs (s : State) (cs : Word) : System := { s.system with seg := { s.seg with cs := cs } }

/-- A jump within the segment: nothing but the place in the instruction stream changes. -/
def Jumped (target : Word) (s t : State) : Prop :=
  FetchesAt target t ∧ NothingWritten s t ∧ t.flags = s.flags ∧ t.system = s.system

/-- A jump to another segment: nothing but CS and the place in the instruction stream changes. -/
def JumpedFar (sv target : Word) (s t : State) : Prop :=
  FetchesAt target t ∧ NothingWritten s t ∧ t.flags = s.flags ∧ t.system = s.systemCs sv

/-- The INT sequence for vector `n` (60_exceptions.md R621): `fl`, CS and `ret` are pushed in that order, TF and IF are clear,
IP and CS come from the vector table at linear `4n` as it stands after the pushes, the queue is empty, nothing else changes. -/
def Entered (n : Byte) (ret fl : Word) (s t : State) : Prop :=
  PushedWords [fl, s.seg.cs, ret] s t ∧ t.flags = fl &&& ~~~(tfMask ||| ifMask) ∧ FetchesAt t.ip t ∧
    (s.wordInMemory 0 (BitVec.ofNat 16 (4 * n.toNat)) → t.ip = t.wordAt 0 (BitVec.ofNat 16 (4 * n.toNat))) ∧
    (s.wordInMemory 0 (BitVec.ofNat 16 (4 * n.toNat + 2)) → t.seg.cs = t.wordAt 0 (BitVec.ofNat 16 (4 * n.toNat + 2))) ∧
    t.system = s.systemCs t.seg.cs

end Sys2Proof.Machine
end

