-- ==== Sys2Proof/Certificates/Slice0/Obligations.lean ====
section
/-! DEFINITION. The statements for the provers. A table of forms pairs an operation with the constructors of Instr that
perform it; a statement over a table speaks of every constructor in it. -/
namespace Sys2Proof.Machine
open Sys2Proof

/-! ### Tables of forms -/

/-- `op Eb,Gb` (41_arithmetic.md R353). -/
def aluEbGbForms : List (AluOp × (RM8 → Reg8 → Instr)) :=
  [(.add, .addEbGb), (.or, .orEbGb), (.adc, .adcEbGb), (.sbb, .sbbEbGb), (.and, .andEbGb), (.sub, .subEbGb),
   (.xor, .xorEbGb), (.cmp, .cmpEbGb), (.test, .testEbGb)]

/-- `op Ev,Gv`. -/
def aluEvGvForms : List (AluOp × (RM16 → Reg16 → Instr)) :=
  [(.add, .addEvGv), (.or, .orEvGv), (.adc, .adcEvGv), (.sbb, .sbbEvGv), (.and, .andEvGv), (.sub, .subEvGv),
   (.xor, .xorEvGv), (.cmp, .cmpEvGv), (.test, .testEvGv)]

/-- `op Gb,Eb`. -/
def aluGbEbForms : List (AluOp × (Reg8 → RM8 → Instr)) :=
  [(.add, .addGbEb), (.or, .orGbEb), (.adc, .adcGbEb), (.sbb, .sbbGbEb), (.and, .andGbEb), (.sub, .subGbEb),
   (.xor, .xorGbEb), (.cmp, .cmpGbEb)]

/-- `op Gv,Ev`. -/
def aluGvEvForms : List (AluOp × (Reg16 → RM16 → Instr)) :=
  [(.add, .addGvEv), (.or, .orGvEv), (.adc, .adcGvEv), (.sbb, .sbbGvEv), (.and, .andGvEv), (.sub, .subGvEv),
   (.xor, .xorGvEv), (.cmp, .cmpGvEv)]

/-- `op Eb,imm8`: `80 /k`, the duplicates `82 /k`, `F6 /0` and `F6 /1`. -/
def aluEbIbForms : List (AluOp × (RM8 → Byte → Instr)) :=
  [(.add, .addEbIb), (.or, .orEbIb), (.adc, .adcEbIb), (.sbb, .sbbEbIb), (.and, .andEbIb), (.sub, .subEbIb),
   (.xor, .xorEbIb), (.cmp, .cmpEbIb),
   (.add, .addEbIb82), (.or, .orEbIb82), (.adc, .adcEbIb82), (.sbb, .sbbEbIb82), (.and, .andEbIb82), (.sub, .subEbIb82),
   (.xor, .xorEbIb82), (.cmp, .cmpEbIb82), (.test, .testEbIb), (.test, .testEbIbReg1)]

/-- `op AL,imm8`. -/
def aluAlIbForms : List (AluOp × (Byte → Instr)) :=
  [(.add, .addAlIb), (.or, .orAlIb), (.adc, .adcAlIb), (.sbb, .sbbAlIb), (.and, .andAlIb), (.sub, .subAlIb),
   (.xor, .xorAlIb), (.cmp, .cmpAlIb), (.test, .testAlIb)]

/-- `op Ev,imm16`: `81 /k`, `F7 /0` and `F7 /1`. -/
def aluEvIvForms : List (AluOp × (RM16 → Word → Instr)) :=
  [(.add, .addEvIv), (.or, .orEvIv), (.adc, .adcEvIv), (.sbb, .sbbEvIv), (.and, .andEvIv), (.sub, .subEvIv),
   (.xor, .xorEvIv), (.cmp, .cmpEvIv), (.test, .testEvIv), (.test, .testEvIvReg1)]

/-- `op Ev,simm8`: `83 /k`. -/
def aluEvIbsForms : List (AluOp × (RM16 → Byte → Instr)) :=
  [(.add, .addEvIbs), (.or, .orEvIbs), (.adc, .adcEvIbs), (.sbb, .sbbEvIbs), (.and, .andEvIbs), (.sub, .subEvIbs),
   (.xor, .xorEvIbs), (.cmp, .cmpEvIbs)]

/-- `op AX,imm16`. -/
def aluAxIvForms : List (AluOp × (Word → Instr)) :=
  [(.add, .addAxIv), (.or, .orAxIv), (.adc, .adcAxIv), (.sbb, .sbbAxIv), (.and, .andAxIv), (.sub, .subAxIv),
   (.xor, .xorAxIv), (.cmp, .cmpAxIv), (.test, .testAxIv)]

/-- Group 2 by 1 or CL (42_logic_shift_rotate.md R406). -/
def shiftForms : List (ShiftOp × (RMW → ShiftCount → Instr)) :=
  [(.rol, .rolEbEv), (.ror, .rorEbEv), (.rcl, .rclEbEv), (.rcr, .rcrEbEv), (.shl, .shlEbEv), (.shr, .shrEbEv), (.sar, .sarEbEv)]

/-- Group 2 by an immediate (47_v20_v30_extensions.md R591). -/
def shiftImmForms : List (ShiftOp × (RMW → Byte → Instr)) :=
  [(.rol, .rolEbEvIb), (.ror, .rorEbEvIb), (.rcl, .rclEbEvIb), (.rcr, .rcrEbEvIb), (.shl, .shlEbEvIb), (.shr, .shrEbEvIb),
   (.sar, .sarEbEvIb)]

/-- MOV Eb,Ib and its duplicates (40_data_transfer.md R301, 46_undefined_opcodes.md R561). -/
def movEbIbForms : List (RM8 → Byte → Instr) :=
  [.movEbIb, .movEbIbReg1, .movEbIbReg2, .movEbIbReg3, .movEbIbReg4, .movEbIbReg5, .movEbIbReg6, .movEbIbReg7]

/-- MOV Ev,Iv and its duplicates. -/
def movEvIvForms : List (RM16 → Word → Instr) :=
  [.movEvIv, .movEvIvReg1, .movEvIvReg2, .movEvIvReg3, .movEvIvReg4, .movEvIvReg5, .movEvIvReg6, .movEvIvReg7]

/-- MOV sreg,Ew and its duplicates (40_data_transfer.md R305, 46_undefined_opcodes.md R560, R565). -/
def movSregForms : List (SReg × (RM16 → Instr)) :=
  [(.es, .movEsEw), (.cs, .movCsEw), (.ss, .movSsEw), (.ds, .movDsEw), (.es, .movEsEw4), (.cs, .movCsEw5), (.ss, .movSsEw6),
   (.ds, .movDsEw7)]

/-- POP sreg (40_data_transfer.md R310, 46_undefined_opcodes.md R553). -/
def popSregForms : List (SReg × Instr) := [(.es, .popEs), (.cs, .popCs), (.ss, .popSs), (.ds, .popDs)]

/-- PUSH sreg (40_data_transfer.md R307). -/
def pushSregForms : List (SReg × Instr) := [(.es, .pushEs), (.cs, .pushCs), (.ss, .pushSs), (.ds, .pushDs)]

/-- POP Ev and its duplicates (40_data_transfer.md R311, 46_undefined_opcodes.md R561). -/
def popEvForms : List (RM16 → Instr) :=
  [.popEv, .popEvReg1, .popEvReg2, .popEvReg3, .popEvReg4, .popEvReg5, .popEvReg6, .popEvReg7]

/-- XCHG AX,r16 (40_data_transfer.md R313). -/
def xchgAxForms : List (Reg16 × Instr) :=
  [(.cx, .xchgAxCx), (.dx, .xchgAxDx), (.bx, .xchgAxBx), (.sp, .xchgAxSp), (.bp, .xchgAxBp), (.si, .xchgAxSi),
   (.di, .xchgAxDi)]

/-- Jcc with its condition number: `70` to `7F` and the duplicates `60` to `6F` (44_control_transfer.md R471, R472,
46_undefined_opcodes.md R551). -/
def jccForms : List (Nat × (Byte → Instr)) :=
  [(0, .jo), (1, .jno), (2, .jb), (3, .jnb), (4, .jz), (5, .jnz), (6, .jbe), (7, .ja), (8, .js), (9, .jns), (10, .jp),
   (11, .jnp), (12, .jl), (13, .jge), (14, .jle), (15, .jg),
   (0, .joDup60), (1, .jnoDup61), (2, .jbDup62), (3, .jnbDup63), (4, .jzDup64), (5, .jnzDup65), (6, .jbeDup66),
   (7, .jaDup67), (8, .jsDup68), (9, .jnsDup69), (10, .jpDup6A), (11, .jnpDup6B), (12, .jlDup6C), (13, .jgeDup6D),
   (14, .jleDup6E), (15, .jgDup6F)]

/-- The flag instructions, each with its flag and the value it gives it (45_processor_control.md R520 to R526). -/
def flagForms : List (Word × Bool × Instr) :=
  [(cfMask, false, .clc), (cfMask, true, .stc), (dfMask, false, .cld), (dfMask, true, .std), (ifMask, false, .cli),
   (ifMask, true, .sti)]

/-- The prefixes, each with what it records (30_encoding.md R192, R193). -/
def prefixForms : List (Instr × (DecodeState → DecodeState)) :=
  [(.segEs, fun d => { d with segOverride := some .es }), (.segCs, fun d => { d with segOverride := some .cs }),
   (.segSs, fun d => { d with segOverride := some .ss }), (.segDs, fun d => { d with segOverride := some .ds }),
   (.repne, fun d => { d with rep := some .repne }), (.rep, fun d => { d with rep := some .repe }),
   (.repnc, fun d => { d with rep := some .repnc }), (.repc, fun d => { d with rep := some .repc }),
   (.lock, fun d => { d with lockPrefix := true }), (.lockF1, fun d => { d with lockPrefix := true })]

/-- The string instructions: whether the flags end a repetition, and one element (43_string.md R440 to R446,
47_v20_v30_extensions.md R590). -/
def stringForms : List (Instr × Bool × (State → State)) :=
  [(.movsb, false, movsElem8), (.movsw, false, movsElem16), (.cmpsb, true, cmpsElem8), (.cmpsw, true, cmpsElem16),
   (.stosb, false, stosElem8), (.stosw, false, stosElem16), (.lodsb, false, lodsElem8), (.lodsw, false, lodsElem16),
   (.scasb, true, scasElem8), (.scasw, true, scasElem16), (.insb, false, insElem8), (.insw, false, insElem16),
   (.outsb, false, outsElem8), (.outsw, false, outsElem16)]

/-- The opcodes that are undefined on the V20/V30 and trap, those without a memory operand (47_v20_v30_extensions.md R583, R596). -/
def undefinedForms : List Instr :=
  [.undef62Mod3, .undef63, .undef66, .undef67, .undefD6, .undefF1, .undef8DMod3, .undefC4Mod3, .undefC5Mod3, .undefFfReg3,
   .undefFfReg5]

/-- The undefined group forms, which may have a memory operand. -/
def undefinedGroupForms : List Instr :=
  [.undefC0Reg6, .undefD0Reg6, .undefFe2, .undefFe3, .undefFe4, .undefFe5, .undefFe6, .undefFe7]

/-- The opcode bytes and register fields that encode them. -/
def undefinedGroupCodes : List (Byte × BitVec 3) :=
  [(0xC0, 6), (0xC1, 6), (0xD0, 6), (0xD1, 6), (0xD2, 6), (0xD3, 6), (0xFE, 2), (0xFE, 3), (0xFE, 4), (0xFE, 5), (0xFE, 6),
   (0xFE, 7)]

/-- The byte forms of group 5 that the spec has a model refuse (46_undefined_opcodes.md R563). -/
def byteGroup5Forms : List Instr := [.fe2, .fe3, .fe4, .fe5, .fe6, .fe7]

/-- The opcodes of the V20/V30 that the spec has a model refuse (47_v20_v30_extensions.md R595). -/
def necOnlyForms : List Instr :=
  [.test1EbCl, .test1EvCl, .clr1EbCl, .clr1EvCl, .set1EbCl, .set1EvCl, .not1EbCl, .not1EvCl, .test1EbIb, .test1EvIb,
   .clr1EbIb, .clr1EvIb, .set1EbIb, .set1EvIb, .not1EbIb, .not1EvIb, .rol4, .ror4, .insFieldReg, .insFieldImm,
   .extFieldReg, .extFieldImm, .brkem]

/-! ### Terms of several statements -/

/-- The flags at the end of a run of an operation with the exact result `r`: the status flags are these, the others as in
`f`. -/
structure StatusIs (g f : Word) (cf pf af zf sf of : Bool) : Prop where
  cf : flagCF g = cf
  pf : flagPF g = pf
  af : flagAF g = af
  zf : flagZF g = zf
  sf : flagSF g = sf
  of : flagOF g = of
  rest : g &&& ~~~statusMask = f &&& ~~~statusMask

/-- Events that are code fetches only. -/
def FetchesOnly (l : List BusEvent) : Prop := ∀ e ∈ l, e.isFetch = true

/-- The bus has shown these operations, newest first, and beside them nothing but code fetches, which the prefetcher may make at any
point between them (21_prefetch_queue.md R111; the record of bus operations is log 27). -/
def Shows (es : List BusEvent) (s t : State) : Prop := t.demands = es ++ s.demands ∧ ∃ l, t.bus = l ++ s.bus

/-- The bus operations of a word read at `seg:off`, newest first: one on a 16-bit bus at an even address, else the low byte's and the
high byte's at the next offset (20_memory.md R80, R82). -/
def State.wordReads (acc : Access) (sv off v : Word) (s : State) : List BusEvent :=
  if s.oneCycle (lin sv off) then [.memRead acc (lin sv off) true v]
  else [.memRead acc (lin sv (off + 1)) false (zext16 (hiByte v)), .memRead acc (lin sv off) false (zext16 (loByte v))]

/-- The bus operations of a word write at `seg:off`, newest first (20_memory.md R81, R82). -/
def State.wordWrites (acc : Access) (sv off v : Word) (s : State) : List BusEvent :=
  if s.oneCycle (lin sv off) then [.memWrite acc (lin sv off) true v]
  else [.memWrite acc (lin sv (off + 1)) false (zext16 (hiByte v)), .memWrite acc (lin sv off) false (zext16 (loByte v))]

/-- A write to memory. -/
def BusEvent.isMemWrite : BusEvent → Bool
  | .memWrite _ _ _ _ => true
  | _ => false

/-- The queue has kept its bytes and has taken those of `l` at its end, which PC has passed (21_prefetch_queue.md R112, R121). -/
def QueueGrew (l : List Byte) (s t : State) : Prop := t.queue = s.queue ++ l ∧ t.pc = s.pc + BitVec.ofNat 16 l.length

/-- A code fetch in progress brings a single byte as the high byte of a bus word: it is at an odd address of the 16-bit bus
(21_prefetch_queue.md R113). -/
def State.bringsHighByte (s : State) (c : BusCycle) : Prop :=
  s.biu.busState = .codeFetch ∧ c.wide = false ∧ s.cfg.busWidth = .word ∧ s.biu.address.toNat % 2 = 1

/-- The bytes that a code fetch brings to the queue in a tick which ends it: none when a flush has discarded the fetch. -/
def State.arriving (s : State) : List Byte :=
  match s.biu.cycle with
  | some c =>
    if s.biu.tState = .t4 ∧ s.biu.busState = .codeFetch ∧ c.discard = false then
      (if c.wide then [loByte s.biu.dataBus, hiByte s.biu.dataBus]
        else if s.cfg.busWidth = .word ∧ s.biu.address.toNat % 2 = 1 then [hiByte s.biu.dataBus] else [loByte s.biu.dataBus])
    else []
  | none => []

/-- A read of the queue that has waited takes the byte at its head in the next tick, whatever the agenda says: no halt and no transfer
holds the EU up (21_prefetch_queue.md R116). -/
def State.readEnds (s : State) : Bool := s.biu.queueRead && !s.queue.isEmpty && !s.halted && !s.biu.stalled

/-- The bytes of the queue that a tick leaves in it when the agenda gives the EU nothing to do. -/
def State.remaining (s : State) : List Byte := if s.readEnds then s.queue.tail else s.queue

/-- What a read of one byte brings: the byte of memory, the fill byte, or what the device says (20_memory.md R76 to R79). -/
def State.answer (s : State) (a : BitVec 20) (device : Byte) : Byte :=
  if s.kindAt a = .unmapped then s.cfg.unmappedFill else if s.kindAt a = .device then device else s.byteAt a

/-- The decimal digit `k` of the packed string at `seg:off`, the lowest-addressed byte first, its low digit before its high one
(47_v20_v30_extensions.md R594). -/
def State.digit (s : State) (sv off : Word) (k : Nat) : Nat :=
  let b := s.byteAt (lin sv (off + BitVec.ofNat 16 (k / 2)))
  if k % 2 = 0 then b.toNat % 16 else b.toNat / 16

/-- The number that the first `n` digits of the packed string stand for. -/
def State.digits (s : State) (sv off : Word) : Nat → Nat
  | 0 => 0
  | n + 1 => s.digits sv off n + 10 ^ n * s.digit sv off n

/-- The low 8 bits of a value hold an even number of ones (41_arithmetic.md R350). -/
def evenOnes {n : Nat} (r : BitVec n) : Bool := ((List.range 8).filter r.getLsbD).length % 2 == 0

/-- What a boundary check leaves that has accepted these sequences, each of which is a step to come (log 8): a halt has ended, the inhibit
is clear, an accepted NMI has left its latch, the LOCK output of a prefix is released, the decode state is cleared; nothing else has
been done. -/
def Accepts (qs : List IntSequence) (s t : State) : Prop :=
  t.sequences = qs ∧ t.halted = false ∧ t.inhibit = false ∧ t.nmiLatch = false ∧ t.lock = (s.lock && !s.dec.lockPrefix) ∧
  t.dec = DecodeState.clear ∧ t.pins = s.pins ∧ NothingWritten s t ∧ t.flags = s.flags ∧ t.ip = s.ip ∧ t.seg = s.seg ∧
  t.lastEa = s.lastEa ∧ t.queue = s.queue ∧ t.bus = s.bus ∧ t.script = s.script ∧ t.life = .checkInterrupts ∧
  t.biu.fetchState ≠ .halted

/-- An interrupt sequence with the vector `v` has run: FLAGS, CS and IP are pushed, TF and IF are clear, IP and CS are the words of the
vector, the queue is empty. -/
def SequenceRan (v : Nat) (s t : State) : Prop :=
  PushedWords [s.flags, s.seg.cs, s.ip] s t ∧ t.flags = s.flags &&& ~~~(tfMask ||| ifMask) ∧ FetchesAt t.ip t ∧
  (s.wordInMemory 0 (BitVec.ofNat 16 (4 * v)) → t.ip = t.wordAt 0 (BitVec.ofNat 16 (4 * v))) ∧
  (s.wordInMemory 0 (BitVec.ofNat 16 (4 * v + 2)) → t.seg.cs = t.wordAt 0 (BitVec.ofNat 16 (4 * v + 2)))

/-- With no event pending, the step after the boundary check runs the one sequence that the check has accepted, with the vector `v`, and
the machine goes on to fetch at its handler; of the state then, `P` holds too. -/
def EntersNext (v : Nat) (s : State) (P : State → Prop) : Prop :=
  s.script = [] → ∃ t, step (checkInterrupts s) = .next t ∧ SequenceRan v s t ∧ t.sequences = [] ∧ t.halted = false ∧
    t.inhibit = false ∧ t.nmiLatch = false ∧ t.dec = DecodeState.clear ∧ t.lastEa = s.lastEa ∧ t.life = .fetch ∧ P t

/-- The bus operations of the acknowledgement of INTR, newest first (60_exceptions.md R626). -/
def ackCycles (v : Byte) : List BusEvent := [.intAck false (some v), .intAck true none]

/-- An interrupt-acknowledge cycle. -/
def BusEvent.isAck : BusEvent → Bool
  | .intAck _ _ => true
  | _ => false

/-- What a string element, or an end of a string instruction, leaves of the system part. -/
def State.systemString (s : State) : System :=
  { s.system with dec := { s.dec with inRep := false }, life := .checkInterrupts }

/-- The step of an index register over elements of `n` bytes (43_string.md R440). -/
def indexStep (n : Word) (f : Word) : Word := if flagDF f then -n else n

/-- The instructions that set the interrupt inhibit: STI, and every one with a segment register as destination. -/
def setsInhibit : Instr → Bool
  | .sti => true
  | .movEsEw _ => true
  | .movCsEw _ => true
  | .movSsEw _ => true
  | .movDsEw _ => true
  | .movEsEw4 _ => true
  | .movCsEw5 _ => true
  | .movSsEw6 _ => true
  | .movDsEw7 _ => true
  | .popEs => true
  | .popCs => true
  | .popSs => true
  | .popDs => true
  | .lesMod01 _ _ => true
  | .lesMod2 _ _ => true
  | .lesMod3 _ _ => true
  | .ldsMod01 _ _ => true
  | .ldsMod2 _ _ => true
  | .ldsMod3 _ _ => true
  | _ => false

/-- The instructions that load CS without a flush (46_undefined_opcodes.md R553, R565). -/
def loadsCs : Instr → Bool
  | .popCs => true
  | .movCsEw _ => true
  | .movCsEw5 _ => true
  | _ => false

/-- The instructions that may flush the queue (21_prefetch_queue.md R118): the transfers of control, those that raise an interrupt or
trap, and the repetitions and WAIT, which an interrupt may end. -/
def mayFlush : Instr → Bool
  | .jo _ => true
  | .jno _ => true
  | .jb _ => true
  | .jnb _ => true
  | .jz _ => true
  | .jnz _ => true
  | .jbe _ => true
  | .ja _ => true
  | .js _ => true
  | .jns _ => true
  | .jp _ => true
  | .jnp _ => true
  | .jl _ => true
  | .jge _ => true
  | .jle _ => true
  | .jg _ => true
  | .joDup60 _ => true
  | .jnoDup61 _ => true
  | .jbDup62 _ => true
  | .jnbDup63 _ => true
  | .jzDup64 _ => true
  | .jnzDup65 _ => true
  | .jbeDup66 _ => true
  | .jaDup67 _ => true
  | .jsDup68 _ => true
  | .jnsDup69 _ => true
  | .jpDup6A _ => true
  | .jnpDup6B _ => true
  | .jlDup6C _ => true
  | .jgeDup6D _ => true
  | .jleDup6E _ => true
  | .jgDup6F _ => true
  | .loop _ => true
  | .loopz _ => true
  | .loopnz _ => true
  | .jcxz _ => true
  | .jmpJb _ => true
  | .jmpJv _ => true
  | .jmpEv _ => true
  | .jmpMpMod01 _ => true
  | .jmpMpMod2 _ => true
  | .jmpMpMod3 _ => true
  | .callJv _ => true
  | .callEv _ => true
  | .callMpMod01 _ => true
  | .callMpMod2 _ => true
  | .callMpMod3 _ => true
  | .jmpAp _ _ => true
  | .callAp _ _ => true
  | .ret => true
  | .retC1 => true
  | .retf => true
  | .retfC9 => true
  | .iret => true
  | .int3 => true
  | .into => true
  | .wait => true
  | .retIw _ => true
  | .retIwC0 _ => true
  | .retfIw _ => true
  | .retfIwC8 _ => true
  | .intIb _ => true
  | .ext0F _ => true
  | .divEbEv _ => true
  | .idivEbEv _ => true
  | .aamIb _ => true
  | .boundMod01 _ _ => true
  | .boundMod2 _ _ => true
  | .undef62Mod3 => true
  | .undef63 => true
  | .undef66 => true
  | .undef67 => true
  | .undefD6 => true
  | .undefF1 => true
  | .undef8DMod3 => true
  | .undefC4Mod3 => true
  | .undefC5Mod3 => true
  | .undefFfReg3 => true
  | .undefFfReg5 => true
  | .undefC0Reg6 => true
  | .undefD0Reg6 => true
  | .undefFe2 => true
  | .undefFe3 => true
  | .undefFe4 => true
  | .undefFe5 => true
  | .undefFe6 => true
  | .undefFe7 => true
  | .movsb => true
  | .movsw => true
  | .cmpsb => true
  | .cmpsw => true
  | .stosb => true
  | .stosw => true
  | .lodsb => true
  | .lodsw => true
  | .scasb => true
  | .scasw => true
  | .insb => true
  | .insw => true
  | .outsb => true
  | .outsw => true
  | _ => false

/-- A divide error: INT 0 with the six status flags free in the pushed image, and no register but SP changed. The pushed offset
is that of the next instruction on the 8088/8086, either that or the start of the instruction on the V20/V30 (log 17). -/
def DivideErrorTaken (s t : State) : Prop :=
  ∃ (fl ret : Word), fl &&& ~~~statusMask = s.flags &&& ~~~statusMask ∧
    (ret = s.ip ∨ (s.cfg.cpu.isNec = true ∧ ret = s.dec.startIp)) ∧ Entered 0 ret fl s t

/-- IDIV of a byte is done: quotient in AL, remainder in AH, the six status flags free; under a REP prefix quotient and remainder
are free (log 15). -/
def DividedByte (rm : RM8) (q : Int) (s t : State) : Prop :=
  OnlyRegs [.ax] statusMask s t ∧ t.lastEa = rm.ea s ∧
    (s.repBefore = false → (t.r8 .al).toInt = q ∧ (t.r8 .ah).toInt = (s.r16 .ax).toInt - q * (rm.value s).toInt)

/-- IDIV of a word is done: quotient in AX, remainder in DX. -/
def DividedWord (rm : RM16) (q : Int) (s t : State) : Prop :=
  OnlyRegs [.ax, .dx] statusMask s t ∧ t.lastEa = rm.ea s ∧
    (s.repBefore = false → (t.r16 .ax).toInt = q ∧
      (t.r16 .dx).toInt = (s.r16 .dx ++ s.r16 .ax).toInt - q * (rm.value s).toInt)

end Sys2Proof.Machine

section
open Sys2Proof Sys2Proof.Machine

/-! ### Encoding (30_encoding.md, 31_modrm_ea.md R232, 47_v20_v30_extensions.md) -/

/-- Every well-formed instruction of a CPU is decoded from its encoding, whatever bytes follow. -/
def Obligations.DecodeOfEncode : Prop :=
  ∀ (cpu : CpuModel) (i : Instr) (rest : List Byte), i.wf = true → i.on cpu = true →
    decode cpu (encode i ++ rest) = .ok i rest

/-- What is decoded is a well-formed instruction of the CPU, and takes one to six bytes from the front. -/
def Sys2Proof.Machine.Claim.DecodeWellFormed : Prop :=
  ∀ (cpu : CpuModel) (bs : List Byte) (i : Instr) (rest : List Byte), decode cpu bs = .ok i rest →
    i.wf = true ∧ i.on cpu = true ∧ ∃ pre, bs = pre ++ rest ∧ 1 ≤ pre.length ∧ pre.length ≤ maxInstrBytes

/-- Six bytes always hold an instruction, on every CPU: there is no invalid opcode for the decoder (R204). -/
def Sys2Proof.Machine.Claim.DecodeTotal : Prop :=
  ∀ (cpu : CpuModel) (bs : List Byte), maxInstrBytes ≤ bs.length → ∃ i rest, decode cpu bs = .ok i rest

/-- What is decoded is well-formed and taken from the front, and six bytes always decode. -/
def Obligations.DecodeSound : Prop :=
  Claim.DecodeWellFormed ∧ Claim.DecodeTotal

/-- Words written out from the encodings of the spec. -/
def Obligations.DecodeSampleWords : Prop :=
  decode .i8088 [0x01, 0b11011000] = .ok (.addEvGv (.reg .ax) .bx) [] ∧
  decode .i8088 [0x80, 0b01111110, 0xFE, 0x05] = .ok (.cmpEbIb (.mem (.disp8 .bp 0xFE)) 0x05) [] ∧
  decode .i8088 [0x8B, 0b00000110, 0x34, 0x12] = .ok (.movGvEv .ax (.mem (.direct 0x1234))) [] ∧
  decode .i8088 [0xD3, 0b11101000] = .ok (.shrEbEv (.word (.reg .ax)) .cl) [] ∧
  decode .i8088 [0xF6, 0b11110001] = .ok (.divEbEv (.byte (.reg .cl))) [] ∧
  decode .i8088 [0xF3, 0xA4] = .ok .rep [0xA4] ∧
  decode .i8088 [0xEA, 0x5B, 0xE0, 0x00, 0xF0] = .ok (.jmpAp 0xE05B 0xF000) [] ∧
  decode .i8088 [0x8E, 0b11010000] = .ok (.movSsEw (.reg .ax)) [] ∧
  decode .i8088 [0x60, 0x10] = .ok (.joDup60 0x10) [] ∧
  decode .v20 [0x60, 0x10] = .ok .pusha [0x10] ∧
  decode .v20 [0x0F, 0x20] = .ok .add4s [] ∧
  decode .v20 [0xC8, 0x10, 0x00, 0x01] = .ok (.enter 0x0010 0x01) []

/-! ### Flag computations (41_arithmetic.md R350 to R352, 42_logic_shift_rotate.md R400, R407 to R415) -/

/-- `ADD_N(a, b, c)` for bytes and words: result and flags against exact arithmetic. -/
def Sys2Proof.Machine.Claim.AdditionFlags : Prop :=
  ∀ (n : Nat) (a b : BitVec n) (c : Bool) (f : Word), n = 8 ∨ n = 16 →
    (addN a b c).toNat = (a.toNat + b.toNat + bitNat c) % 2 ^ n ∧
    StatusIs (putFlags statusMask (addStatus a b c) f) f
      (decide (2 ^ n ≤ a.toNat + b.toNat + bitNat c))
      (evenOnes (addN a b c))
      (decide (16 ≤ a.toNat % 16 + b.toNat % 16 + bitNat c))
      (decide ((addN a b c).toNat = 0))
      (decide ((addN a b c).toInt < 0))
      (decide ((addN a b c).toInt ≠ a.toInt + b.toInt + bitNat c))

/-- `SUB_N(a, b, c)` for bytes and words: result and flags against exact arithmetic. -/
def Sys2Proof.Machine.Claim.SubtractionFlags : Prop :=
  ∀ (n : Nat) (a b : BitVec n) (c : Bool) (f : Word), n = 8 ∨ n = 16 →
    ((subN a b c).toNat : Int) = ((a.toNat : Int) - b.toNat - bitNat c) % 2 ^ n ∧
    StatusIs (putFlags statusMask (subStatus a b c) f) f
      (decide ((a.toNat : Int) - b.toNat - bitNat c < 0))
      (evenOnes (subN a b c))
      (decide ((a.toNat % 16 : Int) - b.toNat % 16 - bitNat c < 0))
      (decide ((subN a b c).toNat = 0))
      (decide ((subN a b c).toInt < 0))
      (decide ((subN a b c).toInt ≠ a.toInt - b.toInt - bitNat c))

/-- `LOGIC_N(r)`: CF, OF and AF are cleared, SF, ZF and PF follow the result. -/
def Sys2Proof.Machine.Claim.LogicFlags : Prop :=
  ∀ (n : Nat) (r : BitVec n) (f : Word), n = 8 ∨ n = 16 →
    StatusIs (putFlags statusMask (logicStatus r) f) f false (evenOnes r) false (decide (r.toNat = 0))
      (decide (r.toInt < 0)) false

/-- The two-operand operations in these terms: ADD and ADC are `ADD_N` without and with CF, SUB, SBB and CMP are `SUB_N`, AND, OR,
XOR and TEST are the bitwise operation with the flags of `LOGIC_N`; CMP and TEST write no result. -/
def Sys2Proof.Machine.Claim.OperationResults : Prop :=
  ∀ (n : Nat) (a b : BitVec n) (c : Bool),
    (aluResult .add a b c = addN a b false ∧ aluStatus .add a b c = addStatus a b false) ∧
    (aluResult .adc a b c = addN a b c ∧ aluStatus .adc a b c = addStatus a b c) ∧
    (aluResult .sub a b c = subN a b false ∧ aluStatus .sub a b c = subStatus a b false) ∧
    (aluResult .sbb a b c = subN a b c ∧ aluStatus .sbb a b c = subStatus a b c) ∧
    (AluOp.writes .cmp = false ∧ aluStatus .cmp a b c = subStatus a b false) ∧
    (aluResult .and a b c = a &&& b ∧ aluStatus .and a b c = logicStatus (a &&& b)) ∧
    (aluResult .or a b c = a ||| b ∧ aluStatus .or a b c = logicStatus (a ||| b)) ∧
    (aluResult .xor a b c = a ^^^ b ∧ aluStatus .xor a b c = logicStatus (a ^^^ b)) ∧
    (AluOp.writes .test = false ∧ aluStatus .test a b c = logicStatus (a &&& b)) ∧
    (∀ op : AluOp, op ≠ .cmp → op ≠ .test → op.writes = true)

/-- A flags word written with `SZP_N(r)`: SF, ZF and PF follow the result, the other bits stay. -/
def Sys2Proof.Machine.Claim.SignZeroParity : Prop :=
  ∀ (n : Nat) (r : BitVec n) (f : Word), n = 8 ∨ n = 16 →
    flagSF (szp r f) = decide (r.toInt < 0) ∧ flagZF (szp r f) = decide (r.toNat = 0) ∧ flagPF (szp r f) = evenOnes r ∧
    szp r f &&& ~~~szpMask = f &&& ~~~szpMask

/-- The flag computations of addition, subtraction and the logical operations. -/
def Obligations.FlagComputations : Prop :=
  Claim.AdditionFlags ∧ Claim.SubtractionFlags ∧ Claim.LogicFlags ∧ Claim.SignZeroParity ∧ Claim.OperationResults

/-- The shifts by `count`: the result is a shift of the whole operand, CF the last bit shifted out. -/
def Sys2Proof.Machine.Claim.ShiftResults : Prop :=
  ∀ (n count : Nat) (cf : Bool) (x : BitVec n), n = 8 ∨ n = 16 → 0 < count →
    shiftIter .shl count cf x = (decide (count ≤ n) && x.getLsbD (n - count), x <<< count) ∧
    shiftIter .shr count cf x = (x.getLsbD (count - 1), x >>> count) ∧
    shiftIter .sar count cf x = (if count < n then x.getLsbD (count - 1) else x.msb, x.sshiftRight count)

/-- The rotates by `count`: ROL and ROR rotate the operand and copy the bit that went round to CF; RCL and RCR rotate the
operand with CF above it. -/
def Sys2Proof.Machine.Claim.RotateResults : Prop :=
  ∀ (n count : Nat) (cf : Bool) (x : BitVec n), n = 8 ∨ n = 16 → 0 < count →
    shiftIter .rol count cf x = ((x.rotateLeft count).getLsbD 0, x.rotateLeft count) ∧
    shiftIter .ror count cf x = ((x.rotateRight count).msb, x.rotateRight count) ∧
    BitVec.cons (shiftIter .rcl count cf x).1 (shiftIter .rcl count cf x).2 = (BitVec.cons cf x).rotateLeft count ∧
    BitVec.cons (shiftIter .rcr count cf x).1 (shiftIter .rcr count cf x).2 = (BitVec.cons cf x).rotateRight count

/-- The results of shifts and rotates by any count. -/
def Obligations.ShiftRotateResults : Prop :=
  Claim.ShiftResults ∧ Claim.RotateResults

/-- The flags after a shift or rotate by `count ≥ 1` that ends with `cf` and `x`: CF is the last bit out; a shift sets SF, ZF,
PF and clears AF, a rotate keeps them; OF is the exclusive or of the top two bits for a count of 1, and is kept otherwise
(log 12); every other bit is kept. -/
def Obligations.ShiftFlags : Prop :=
  ∀ (n : Nat) (op : ShiftOp) (count : Nat) (cf : Bool) (x : BitVec n) (f : Word), n = 8 ∨ n = 16 → 0 < count →
    StatusIs (shiftFlags op count cf x f) f cf
      (if op.isRotate then flagPF f else evenOnes x)
      (if op.isRotate then flagAF f else false)
      (if op.isRotate then flagZF f else decide (x.toNat = 0))
      (if op.isRotate then flagSF f else decide (x.toInt < 0))
      (if count = 1 then (if op.isLeft then cf != x.msb else x.msb != x.getLsbD (n - 2)) else flagOF f)

/-- The sixteen conditions. -/
def Obligations.Conditions : Prop :=
  ∀ f : Word,
    condition 0 f = (flagOF f == true) ∧ condition 1 f = (flagOF f == false) ∧
    condition 2 f = (flagCF f == true) ∧ condition 3 f = (flagCF f == false) ∧
    condition 4 f = (flagZF f == true) ∧ condition 5 f = (flagZF f == false) ∧
    condition 6 f = (flagCF f || flagZF f) ∧ condition 7 f = (flagCF f == false && flagZF f == false) ∧
    condition 8 f = (flagSF f == true) ∧ condition 9 f = (flagSF f == false) ∧
    condition 10 f = (flagPF f == true) ∧ condition 11 f = (flagPF f == false) ∧
    condition 12 f = (flagSF f != flagOF f) ∧ condition 13 f = (flagSF f == flagOF f) ∧
    condition 14 f = (flagZF f || flagSF f != flagOF f) ∧ condition 15 f = (flagZF f == false && flagSF f == flagOF f) ∧
    ∀ k, k < 8 → condition (2 * k + 1) f = !condition (2 * k) f

/-! ### Memory, ports and the stack (20_memory.md) -/

/-- `Lin(seg, off) = ((seg << 4) + off) & 0xFFFFF`: the 20 bits are `ADDR_BITS` (R9). -/
def Obligations.LinearAddress : Prop :=
  ∀ (s : State) (sv off : Word), s.cfg.addrBits.bits = 20 ∧
    (lin sv off).toNat = (sv.toNat * 16 + off.toNat) % 2 ^ s.cfg.addrBits.bits

/-- One byte: RAM stores and returns it; ROM returns its contents and ignores a write; an unmapped address returns the fill
byte and discards a write; a write to a device changes no memory. No byte but the one written ever changes. That what a device
returns is the next byte that the environment has queued for it is the model's choice (log 6). -/
def Sys2Proof.Machine.Claim.ByteAccess : Prop :=
  ∀ (acc : Access) (sv off : Word) (v : Byte) (s : State),
    MemKept s (readByte acc sv off s).2 ∧ MemByte sv off v s (writeByte acc sv off v s) ∧
    (s.kindAt (lin sv off) = .ram → (readByte acc sv off s).1 = s.byteAt (lin sv off)) ∧
    (s.kindAt (lin sv off) = .rom →
      (readByte acc sv off s).1 = s.byteAt (lin sv off) ∧ MemKept s (writeByte acc sv off v s)) ∧
    (s.kindAt (lin sv off) = .unmapped →
      (readByte acc sv off s).1 = s.cfg.unmappedFill ∧ MemKept s (writeByte acc sv off v s)) ∧
    (s.kindAt (lin sv off) = .device →
      (∀ b bs, s.devIn = b :: bs → (readByte acc sv off s).1 = b ∧ (readByte acc sv off s).2.devIn = bs) ∧
      MemKept s (writeByte acc sv off v s))

/-- A word is two bytes, the low one at `seg:off`, the high one at the next offset of the segment, which wraps at 64 KiB. -/
def Sys2Proof.Machine.Claim.WordAccess : Prop :=
  ∀ (acc : Access) (sv off v : Word) (s : State),
    MemKept s (readWord acc sv off s).2 ∧ MemWord sv off v s (writeWord acc sv off v s) ∧
    (s.wordInMemory sv off → (readWord acc sv off s).1 = s.wordAt sv off) ∧
    s.wordAt sv 0xFFFF = wordOf (s.byteAt (lin sv 0xFFFF)) (s.byteAt (lin sv 0))

/-- A word transfer takes one bus cycle on a 16-bit bus at an even address, else two, the low byte first. That the model keeps the
bus operations in a list is log 27; the code fetches that may come before each of them (log 9) are left out here. -/
def Sys2Proof.Machine.Claim.WordCycles : Prop :=
  ∀ (acc : Access) (sv off v : Word) (s : State),
    (s.oneCycle (lin sv off) = true ↔ (s.cfg.busWidth = .word ∧ (lin sv off).toNat % 2 = 0)) ∧
    (s.oneCycle (lin sv off) = true →
      Shows [.memRead acc (lin sv off) true (readWord acc sv off s).1] s (readWord acc sv off s).2 ∧
      Shows [.memWrite acc (lin sv off) true v] s (writeWord acc sv off v s)) ∧
    (s.oneCycle (lin sv off) = false →
      (∃ lo hi, (readWord acc sv off s).1 = wordOf lo hi ∧
        Shows [.memRead acc (lin sv (off + 1)) false (zext16 hi), .memRead acc (lin sv off) false (zext16 lo)] s
          (readWord acc sv off s).2) ∧
      Shows [.memWrite acc (lin sv (off + 1)) false (zext16 (hiByte v)), .memWrite acc (lin sv off) false (zext16 (loByte v))] s
        (writeWord acc sv off v s)) ∧
    Shows [.memRead acc (lin sv off) false (zext16 (readByte acc sv off s).1)] s (readByte acc sv off s).2 ∧
    Shows [.memWrite acc (lin sv off) false (zext16 (loByte v))] s (writeByte acc sv off (loByte v) s)

/-- A store and the code that follows it: the bytes already queued are kept, and each byte fetched meanwhile is the one that memory held
at its place in the code before the store or after it (R98, D6; which of the two is free: log 9). The segment of that place is the one
of `Claim.NextBytes` (log 46). Stated where no code fetch of the ticks is in T2 to T4. -/
def Sys2Proof.Machine.Claim.StoreAndCode : Prop :=
  ∀ (acc : Access) (sv off v : Word) (s : State), s.biu.inFlight = 0 →
    ∀ t ∈ [writeByte acc sv off (loByte v) s, writeWord acc sv off v s], ∃ l, QueueGrew l s t ∧
      ∀ k b off, l[k]? = some b → off = s.pc + BitVec.ofNat 16 k → s.isMemory (lin (s.codeSeg off) off) →
        b = s.byteAt (lin (s.codeSeg off) off) ∨ b = t.byteAt (lin (s.codeSeg off) off)

/-- Reads and writes of bytes and words. -/
def Obligations.MemoryAccess : Prop :=
  Claim.ByteAccess ∧ Claim.WordAccess ∧ Claim.WordCycles ∧ Claim.StoreAndCode

/-- `Push16` and `Pop16`: SP moves by two before the store and after the load, and a word pushed to RAM is popped again. -/
def Obligations.PushAndPop : Prop :=
  ∀ (v : Word) (s : State),
    (Pushed v s (push16 v s) ∧ (push16 v s).flags = s.flags ∧ (push16 v s).lastEa = s.lastEa ∧ Ordinary s (push16 v s)) ∧
    ((pop16 s).1 = topWord s ∧ (pop16 s).2.r16 .sp = s.r16 .sp + 2 ∧ RegsKeptBut [.sp] s (pop16 s).2 ∧
      MemKept s (pop16 s).2 ∧ (pop16 s).2.flags = s.flags ∧ (pop16 s).2.lastEa = s.lastEa ∧ Ordinary s (pop16 s).2) ∧
    (s.wordInMemory s.seg.ss (s.r16 .sp) → topWord s = s.wordAt s.seg.ss (s.r16 .sp)) ∧
    (Memory.wf s.mem = true → s.isRam (lin s.seg.ss (s.r16 .sp - 2)) → s.isRam (lin s.seg.ss (s.r16 .sp - 1)) →
      (pop16 (push16 v s)).1 = v ∧ (pop16 (push16 v s)).2.gpr = s.gpr)

/-- The effective address: base and index registers plus displacement, modulo 64 KiB; BP-based forms default to SS, the others
to DS; an override prefix replaces the default. -/
def Sys2Proof.Machine.Claim.EffectiveAddress : Prop :=
  ∀ (s : State) (o : Word) (d : Byte) (b : Base),
    eaOff (.direct o) s = o ∧ eaOff (.ind b) s = baseSum b s ∧ eaOff (.disp8 b d) s = baseSum b s + d.signExtend 16 ∧
    eaOff (.disp16 b o) s = baseSum b s + o ∧
    baseSum .bxsi s = s.r16 .bx + s.r16 .si ∧ baseSum .bxdi s = s.r16 .bx + s.r16 .di ∧
    baseSum .bpsi s = s.r16 .bp + s.r16 .si ∧ baseSum .bpdi s = s.r16 .bp + s.r16 .di ∧
    baseSum .si s = s.r16 .si ∧ baseSum .di s = s.r16 .di ∧ baseSum .bp s = s.r16 .bp ∧ baseSum .bx s = s.r16 .bx ∧
    (∀ m : Mem, eaSeg m s = s.dec.segOverride.getD (defaultSeg m)) ∧
    (∀ m : Mem, defaultSeg m = .ss ↔
      ∃ c, (c = .bp ∨ c = .bpsi ∨ c = .bpdi) ∧ (m = .ind c ∨ (∃ e, m = .disp8 c e) ∨ ∃ e, m = .disp16 c e)) ∧
    (∀ m : Mem, defaultSeg m = .ss ∨ defaultSeg m = .ds)

/-- Reading an operand: a register, or the bytes at the effective address; a memory form sets `last_ea` and loads `ea_opr`
(a byte with a high byte of 0: log 43). -/
def Sys2Proof.Machine.Claim.OperandRead : Prop :=
  ∀ (s : State) (m : Mem) (r8 : Reg8) (r16 : Reg16),
    (RM8.reg r8).value s = s.r8 r8 ∧ (RM16.reg r16).value s = s.r16 r16 ∧
    (s.isMemory (lin (s.sreg (eaSeg m s)) (eaOff m s)) →
      (RM8.mem m).value s = s.byteAt (lin (s.sreg (eaSeg m s)) (eaOff m s))) ∧
    (s.wordInMemory (s.sreg (eaSeg m s)) (eaOff m s) →
      (RM16.mem m).value s = s.wordAt (s.sreg (eaSeg m s)) (eaOff m s)) ∧
    (load8 (.mem m) s).2.lastEa = eaOff m s ∧ (load16 (.mem m) s).2.lastEa = eaOff m s ∧
    (load8 (.mem m) s).2.eaOpr = ((RM8.mem m).value s).setWidth 16 ∧ (load16 (.mem m) s).2.eaOpr = (RM16.mem m).value s ∧
    (load8 (.reg r8) s).2 = s ∧ (load16 (.reg r16) s).2 = s

/-- A far pointer is the offset word, then the segment word two bytes on. -/
def Sys2Proof.Machine.Claim.FarPointerRead : Prop :=
  ∀ (r : SReg) (off : Word) (s : State),
    (s.wordInMemory (s.sreg r) off → (readFar r off s).1 = s.wordAt (s.sreg r) off) ∧
    (s.wordInMemory (s.sreg r) (off + 2) → (readFar r off s).2.1 = s.wordAt (s.sreg r) (off + 2)) ∧
    NothingWritten s (readFar r off s).2.2 ∧ (readFar r off s).2.2.flags = s.flags ∧ Ordinary s (readFar r off s).2.2

/-- Effective addresses, and what operands read as. -/
def Obligations.OperandValues : Prop :=
  Claim.EffectiveAddress ∧ Claim.OperandRead ∧ Claim.FarPointerRead

/-! ### Interrupts (60_exceptions.md) -/

/-- The INT sequence. -/
def Sys2Proof.Machine.Claim.InterruptSequence : Prop :=
  ∀ (n : Byte) (ret : Word) (s : State), Entered n ret s.flags s (interrupt n ret s)

/-- IRET right after an INT sequence brings back CS, IP, FLAGS and SP, when the three words pushed stand in RAM. -/
def Obligations.IretUndoesInterrupt : Prop :=
  ∀ (n : Byte) (ret : Word) (s : State), Memory.wf s.mem = true → flagsPinned s.flags = true →
    (∀ a ∈ stackBytes s 3, s.isRam a) →
    Completes .iret (interrupt n ret s) fun t =>
      FetchesAt ret t ∧ t.flags = s.flags ∧ t.gpr = s.gpr ∧ t.system = s.system ∧
      MemKeptBut (stackBytes s 3) s t

/-- The boundary check with nothing to accept: no NMI, no INTR that IF and the inhibit let through, no trap. The inhibit is
cleared, the LOCK output of a prefix is released, the decode state is cleared, a halted CPU stays at the check and any other goes on
to fetch. -/
def Sys2Proof.Machine.Claim.BoundaryWithoutInterrupt : Prop :=
  ∀ s : State, s.nmiLatch = false → (s.pins.intr = false ∨ flagIF s.flags = false ∨ s.inhibit = true) →
    s.dec.tfAtStart = false →
    (checkInterrupts s).inhibit = false ∧ NothingWritten s (checkInterrupts s) ∧ (checkInterrupts s).flags = s.flags ∧
    (checkInterrupts s).ip = s.ip ∧ (checkInterrupts s).seg = s.seg ∧ (checkInterrupts s).halted = s.halted ∧
    (checkInterrupts s).pins = s.pins ∧ (checkInterrupts s).nmiLatch = false ∧
    (checkInterrupts s).lock = (s.lock && !s.dec.lockPrefix) ∧ (checkInterrupts s).dec = DecodeState.clear ∧
    (checkInterrupts s).sequences = s.sequences ∧ (checkInterrupts s).lastEa = s.lastEa ∧ (checkInterrupts s).queue = s.queue ∧
    (checkInterrupts s).bus = s.bus ∧ (checkInterrupts s).life = (if s.halted then .checkInterrupts else .fetch)

/-- A latched NMI is accepted at the boundary whatever IF and the inhibit are, before INTR: the latch and the halt are cleared. Its
sequence is the next step, with vector 2; the level of INTR stays as it is. -/
def Sys2Proof.Machine.Claim.BoundaryNmi : Prop :=
  ∀ s : State, s.nmiLatch = true → s.dec.tfAtStart = false →
    Accepts [.nmi] s (checkInterrupts s) ∧
    EntersNext 2 s fun t => t.pins = s.pins ∧ t.lock = (s.lock && !s.dec.lockPrefix)

/-- INTR is accepted at the boundary when IF is set, the inhibit is clear and no NMI is latched. Its sequence is the next step: two
acknowledge cycles, the first with LOCK, the second with the vector; code fetches may come before them (log 9). That the
controller then drops its request is log 25. -/
def Sys2Proof.Machine.Claim.BoundaryIntr : Prop :=
  ∀ s : State, s.nmiLatch = false → s.pins.intr = true → flagIF s.flags = true → s.inhibit = false →
    s.dec.tfAtStart = false →
    Accepts [.intr] s (checkInterrupts s) ∧
    EntersNext s.pins.vector.toNat s fun t => t.pins = { s.pins with intr := false } ∧ t.lock = false ∧
      ∃ later l, FetchesOnly l ∧ t.bus = later ++ (ackCycles s.pins.vector ++ (l ++ s.bus))

/-- The single-step trap: TF was set when the instruction began. It is accepted whatever the inhibit is, and ends the halt of its own
HLT. Its sequence is the next step, with vector 1. -/
def Sys2Proof.Machine.Claim.BoundarySingleStep : Prop :=
  ∀ s : State, s.nmiLatch = false → (s.pins.intr = false ∨ flagIF s.flags = false ∨ s.inhibit = true) →
    s.dec.tfAtStart = true →
    Accepts [.singleStep] s (checkInterrupts s) ∧
    EntersNext 1 s fun t => t.pins = s.pins ∧ t.lock = (s.lock && !s.dec.lockPrefix)

/-- NMI or INTR is accepted (NMI before INTR) and the single-step trap of the same instruction with it. With no event pending the two
sequences are the next two steps: the first leads to the state `u` at its handler, and the trap on top of it, so its frame returns
to the handler of the first, with TF clear. -/
def Sys2Proof.Machine.Claim.BoundaryBoth : Prop :=
  ∀ (s : State) (v : Nat), (s.nmiLatch = true ∨ (s.pins.intr = true ∧ flagIF s.flags = true ∧ s.inhibit = false)) →
    s.dec.tfAtStart = true → v = (if s.nmiLatch then 2 else s.pins.vector.toNat) →
    Accepts [if s.nmiLatch then .nmi else .intr, .singleStep] s (checkInterrupts s) ∧
    (s.script = [] → ∃ u t, step (checkInterrupts s) = .next u ∧ step u = .next t ∧
      SequenceRan v s u ∧ u.sequences = [.singleStep] ∧
      PushedWords [s.flags, s.seg.cs, s.ip, s.flags &&& ~~~(tfMask ||| ifMask), u.seg.cs, u.ip] s t ∧
      t.flags = s.flags &&& ~~~(tfMask ||| ifMask) ∧ FetchesAt t.ip t ∧
      (s.wordInMemory 0 4 → t.ip = t.wordAt 0 4) ∧ (s.wordInMemory 0 6 → t.seg.cs = t.wordAt 0 6) ∧
      t.sequences = [] ∧ t.nmiLatch = false ∧ t.halted = false ∧ t.inhibit = false ∧ t.dec = DecodeState.clear ∧
      t.lock = (s.nmiLatch && s.lock && !s.dec.lockPrefix) ∧
      t.pins = (if s.nmiLatch then s.pins else { s.pins with intr := false }) ∧ t.life = .fetch)

/-- A step with no event pending runs the next interrupt sequence that a check has accepted, and nothing else: its vector is 2 for NMI,
1 for the single-step trap, and for INTR the one that the controller gives in the second of the two acknowledge cycles, which no
other sequence has. LOCK is clear after the acknowledgement; that the controller drops its request is log 25. After the last
sequence the machine goes on to fetch. That events can come between an acceptance and its sequence is the model's choice (log 8). -/
def Sys2Proof.Machine.Claim.SequenceStep : Prop :=
  ∀ (s : State) (q : IntSequence) (rest : List IntSequence) (v : Byte), s.script = [] → s.sequences = q :: rest →
    v = (match q with
      | .nmi => 2
      | .intr => s.pins.vector
      | .singleStep => 1) →
    ∃ t, step s = .next t ∧ SequenceRan v.toNat s t ∧ t.sequences = rest ∧ t.halted = s.halted ∧ t.inhibit = s.inhibit ∧
      t.nmiLatch = s.nmiLatch ∧ t.dec = s.dec ∧ t.lastEa = s.lastEa ∧ t.lock = (if q = .intr then false else s.lock) ∧
      t.pins = (if q = .intr then { s.pins with intr := false } else s.pins) ∧
      (∃ later l, FetchesOnly l ∧ (∀ e ∈ later, e.isAck = false) ∧
        t.bus = later ++ ((if q = .intr then ackCycles v else []) ++ (l ++ s.bus))) ∧
      t.life = (if rest = [] then (if s.halted then .checkInterrupts else .fetch) else s.life)

/-- The boundary check: nothing accepted, NMI, INTR, the single-step trap, the trap after NMI or INTR; and the step of a sequence. -/
def Obligations.InstructionBoundary : Prop :=
  Claim.BoundaryWithoutInterrupt ∧ Claim.BoundaryNmi ∧ Claim.BoundaryIntr ∧ Claim.BoundarySingleStep ∧ Claim.BoundaryBoth ∧
    Claim.SequenceStep

/-! ### The machine (32_decode_sequencer.md, 70_reset_and_hazards.md) -/

/-- What reset leaves where DOC states it: the entry point, the flags, the empty queue, the Fetch state. -/
def Obligations.ResetEntry : Prop :=
  State.reset.seg.cs = 0xFFFF ∧ State.reset.ip = 0 ∧ State.reset.pc = 0 ∧ State.reset.flags = 0xF002 ∧
  (flagCF State.reset.flags = false ∧ flagPF State.reset.flags = false ∧ flagAF State.reset.flags = false ∧
    flagZF State.reset.flags = false ∧ flagSF State.reset.flags = false ∧ flagTF State.reset.flags = false ∧
    flagIF State.reset.flags = false ∧ flagDF State.reset.flags = false ∧ flagOF State.reset.flags = false) ∧
  State.reset.queue = [] ∧ State.reset.nextIsFirst = true ∧ State.reset.life = .fetch ∧
  lin State.reset.seg.cs State.reset.pc = 0xFFFF0

/-- What reset leaves where the spec decides it (R61). -/
def Obligations.ResetDecided : Prop :=
  State.reset.seg.ds = 0 ∧ State.reset.seg.es = 0 ∧ State.reset.seg.ss = 0 ∧ State.reset.inhibit = false ∧
  State.reset.nmiLatch = false ∧ State.reset.lock = false ∧ State.reset.halted = false ∧ State.reset.sequences = [] ∧
  State.reset.dec.inRep = false ∧
  State.reset.dec.segOverride = none ∧ State.reset.dec.rep = none ∧ State.reset.dec.lockPrefix = false ∧
  State.reset.dec.tfAtStart = false ∧ State.reset.biu.tState = .tinit ∧ State.reset.biu.ta = .td ∧
  State.reset.biu.busState = .passive ∧ State.reset.biu.fetchState = .normal ∧ State.reset.biu.busWait = 0 ∧
  State.reset.biu.ioWait = 0 ∧ State.reset.biu.dmaWait = 0 ∧ State.reset.dma.st = .idle ∧
  State.reset.dma.refreshCtr = State.reset.cfg.refreshPeriod ∧ State.reset.cycles = 0

/-- The reset input, at any point of a run: the specified state, with memory, the general registers and the parameters left as
they were (that the general registers keep their values is log 28); a second reset changes nothing more. -/
def Obligations.ResetInput : Prop :=
  ∀ (s : State) (rest : List Event), s.script = .reset :: rest →
    ∃ t, step s = .next t ∧ t.seg = State.reset.seg ∧ t.ip = 0 ∧ t.pc = 0 ∧ t.flags = 0xF002 ∧ t.queue = [] ∧
      t.inhibit = false ∧ t.nmiLatch = false ∧ t.lock = false ∧ t.halted = false ∧ t.dec = DecodeState.clear ∧
      t.life = .fetch ∧ t.sequences = [] ∧ t.biu.tState = .tinit ∧ t.biu.busState = .passive ∧ t.biu.pending = none ∧
      t.biu.cycle = none ∧
      t.dma.st = .idle ∧ t.dma.refreshCtr = s.cfg.refreshPeriod ∧ t.cycles = 0 ∧ t.mem = s.mem ∧ t.gpr = s.gpr ∧
      t.cfg = s.cfg ∧ t.pins = s.pins ∧ t.script = rest ∧ t.applyReset = t

/-- A step with no event pending, no interrupt sequence to run, a CPU that is not halted and no instruction under way fetches the
instruction at CS:IP with its prefixes, and runs it. Before it a code fetch that ticks have left in T1 to T4 completes (R149) and the
prefetcher may fill (log 9): with neither, `c` is `s` with one more step counted; one in its T1 is read and its bytes, two for a word
at an even PC and else one, are queued. Not stated where a tick has asked for the Halt cycle, which stops fetching. -/
def Sys2Proof.Machine.Claim.StepFetches : Prop :=
  ∀ s c : State, s.script = [] → s.halted = false → s.sequences = [] → s.biu.fetchState ≠ .halted → s.life ≠ .execute →
    c = beginStep s →
    step s = fetchExec prefixLimit c ∧
    c.ip = s.ip ∧ c.gpr = s.gpr ∧ c.seg = s.seg ∧ c.flags = s.flags ∧ c.mem = s.mem ∧ c.cfg = s.cfg ∧ c.pins = s.pins ∧
    c.inhibit = s.inhibit ∧ c.nmiLatch = s.nmiLatch ∧ c.lock = s.lock ∧ c.halted = false ∧ c.lastEa = s.lastEa ∧
    c.devIn = s.devIn ∧ c.stale = s.stale ∧ c.dec = s.dec ∧ c.life = s.life ∧ c.sequences = [] ∧ c.script = [] ∧
    c.biu.fetchState ≠ .halted ∧ (∃ l, FetchesOnly l ∧ c.bus = l ++ s.bus) ∧
    (s.biu.cycle = none → s.fills = [] → s.biu.tState ≠ .t1 ∨ s.biu.prep ≠ .fetch → c = { s with steps := s.steps + 1 }) ∧
    (s.biu.cycle = none → s.fills = [] → s.biu.tState = .t1 → s.biu.prep = .fetch →
      c.biu.tState = .ti ∧ c.biu.prep = .idle ∧ ∃ l w,
        QueueGrew l s c ∧ l.length = (if s.cfg.busWidth = .word ∧ s.pc.toNat % 2 = 0 then 2 else 1) ∧
        c.bus = .codeFetch (c.codeAddr s.pc) (l.length == 2) w :: s.bus ∧
        ∀ k b off, l[k]? = some b → off = s.pc + BitVec.ofNat 16 k → s.isMemory (c.codeAddr off) → b = s.byteAt (c.codeAddr off))

/-- In the state in which the next bytes are decoded they are taken, but for an immediate that the meaning takes after the load of
its operand (log 47), and the meaning of what they decode to is run. The boundary check follows, which ends the instruction; after a
prefix, which belongs to the instruction that follows, the bytes after it are decoded in the same way and in the same step; else the
instruction goes on in the next step. Fetching the bytes shows on the bus as code fetches only. The record holds the instruction, its
opcode byte and mandatory prefix byte, its length with all its prefixes, and the operand pair of an undefined encoding (R262). That a
step ends after `prefixLimit` prefixes, more than a segment holds, and the next goes on, is the model's choice (log 8). -/
def Sys2Proof.Machine.Claim.FetchRuns : Prop :=
  (∀ c : State, fetchExec 0 c = .next c) ∧
  ∀ (n : Nat) (c : State) (i : Instr) (rest : List Byte) (mandatory : Option Byte) (opcode : Byte), c.biu.fetchState ≠ .halted →
    decode c.cfg.cpu c.window = .ok i rest →
    mandatory = (if c.cfg.cpu.isNec = true ∧ c.codeAt 0 = 0x0F then some 0x0F else none) →
    opcode = (if c.cfg.cpu.isNec = true ∧ c.codeAt 0 = 0x0F then c.codeAt 1 else c.codeAt 0) →
    ∃ r : State, r = readyToExec i (maxInstrBytes - rest.length) c ∧
      (∀ t, exec i r = .next t → fetchExec (n + 1) c =
        (if t.life = .checkInterrupts then .next (checkInterrupts t) else if t.life = .decodePrefix then fetchExec n t else .next t)) ∧
      (∀ f, exec i r = .fault f → fetchExec (n + 1) c = .fault f) ∧
      (∀ e, exec i r = .refused e → fetchExec (n + 1) c = .refused e) ∧
      r.ip = c.ip + BitVec.ofNat 16 (maxInstrBytes - rest.length - i.lateBytes) ∧ r.gpr = c.gpr ∧ r.seg = c.seg ∧
      r.flags = c.flags ∧ r.mem = c.mem ∧ r.cfg = c.cfg ∧ r.pins = c.pins ∧ r.inhibit = c.inhibit ∧ r.nmiLatch = c.nmiLatch ∧
      r.lock = c.lock ∧ r.halted = c.halted ∧ r.lastEa = c.lastEa ∧ r.devIn = c.devIn ∧ r.stale = c.stale ∧ r.sequences = c.sequences ∧
      r.life = .checkInterrupts ∧ r.biu.fetchState ≠ .halted ∧
      (∃ l, FetchesOnly l ∧ r.bus = l ++ c.bus) ∧
      (c.life = .decodePrefix →
        r.dec = { c.dec with instr := some i, length := c.dec.length + (maxInstrBytes - rest.length), mandatory := mandatory,
                             opcode := some opcode, operands := undefinedOperands c.cfg.cpu c.window }) ∧
      (c.life ≠ .decodePrefix →
        r.dec = { DecodeState.clear with tfAtStart := flagTF c.flags, startCs := c.seg.cs, startIp := c.ip, instr := some i,
                                         length := maxInstrBytes - rest.length, mandatory := mandatory, opcode := some opcode,
                                         operands := undefinedOperands c.cfg.cpu c.window })

/-- A step fetches the instruction at CS:IP with its prefixes and runs what its bytes decode to. -/
def Obligations.StepRunsDecoded : Prop :=
  Claim.StepFetches ∧ Claim.FetchRuns

/-- The next bytes: those of the queue, then those that memory holds at CS:IP and on; after a load of CS without a flush, each of the
latter comes from the segment of CS or from one that CS had before (U19, log 46). -/
def Sys2Proof.Machine.Claim.NextBytes : Prop :=
  ∀ (s : State) (k : Nat), k < maxInstrBytes →
    (∀ b, s.queue[k]? = some b → s.window[k]? = some b) ∧
    (∀ off g, off = s.ip + BitVec.ofNat 16 k → g = s.codeSeg off →
      g ∈ s.seg.cs :: s.stale ∧ (s.stale = [] → g = s.seg.cs) ∧
      (s.queue.length ≤ k → s.isMemory (lin g off) → s.window[k]? = some (s.byteAt (lin g off))))

/-- An instruction that goes on (a repetition, WAIT) is run again without being fetched, after a code fetch left on the bus has
come to its end (log 10) and the prefetcher may have filled (log 9). While the CPU is halted a step is the boundary check, and, when
that accepts an interrupt, the first sequence with it. Where a tick has asked for the Halt cycle the halt begins (log 10). -/
def Sys2Proof.Machine.Claim.StepGoesOn : Prop :=
  (∀ (s : State) (i : Instr), s.script = [] → s.halted = false → s.sequences = [] → s.biu.fetchState ≠ .halted →
    s.life = .execute → s.dec.instr = some i →
    (∀ t, exec i ((beginStep s).setLife .checkInterrupts) = .next t →
      step s = .next (if t.life = .checkInterrupts then checkInterrupts t else t)) ∧
    (∀ e, exec i ((beginStep s).setLife .checkInterrupts) = .refused e → step s = .refused e)) ∧
  (∀ s : State, s.script = [] → s.halted = true → s.sequences = [] →
    (s.nmiLatch = false → (s.pins.intr = false ∨ flagIF s.flags = false ∨ s.inhibit = true) → s.dec.tfAtStart = false →
      step s = .next (checkInterrupts s)) ∧
    (s.nmiLatch = true ∨ (s.pins.intr = true ∧ flagIF s.flags = true ∧ s.inhibit = false) ∨ s.dec.tfAtStart = true →
      step s = step (checkInterrupts s))) ∧
  (∀ s : State, s.script = [] → s.halted = false → s.sequences = [] → s.biu.fetchState = .halted →
    step s = .next { s with halted := true })

/-- The bytes a step fetches, and the steps that fetch nothing. -/
def Obligations.StepGoesOnOrFetches : Prop :=
  Claim.NextBytes ∧ Claim.StepGoesOn

/-- The NMI input: a rising edge sets the latch, a level that stays or falls leaves it as it is. The INTR and TEST inputs are
levels. That a step performs one event of an agenda is the model's choice (log 7). -/
def Obligations.InterruptInputs : Prop :=
  ∀ (s : State) (rest : List Event) (l : Bool) (v : Byte),
    (s.script = .nmi l :: rest → ∃ t, step s = .next t ∧ t.pins = { s.pins with nmi := l } ∧
      t.nmiLatch = (s.nmiLatch || (l && !s.pins.nmi)) ∧ NothingWritten s t ∧ t.script = rest) ∧
    (s.script = .intr l v :: rest → ∃ t, step s = .next t ∧ t.pins = { s.pins with intr := l, vector := v } ∧
      t.nmiLatch = s.nmiLatch ∧ NothingWritten s t ∧ t.script = rest) ∧
    (s.script = .test l :: rest → ∃ t, step s = .next t ∧ t.pins = { s.pins with test := l } ∧
      t.nmiLatch = s.nmiLatch ∧ NothingWritten s t ∧ t.script = rest)

/-- The invariant holds after reset. -/
def Obligations.ResetMeetsInvariant : Prop := State.reset.Inv

/-- Every step keeps the invariant: memory in its canonical form and inside the 20-bit space, the reserved flags as they read,
the queue with room for all that it holds and all that fetches under way will bring, PC ahead of IP by its length. -/
def Obligations.StepKeepsInvariant : Prop := ∀ s t : State, s.Inv → step s = .next t → t.Inv

/-- No run meets a fault: the bus and the decoder are total. -/
def Obligations.RunsNeverFault : Prop := ∀ (n : Nat) (s : State), SafeRun n s

/-- What no instruction touches, and what only a few do: the inputs, the NMI latch, the scheduler, the tick counter and record,
the agenda, the interrupt sequences accepted and the parameters are never written; only HLT halts, and only HLT asks the bus for a
cycle that later ticks perform;
only LOCK asserts LOCK; only STI and the loads of a segment register set the inhibit. That no instruction moves the scheduler, the tick
counter and the record, where R149 has its transfers advance the clock, and that HLT leaves its cycle to later ticks, or
to none where the EU has a request pending, is the model's choice (log 10, DESIGN CHOICE). -/
def Sys2Proof.Machine.Claim.WhatInstructionsLeaveAlone : Prop :=
  ∀ (i : Instr) (s t : State), exec i s = .next t →
    t.pins = s.pins ∧ t.nmiLatch = s.nmiLatch ∧ t.dma = s.dma ∧ t.cycles = s.cycles ∧ t.record = s.record ∧
    t.script = s.script ∧ t.sequences = s.sequences ∧ t.steps = s.steps ∧ t.cfg = s.cfg ∧
    t.biu.latches = (if i = .hlt then { s.biu.latches with pending := some (s.biu.pending.getD haltRequest) }
      else s.biu.latches) ∧
    t.halted = (if i = .hlt then true else s.halted) ∧
    t.lock = (if i = .lock ∨ i = .lockF1 then true else s.lock) ∧
    t.inhibit = (if setsInhibit i then true else s.inhibit)

/-- The queue: only the transfers of control, interrupts, traps and interrupted repetitions empty it. After any other instruction it
has its bytes still, in their order, with those at its end that code fetches have brought, which PC has passed; an immediate that is
read after the operand (log 47) has left it, for which PC must be ahead of IP by the length of the queue, as the invariant says.
Nothing is fetched by an instruction that makes no access to memory or ports and loads no CS, nor, without a fill in the schedule
(log 9) and a code fetch of the ticks in T1 to T4 (R149), by one that stores nothing. Only a load of CS without a flush adds to the
segments that code may still come from (log 46). -/
def Sys2Proof.Machine.Claim.WhatInstructionsDoToTheQueue : Prop :=
  ∀ (i : Instr) (s t : State), exec i s = .next t →
    (i.lateBytes = 0 ∨ s.pc = s.ip + BitVec.ofNat 16 s.queue.length) →
    (mayFlush i = true ∧ FetchesAt t.ip t) ∨
    (t.stale = (if loadsCs i then s.seg.cs :: s.stale else s.stale) ∧
      (i.lateBytes = 0 → t.nextIsFirst = s.nextIsFirst) ∧
      ∃ l, t.queue = (s.queue ++ l).drop i.lateBytes ∧ t.pc = s.pc + BitVec.ofNat 16 l.length ∧
        (i.lateBytes = 0 → loadsCs i = false → t.demands = s.demands → l = []) ∧
        (i.lateBytes = 0 → s.fills = [] → s.biu.inFlight = 0 → s.biu.tState ≠ .t1 ∨ s.biu.prep ≠ .fetch →
          t.demands.filter BusEvent.isMemWrite = s.demands.filter BusEvent.isMemWrite → l = []))

/-- No step changes a parameter of the block. -/
def Sys2Proof.Machine.Claim.ParametersAreFixed : Prop := ∀ s t : State, step s = .next t → t.cfg = s.cfg

/-- What instructions never touch, and what no step changes. -/
def Obligations.WhatStepsLeaveAlone : Prop :=
  Claim.WhatInstructionsLeaveAlone ∧ Claim.WhatInstructionsDoToTheQueue ∧ Claim.ParametersAreFixed

/-! ### Two-operand operations (41_arithmetic.md R353 to R363, 42_logic_shift_rotate.md R400 to R404) -/

/-- ADD OR ADC SBB AND SUB XOR CMP TEST with a byte register as source. -/
def Sys2Proof.Machine.Claim.AluByteFromRegister : Prop :=
  ∀ p ∈ aluEbGbForms, ∀ rm r s, Completes (p.2 rm r) s fun t =>
    AluEffect8 p.1 rm (rm.value s) (s.r8 r) (rm.ea s) s t

/-- The same on words. -/
def Sys2Proof.Machine.Claim.AluWordFromRegister : Prop :=
  ∀ p ∈ aluEvGvForms, ∀ rm r s, Completes (p.2 rm r) s fun t =>
    AluEffect16 p.1 rm (rm.value s) (s.r16 r) (rm.ea s) s t

/-- ADD OR ADC SBB AND SUB XOR CMP with a byte register as destination and a register or memory source, which is only read. -/
def Sys2Proof.Machine.Claim.AluByteToRegister : Prop :=
  ∀ p ∈ aluGbEbForms, ∀ r rm s, Completes (p.2 r rm) s fun t =>
    AluEffect8 p.1 (.reg r) (s.r8 r) (rm.value s) (rm.ea s) s t

/-- The same on words. -/
def Sys2Proof.Machine.Claim.AluWordToRegister : Prop :=
  ∀ p ∈ aluGvEvForms, ∀ r rm s, Completes (p.2 r rm) s fun t =>
    AluEffect16 p.1 (.reg r) (s.r16 r) (rm.value s) (rm.ea s) s t

/-- The byte operations with an immediate source, on a register or memory, where it is read after the operand (R267, log 47), and on
AL. -/
def Sys2Proof.Machine.Claim.AluByteImmediate : Prop :=
  (∀ p ∈ aluEbIbForms, ∀ rm imm s, Completes (p.2 rm imm) s fun t =>
    AluEffect8 p.1 rm (rm.value s) imm (rm.ea s) (s.past 1) t) ∧
  (∀ p ∈ aluAlIbForms, ∀ imm s, Completes (p.2 imm) s fun t =>
    AluEffect8 p.1 (.reg .al) (s.r8 .al) imm s.lastEa s t)

/-- ADD OR ADC SBB AND SUB XOR CMP TEST on bytes, every form. -/
def Obligations.TwoOperandBytes : Prop :=
  Claim.AluByteFromRegister ∧ Claim.AluByteToRegister ∧ Claim.AluByteImmediate

/-- The word operations with an immediate source, on a register or memory, a sign-extended byte among them, where it is read after the
operand (R267, log 47), and on AX. -/
def Sys2Proof.Machine.Claim.AluWordImmediate : Prop :=
  (∀ p ∈ aluEvIvForms, ∀ rm imm s, Completes (p.2 rm imm) s fun t =>
    AluEffect16 p.1 rm (rm.value s) imm (rm.ea s) (s.past 2) t) ∧
  (∀ p ∈ aluEvIbsForms, ∀ rm (imm : Byte) s, Completes (p.2 rm imm) s fun t =>
    AluEffect16 p.1 rm (rm.value s) (imm.signExtend 16) (rm.ea s) (s.past 1) t) ∧
  (∀ p ∈ aluAxIvForms, ∀ imm s, Completes (p.2 imm) s fun t =>
    AluEffect16 p.1 (.reg .ax) (s.r16 .ax) imm s.lastEa s t)

/-- ADD OR ADC SBB AND SUB XOR CMP TEST on words, every form. -/
def Obligations.TwoOperandWords : Prop :=
  Claim.AluWordFromRegister ∧ Claim.AluWordToRegister ∧ Claim.AluWordImmediate

/-! ### One-operand operations -/

/-- INC and DEC: the operand plus or minus one, PF AF ZF SF OF as of that sum or difference, CF kept. -/
def Sys2Proof.Machine.Claim.IncrementDecrement : Prop :=
  (∀ (r : Reg16) (s : State), Completes (.incR16 r) s
    (Modified16 (.reg r) (some (s.r16 r + 1), putFlags incMask (addStatus (s.r16 r) 1 false) s.flags) s)) ∧
  (∀ (r : Reg16) (s : State), Completes (.decR16 r) s
    (Modified16 (.reg r) (some (s.r16 r - 1), putFlags incMask (subStatus (s.r16 r) 1 false) s.flags) s)) ∧
  (∀ (rm : RMW) (s : State), Completes (.incEbEv rm) s (ModifiedW rm
    (fun a => (some (a + 1), putFlags incMask (addStatus a 1 false) s.flags))
    (fun a => (some (a + 1), putFlags incMask (addStatus a 1 false) s.flags)) s)) ∧
  (∀ (rm : RMW) (s : State), Completes (.decEbEv rm) s (ModifiedW rm
    (fun a => (some (a - 1), putFlags incMask (subStatus a 1 false) s.flags))
    (fun a => (some (a - 1), putFlags incMask (subStatus a 1 false) s.flags)) s)) ∧
  (∀ f g : Word, flagCF (putFlags incMask g f) = flagCF f)

/-- NEG: zero minus the operand, with the flags of that subtraction. NOT: the complement, no flag. -/
def Sys2Proof.Machine.Claim.NegateComplement : Prop :=
  (∀ (rm : RMW) (s : State), Completes (.negEbEv rm) s (ModifiedW rm
    (fun a => (some (-a), putFlags statusMask (subStatus 0 a false) s.flags))
    (fun a => (some (-a), putFlags statusMask (subStatus 0 a false) s.flags)) s)) ∧
  (∀ (rm : RMW) (s : State), Completes (.notEbEv rm) s (ModifiedW rm
    (fun a => (some (~~~a), s.flags)) (fun a => (some (~~~a), s.flags)) s))

/-- The shifts and rotates of group 2 by 1 or by CL under `SHIFT_COUNT_MASK`: `count` steps, the flags of R407 and R408; a
count of 0 writes nothing and changes no flag. -/
def Sys2Proof.Machine.Claim.ShiftRotate : Prop :=
  ∀ p ∈ shiftForms, ∀ (rm : RMW) (n : ShiftCount) (s : State) (count : Nat),
    count = (match n with
      | .one => 1
      | .cl => (s.r8 .cl &&& s.cfg.shiftCountMask).toNat) →
    (count = 0 → Completes (p.2 rm n) s (ModifiedW rm (fun _ => (none, s.flags)) (fun _ => (none, s.flags)) s)) ∧
    (0 < count → Completes (p.2 rm n) s (ModifiedW rm
      (fun a => (some (shiftIter p.1 count (flagCF s.flags) a).2,
        shiftFlags p.1 count (shiftIter p.1 count (flagCF s.flags) a).1 (shiftIter p.1 count (flagCF s.flags) a).2 s.flags))
      (fun a => (some (shiftIter p.1 count (flagCF s.flags) a).2,
        shiftFlags p.1 count (shiftIter p.1 count (flagCF s.flags) a).1 (shiftIter p.1 count (flagCF s.flags) a).2 s.flags)) s))

/-- The same by an immediate count, on the V20/V30; the count is read after the operand (R267, log 47). -/
def Sys2Proof.Machine.Claim.ShiftRotateImmediate : Prop :=
  ∀ p ∈ shiftImmForms, ∀ (rm : RMW) (imm : Byte) (s : State) (count : Nat),
    count = (imm &&& s.cfg.shiftCountMask).toNat →
    (count = 0 → Completes (p.2 rm imm) s (ModifiedLateW 1 rm (fun _ => (none, s.flags)) (fun _ => (none, s.flags)) s)) ∧
    (0 < count → Completes (p.2 rm imm) s (ModifiedLateW 1 rm
      (fun a => (some (shiftIter p.1 count (flagCF s.flags) a).2,
        shiftFlags p.1 count (shiftIter p.1 count (flagCF s.flags) a).1 (shiftIter p.1 count (flagCF s.flags) a).2 s.flags))
      (fun a => (some (shiftIter p.1 count (flagCF s.flags) a).2,
        shiftFlags p.1 count (shiftIter p.1 count (flagCF s.flags) a).1 (shiftIter p.1 count (flagCF s.flags) a).2 s.flags)) s))

/-- ROL ROR RCL RCR SHL SHR SAR, every form. -/
def Obligations.ShiftRotateForms : Prop :=
  Claim.ShiftRotate ∧ Claim.ShiftRotateImmediate

/-- SETMO, and SETMOC when CL is not 0: all ones, the flags of a logical operation; SETMOC with CL = 0 writes nothing and
changes no flag. R557 is not certain of the flags, and U14 lets a model refuse: these flags are log 19. -/
def Sys2Proof.Machine.Claim.SetMinusOne : Prop :=
  (∀ (rm : RMW) (s : State), Completes (.setmo rm) s (ModifiedW rm
    (fun _ => (some 0xFF, putFlags statusMask (logicStatus (0xFF : Byte)) s.flags))
    (fun _ => (some 0xFFFF, putFlags statusMask (logicStatus (0xFFFF : Word)) s.flags)) s)) ∧
  (∀ (rm : RMW) (s : State), s.r8 .cl ≠ 0 → Completes (.setmoc rm) s (ModifiedW rm
    (fun _ => (some 0xFF, putFlags statusMask (logicStatus (0xFF : Byte)) s.flags))
    (fun _ => (some 0xFFFF, putFlags statusMask (logicStatus (0xFFFF : Word)) s.flags)) s)) ∧
  (∀ (rm : RMW) (s : State), s.r8 .cl = 0 → Completes (.setmoc rm) s (ModifiedW rm
    (fun _ => (none, s.flags)) (fun _ => (none, s.flags)) s))

/-- INC DEC NEG NOT SETMO SETMOC, every form. -/
def Obligations.OneOperand : Prop :=
  Claim.IncrementDecrement ∧ Claim.NegateComplement ∧ Claim.SetMinusOne

/-! ### Multiplication and division (41_arithmetic.md R368 to R371, 47_v20_v30_extensions.md R589) -/

/-- MUL: the exact unsigned product in AX or DX:AX; CF and OF say that its high half is not zero; the other status flags are
free. The product is stated without a REP prefix, under which it is free (log 15). -/
def Sys2Proof.Machine.Claim.MultiplyUnsigned : Prop :=
  (∀ (rm : RM8) (s : State), Completes (.mulEbEv (.byte rm)) s fun t =>
    OnlyRegs [.ax] statusMask s t ∧ t.lastEa = rm.ea s ∧
    flagCF t.flags = (t.r8 .ah != 0) ∧ flagOF t.flags = (t.r8 .ah != 0) ∧
    (s.repBefore = false → (t.r16 .ax).toNat = (s.r8 .al).toNat * (rm.value s).toNat)) ∧
  (∀ (rm : RM16) (s : State), Completes (.mulEbEv (.word rm)) s fun t =>
    OnlyRegs [.ax, .dx] statusMask s t ∧ t.lastEa = rm.ea s ∧
    flagCF t.flags = (t.r16 .dx != 0) ∧ flagOF t.flags = (t.r16 .dx != 0) ∧
    (s.repBefore = false →
      (t.r16 .dx).toNat * 65536 + (t.r16 .ax).toNat = (s.r16 .ax).toNat * (rm.value s).toNat))

/-- IMUL: the exact signed product; CF and OF say that its high half is not the sign extension of its low half. -/
def Sys2Proof.Machine.Claim.MultiplySigned : Prop :=
  (∀ (rm : RM8) (s : State), Completes (.imulEbEv (.byte rm)) s fun t =>
    OnlyRegs [.ax] statusMask s t ∧ t.lastEa = rm.ea s ∧
    flagCF t.flags = decide ((t.r16 .ax).toInt ≠ (t.r8 .al).toInt) ∧
    flagOF t.flags = decide ((t.r16 .ax).toInt ≠ (t.r8 .al).toInt) ∧
    (s.repBefore = false → (t.r16 .ax).toInt = (s.r8 .al).toInt * (rm.value s).toInt)) ∧
  (∀ (rm : RM16) (s : State), Completes (.imulEbEv (.word rm)) s fun t =>
    OnlyRegs [.ax, .dx] statusMask s t ∧ t.lastEa = rm.ea s ∧
    flagCF t.flags = decide ((t.r16 .dx ++ t.r16 .ax).toInt ≠ (t.r16 .ax).toInt) ∧
    flagOF t.flags = decide ((t.r16 .dx ++ t.r16 .ax).toInt ≠ (t.r16 .ax).toInt) ∧
    (s.repBefore = false → (t.r16 .dx ++ t.r16 .ax).toInt = (s.r16 .ax).toInt * (rm.value s).toInt))

/-- IMUL r16,r/m16,imm: the signed product modulo 2^16; CF and OF say that it does not fit. The immediate is read after the operand
(R267, log 47). -/
def Sys2Proof.Machine.Claim.MultiplyImmediate : Prop :=
  (∀ (r : Reg16) (rm : RM16) (imm : Word) (s : State), Completes (.imulGvEvIv r rm imm) s fun t =>
    OnlyRegs [r] statusMask (s.past 2) t ∧ t.lastEa = rm.ea s ∧
    (t.r16 r).toInt = ((rm.value s).toInt * imm.toInt).bmod 65536 ∧
    flagCF t.flags = decide ((t.r16 r).toInt ≠ (rm.value s).toInt * imm.toInt) ∧
    flagOF t.flags = decide ((t.r16 r).toInt ≠ (rm.value s).toInt * imm.toInt)) ∧
  (∀ (r : Reg16) (rm : RM16) (imm : Byte) (s : State), Completes (.imulGvEvIbs r rm imm) s fun t =>
    OnlyRegs [r] statusMask (s.past 1) t ∧ t.lastEa = rm.ea s ∧
    (t.r16 r).toInt = ((rm.value s).toInt * imm.toInt).bmod 65536 ∧
    flagCF t.flags = decide ((t.r16 r).toInt ≠ (rm.value s).toInt * imm.toInt) ∧
    flagOF t.flags = decide ((t.r16 r).toInt ≠ (rm.value s).toInt * imm.toInt))

/-- MUL and IMUL, every form. -/
def Obligations.MultiplyProducts : Prop :=
  Claim.MultiplyUnsigned ∧ Claim.MultiplySigned ∧ Claim.MultiplyImmediate

/-- DIV with a divisor that is not zero and a quotient that fits: quotient and remainder in AL and AH, or AX and DX; all six
status flags are free. Quotient and remainder are stated without a REP prefix, under which they are free (log 15). -/
def Sys2Proof.Machine.Claim.DivideUnsigned : Prop :=
  (∀ (rm : RM8) (s : State), rm.value s ≠ 0 → (s.r16 .ax).toNat / (rm.value s).toNat ≤ 255 →
    Completes (.divEbEv (.byte rm)) s fun t =>
      OnlyRegs [.ax] statusMask s t ∧ t.lastEa = rm.ea s ∧
      (s.repBefore = false →
        (s.r16 .ax).toNat = (t.r8 .al).toNat * (rm.value s).toNat + (t.r8 .ah).toNat ∧
        (t.r8 .ah).toNat < (rm.value s).toNat)) ∧
  (∀ (rm : RM16) (s : State), rm.value s ≠ 0 →
    ((s.r16 .dx).toNat * 65536 + (s.r16 .ax).toNat) / (rm.value s).toNat ≤ 65535 →
    Completes (.divEbEv (.word rm)) s fun t =>
      OnlyRegs [.ax, .dx] statusMask s t ∧ t.lastEa = rm.ea s ∧
      (s.repBefore = false →
        (s.r16 .dx).toNat * 65536 + (s.r16 .ax).toNat =
          (t.r16 .ax).toNat * (rm.value s).toNat + (t.r16 .dx).toNat ∧
        (t.r16 .dx).toNat < (rm.value s).toNat))

/-- IDIV with a divisor that is not zero and a quotient in range: it rounds toward zero. The least quotient is -127 or
-32767; one less is in range on the 8088/8086 when `IDIV_MIN_QUOTIENT_TRAPS` is false, and on the V20/V30 it is divided or takes the
divide error (R597, log 17). Quotient and remainder are stated without a REP prefix (log 15). -/
def Sys2Proof.Machine.Claim.DivideSigned : Prop :=
  (∀ (rm : RM8) (s : State) (q : Int), rm.value s ≠ 0 → q = (s.r16 .ax).toInt.tdiv (rm.value s).toInt →
    (q ≤ 127 → (-127 ≤ q ∨ (q = -128 ∧ s.cfg.cpu.isNec = false ∧ s.cfg.idivMinTraps = false)) →
      Completes (.idivEbEv (.byte rm)) s (DividedByte rm q s)) ∧
    (q = -128 → s.cfg.cpu.isNec = true → Completes (.idivEbEv (.byte rm)) s fun t =>
      DividedByte rm q s t ∨ (DivideErrorTaken s t ∧ t.lastEa = rm.ea s))) ∧
  (∀ (rm : RM16) (s : State) (q : Int), rm.value s ≠ 0 → q = (s.r16 .dx ++ s.r16 .ax).toInt.tdiv (rm.value s).toInt →
    (q ≤ 32767 → (-32767 ≤ q ∨ (q = -32768 ∧ s.cfg.cpu.isNec = false ∧ s.cfg.idivMinTraps = false)) →
      Completes (.idivEbEv (.word rm)) s (DividedWord rm q s)) ∧
    (q = -32768 → s.cfg.cpu.isNec = true → Completes (.idivEbEv (.word rm)) s fun t =>
      DividedWord rm q s t ∨ (DivideErrorTaken s t ∧ t.lastEa = rm.ea s)))

/-- DIV and IDIV where no trap is taken. -/
def Obligations.DivideQuotients : Prop :=
  Claim.DivideUnsigned ∧ Claim.DivideSigned

/-- DIV and IDIV by zero, or with a quotient that does not fit, take the divide error; so does AAM with base 0 on the 8088/8086.
It is taken under a REP prefix too (log 15), and the status flags in the frame it pushes are free, for AAM as for DIV and IDIV (log
36). The most negative quotient of IDIV is stated for the 8088/8086 under `IDIV_MIN_QUOTIENT_TRAPS`. -/
def Obligations.DivideError : Prop :=
  (∀ (rm : RM8) (s : State),
    (rm.value s = 0 ∨ 255 < (s.r16 .ax).toNat / (rm.value s).toNat) →
    Completes (.divEbEv (.byte rm)) s fun t => DivideErrorTaken s t ∧ t.lastEa = rm.ea s) ∧
  (∀ (rm : RM16) (s : State),
    (rm.value s = 0 ∨ 65535 < ((s.r16 .dx).toNat * 65536 + (s.r16 .ax).toNat) / (rm.value s).toNat) →
    Completes (.divEbEv (.word rm)) s fun t => DivideErrorTaken s t ∧ t.lastEa = rm.ea s) ∧
  (∀ (rm : RM8) (s : State) (q : Int), q = (s.r16 .ax).toInt.tdiv (rm.value s).toInt →
    (rm.value s = 0 ∨ 127 < q ∨ q < -128 ∨ (q = -128 ∧ s.cfg.cpu.isNec = false ∧ s.cfg.idivMinTraps = true)) →
    Completes (.idivEbEv (.byte rm)) s fun t => DivideErrorTaken s t ∧ t.lastEa = rm.ea s) ∧
  (∀ (rm : RM16) (s : State) (q : Int), q = (s.r16 .dx ++ s.r16 .ax).toInt.tdiv (rm.value s).toInt →
    (rm.value s = 0 ∨ 32767 < q ∨ q < -32768 ∨ (q = -32768 ∧ s.cfg.cpu.isNec = false ∧ s.cfg.idivMinTraps = true)) →
    Completes (.idivEbEv (.word rm)) s fun t => DivideErrorTaken s t ∧ t.lastEa = rm.ea s) ∧
  (∀ s : State, s.cfg.cpu.isNec = false → Completes (.aamIb 0) s fun t => DivideErrorTaken s t ∧ t.lastEa = s.lastEa)

/-! ### Adjustments and conversions (41_arithmetic.md R364 to R367, R372 to R375) -/

/-- AAA and AAS: AL and AH are adjusted apart when the low digit is above 9 or AF is set; AF = CF = adjusted; the other status
flags are free. -/
def Sys2Proof.Machine.Claim.AsciiAdjust : Prop :=
  ∀ (s : State) (adj : Bool), adj = (decide (9 < (s.r8 .al).toNat % 16) || flagAF s.flags) →
    (Completes .aaa s fun t => OnlyRegs [.ax] statusMask s t ∧ t.lastEa = s.lastEa ∧
      flagAF t.flags = adj ∧ flagCF t.flags = adj ∧
      (t.r8 .al).toNat = ((s.r8 .al).toNat + (if adj then 6 else 0)) % 16 ∧
      t.r8 .ah = (if adj then s.r8 .ah + 1 else s.r8 .ah)) ∧
    (Completes .aas s fun t => OnlyRegs [.ax] statusMask s t ∧ t.lastEa = s.lastEa ∧
      flagAF t.flags = adj ∧ flagCF t.flags = adj ∧
      (t.r8 .al).toNat = ((s.r8 .al).toNat + (if adj then 10 else 0)) % 16 ∧
      t.r8 .ah = (if adj then s.r8 .ah - 1 else s.r8 .ah))

/-- DAA and DAS: 6 and 0x60 are added or subtracted by the algorithm of R366 and R367; SF, ZF and PF follow AL; OF is free. On
the inputs of U6 (AF set, AL in 0x9A to 0x9F, for DAS with CF clear) AL and CF are free (log 14). -/
def Sys2Proof.Machine.Claim.DecimalAdjust : Prop :=
  ∀ (s : State) (low high : Bool), low = (decide (9 < (s.r8 .al).toNat % 16) || flagAF s.flags) →
    high = (decide (0x99 < (s.r8 .al).toNat) || flagCF s.flags) →
    (Completes .daa s fun t => OnlyRegs [.ax] statusMask s t ∧ t.lastEa = s.lastEa ∧ t.r8 .ah = s.r8 .ah ∧
      flagAF t.flags = low ∧ flagSF t.flags = (t.r8 .al).msb ∧ flagZF t.flags = (t.r8 .al == 0) ∧
      flagPF t.flags = evenOnes (t.r8 .al) ∧
      ((flagAF s.flags = false ∨ (s.r8 .al).toNat < 0x9A ∨ 0x9F < (s.r8 .al).toNat) →
        flagCF t.flags = high ∧
        (t.r8 .al).toNat = ((s.r8 .al).toNat + (if low then 6 else 0) + (if high then 0x60 else 0)) % 256)) ∧
    (Completes .das s fun t => OnlyRegs [.ax] statusMask s t ∧ t.lastEa = s.lastEa ∧ t.r8 .ah = s.r8 .ah ∧
      flagAF t.flags = low ∧ flagSF t.flags = (t.r8 .al).msb ∧ flagZF t.flags = (t.r8 .al == 0) ∧
      flagPF t.flags = evenOnes (t.r8 .al) ∧
      ((flagAF s.flags = false ∨ flagCF s.flags = true ∨ (s.r8 .al).toNat < 0x9A ∨ 0x9F < (s.r8 .al).toNat) →
        flagCF t.flags = high ∧
        (t.r8 .al).toNat =
          ((s.r8 .al).toNat + 512 - (if low then 6 else 0) - (if high then 0x60 else 0)) % 256))

/-- AAA AAS DAA DAS. -/
def Obligations.AsciiAndDecimalAdjust : Prop :=
  Claim.AsciiAdjust ∧ Claim.DecimalAdjust

/-- AAM and AAD with the base in the instruction, which on the V20/V30 is sure to be used only when it is 10 (U17, log 17): with
another one there, AAM divides by some base or takes the divide error. -/
def Sys2Proof.Machine.Claim.AsciiMultiplyDivide : Prop :=
  ∀ (s : State) (imm : Byte),
    (s.cfg.cpu.isNec = true → imm ≠ 10 → Completes (.aamIb imm) s fun t => t.lastEa = s.lastEa ∧
      (DivideErrorTaken s t ∨ (OnlyRegs [.ax] statusMask s t ∧ ∃ base : Byte, base ≠ 0 ∧
        (t.r8 .ah).toNat = (s.r8 .al).toNat / base.toNat ∧ (t.r8 .al).toNat = (s.r8 .al).toNat % base.toNat))) ∧
    (s.cfg.cpu.isNec = false ∨ imm = 10 → imm ≠ 0 → Completes (.aamIb imm) s fun t =>
      OnlyRegs [.ax] statusMask s t ∧ t.lastEa = s.lastEa ∧
      (t.r8 .ah).toNat = (s.r8 .al).toNat / imm.toNat ∧ (t.r8 .al).toNat = (s.r8 .al).toNat % imm.toNat ∧
      flagSF t.flags = (t.r8 .al).msb ∧ flagZF t.flags = (t.r8 .al == 0) ∧ flagPF t.flags = evenOnes (t.r8 .al)) ∧
    (Completes (.aadIb imm) s fun t =>
      OnlyRegs [.ax] statusMask s t ∧ t.lastEa = s.lastEa ∧ t.r8 .ah = 0 ∧
      flagSF t.flags = (t.r8 .al).msb ∧ flagZF t.flags = (t.r8 .al == 0) ∧ flagPF t.flags = evenOnes (t.r8 .al) ∧
      (s.cfg.cpu.isNec = false ∨ imm = 10 → (t.r8 .al).toNat = ((s.r8 .al).toNat + (s.r8 .ah).toNat * imm.toNat) % 256))

/-- CBW sign-extends AL into AX, CWD sign-extends AX into DX. -/
def Sys2Proof.Machine.Claim.SignExtensions : Prop :=
  ∀ s : State,
    (Completes .cbw s fun t => OnlyRegs [.ax] 0 s t ∧ t.lastEa = s.lastEa ∧ (t.r16 .ax).toInt = (s.r8 .al).toInt) ∧
    (Completes .cwd s fun t => OnlyRegs [.dx] 0 s t ∧ t.lastEa = s.lastEa ∧
      (t.r16 .dx ++ t.r16 .ax).toInt = (s.r16 .ax).toInt)

/-- AAM AAD CBW CWD. -/
def Obligations.BaseAndSign : Prop :=
  Claim.AsciiMultiplyDivide ∧ Claim.SignExtensions

/-! ### Data transfer (40_data_transfer.md, 46_undefined_opcodes.md) -/

/-- MOV of a byte: register, memory or immediate source; register or memory destination. No flag changes. -/
def Sys2Proof.Machine.Claim.MoveByte : Prop :=
  (∀ rm r s, Completes (.movEbGb rm r) s (Modified8 rm (some (s.r8 r), s.flags) s)) ∧
  (∀ p ∈ movEbIbForms, ∀ rm imm s, Completes (p rm imm) s (Modified8 rm (some imm, s.flags) s)) ∧
  (∀ r imm s, Completes (.movR8Ib r imm) s (Modified8 (.reg r) (some imm, s.flags) s)) ∧
  (∀ o s, Completes (.movObAl o) s (Modified8 (.mem (.direct o)) (some (s.r8 .al), s.flags) s)) ∧
  (∀ r rm s, Completes (.movGbEb r rm) s fun t =>
    Stored8 (.reg r) (rm.value s) s t ∧ t.flags = s.flags ∧ t.lastEa = rm.ea s ∧ Ordinary s t) ∧
  (∀ o s, Completes (.movAlOb o) s fun t =>
    Stored8 (.reg .al) ((RM8.mem (.direct o)).value s) s t ∧ t.flags = s.flags ∧ t.lastEa = o ∧ Ordinary s t)

/-- MOV of a word, the source possibly a segment register. No flag changes. -/
def Sys2Proof.Machine.Claim.MoveWord : Prop :=
  (∀ rm r s, Completes (.movEvGv rm r) s (Modified16 rm (some (s.r16 r), s.flags) s)) ∧
  (∀ p ∈ movEvIvForms, ∀ rm imm s, Completes (p rm imm) s (Modified16 rm (some imm, s.flags) s)) ∧
  (∀ r imm s, Completes (.movR16Iv r imm) s (Modified16 (.reg r) (some imm, s.flags) s)) ∧
  (∀ o s, Completes (.movOvAx o) s (Modified16 (.mem (.direct o)) (some (s.r16 .ax), s.flags) s)) ∧
  (∀ rm g s, Completes (.movEwSw rm g) s (Modified16 rm (some (s.sreg g), s.flags) s)) ∧
  (∀ rm g s, Completes (.movEwSwHigh rm g) s (Modified16 rm (some (s.sreg g), s.flags) s)) ∧
  (∀ r rm s, Completes (.movGvEv r rm) s fun t =>
    Stored16 (.reg r) (rm.value s) s t ∧ t.flags = s.flags ∧ t.lastEa = rm.ea s ∧ Ordinary s t) ∧
  (∀ o s, Completes (.movAxOv o) s fun t =>
    Stored16 (.reg .ax) ((RM16.mem (.direct o)).value s) s t ∧ t.flags = s.flags ∧ t.lastEa = o ∧ Ordinary s t)

/-- MOV with a general register or memory as destination, every form. -/
def Obligations.MoveForms : Prop :=
  Claim.MoveByte ∧ Claim.MoveWord

/-- MOV and POP with a segment register as destination, CS among them: the register takes the word, the inhibit is set,
nothing else changes but SP for POP. A load of CS keeps the queue and PC going, and until the next flush the old CS is a segment that
code bytes may come from (U19, log 46). -/
def Obligations.LoadSegment : Prop :=
  (∀ p ∈ movSregForms, ∀ rm s, Completes (p.2 rm) s fun t =>
    t.system = { s.system with seg := s.seg.set p.1 (rm.value s), inhibit := true } ∧ NothingWritten s t ∧
    t.flags = s.flags ∧ t.ip = s.ip ∧ t.lastEa = rm.ea s ∧
    (p.1 = .cs → t.stale = s.seg.cs :: s.stale ∧ ∃ l, QueueGrew l s t) ∧ (p.1 ≠ .cs → t.stale = s.stale)) ∧
  (∀ p ∈ popSregForms, ∀ s, Completes p.2 s fun t =>
    t.system = { s.system with seg := s.seg.set p.1 (topWord s), inhibit := true } ∧
    t.r16 .sp = s.r16 .sp + 2 ∧ RegsKeptBut [.sp] s t ∧ MemKept s t ∧
    t.flags = s.flags ∧ t.ip = s.ip ∧ t.lastEa = s.lastEa ∧
    (p.1 = .cs → t.stale = s.seg.cs :: s.stale ∧ ∃ l, QueueGrew l s t) ∧ (p.1 ≠ .cs → t.stale = s.stale)) ∧
  (∀ (g : Segs) (r q : SReg) (v : Word), (g.set r v).get q = if q = r then v else g.get q)

/-- The pushes whose word is given: segment registers, FLAGS as stored, immediates, a register other than SP, and a register
or memory operand other than SP. -/
def Sys2Proof.Machine.Claim.Push : Prop :=
  (∀ p ∈ pushSregForms, ∀ s, Completes p.2 s fun t =>
    Pushed (s.sreg p.1) s t ∧ t.flags = s.flags ∧ t.lastEa = s.lastEa ∧ Ordinary s t) ∧
  (∀ s, Completes .pushf s fun t => Pushed s.flags s t ∧ t.flags = s.flags ∧ t.lastEa = s.lastEa ∧ Ordinary s t) ∧
  (∀ imm s, Completes (.pushIv imm) s fun t => Pushed imm s t ∧ t.flags = s.flags ∧ t.lastEa = s.lastEa ∧ Ordinary s t) ∧
  (∀ (imm : Byte) s, Completes (.pushIbs imm) s fun t =>
    Pushed (imm.signExtend 16) s t ∧ t.flags = s.flags ∧ t.lastEa = s.lastEa ∧ Ordinary s t) ∧
  (∀ r s, r ≠ .sp → Completes (.pushR16 r) s fun t =>
    Pushed (s.r16 r) s t ∧ t.flags = s.flags ∧ t.lastEa = s.lastEa ∧ Ordinary s t) ∧
  (∀ rm s, rm ≠ .reg .sp →
    (Completes (.pushEv rm) s fun t =>
      Pushed (rm.value s) s t ∧ t.flags = s.flags ∧ t.lastEa = rm.ea s ∧ Ordinary s t) ∧
    (Completes (.pushEvReg7 rm) s fun t =>
      Pushed (rm.value s) s t ∧ t.flags = s.flags ∧ t.lastEa = rm.ea s ∧ Ordinary s t))

/-- PUSH SP stores SP as it is after the decrement on the 8088/8086; the V20/V30, and the r/m form, store the old or the new
value (U12, U17, logs 16 and 17). -/
def Sys2Proof.Machine.Claim.PushStackPointer : Prop :=
  (∀ s, Completes (.pushR16 .sp) s fun t =>
    (∃ v, (v = s.r16 .sp - 2 ∨ (s.cfg.cpu.isNec = true ∧ v = s.r16 .sp)) ∧ Pushed v s t) ∧ t.flags = s.flags ∧
    t.lastEa = s.lastEa ∧ Ordinary s t) ∧
  (∀ i ∈ [Instr.pushEv (.reg .sp), Instr.pushEvReg7 (.reg .sp)], ∀ s, Completes i s fun t =>
    (∃ v, (v = s.r16 .sp - 2 ∨ v = s.r16 .sp) ∧ Pushed v s t) ∧ t.flags = s.flags ∧ t.lastEa = s.lastEa ∧ Ordinary s t)

/-- PUSH and PUSHF, every form. -/
def Obligations.PushForms : Prop :=
  Claim.Push ∧ Claim.PushStackPointer

/-- POP of a register or a memory word: SP moves by two, which POP SP overwrites; the address of a memory destination is
computed before the pop. -/
def Obligations.PopForms : Prop :=
  (∀ r s, ∀ i ∈ Instr.popR16 r :: popEvForms.map fun f => f (.reg r), Completes i s fun t =>
    t.r16 r = topWord s ∧ (r ≠ .sp → t.r16 .sp = s.r16 .sp + 2) ∧ RegsKeptBut [r, .sp] s t ∧ MemKept s t ∧
    t.flags = s.flags ∧ t.lastEa = s.lastEa ∧ Ordinary s t) ∧
  (∀ p ∈ popEvForms, ∀ m s, Completes (p (.mem m)) s fun t =>
    t.r16 .sp = s.r16 .sp + 2 ∧ RegsKeptBut [.sp] s t ∧
    MemWord (s.sreg (eaSeg m s)) (eaOff m s) (topWord (s.setLastEa (eaOff m s))) s t ∧
    t.flags = s.flags ∧ t.lastEa = eaOff m s ∧ Ordinary s t) ∧
  (∀ s, Completes .popf s fun t =>
    t.flags = (topWord s &&& 0x0FD5) ||| 0xF002 ∧ t.r16 .sp = s.r16 .sp + 2 ∧ RegsKeptBut [.sp] s t ∧ MemKept s t ∧
    t.lastEa = s.lastEa ∧ Ordinary s t)

/-- XCHG swaps two registers, or a register and memory, and AX with a register; NOP is XCHG AX,AX. -/
def Obligations.ExchangeForms : Prop :=
  (∀ q r s, Completes (.xchgEbGb (.reg q) r) s fun t =>
    t.r8 q = s.r8 r ∧ t.r8 r = s.r8 q ∧ (∀ p, p ≠ q → p ≠ r → t.r8 p = s.r8 p) ∧
    OnlyRegs [q.parent, r.parent] 0 s t ∧ t.lastEa = s.lastEa) ∧
  (∀ m r s, Completes (.xchgEbGb (.mem m) r) s fun t =>
    Reg8Written r ((RM8.mem m).value s) s t ∧ MemByte (s.sreg (eaSeg m s)) (eaOff m s) (s.r8 r) s t ∧
    t.flags = s.flags ∧ t.lastEa = eaOff m s ∧ Ordinary s t) ∧
  (∀ q r s, Completes (.xchgEvGv (.reg q) r) s fun t =>
    t.r16 q = s.r16 r ∧ t.r16 r = s.r16 q ∧ OnlyRegs [q, r] 0 s t ∧ t.lastEa = s.lastEa) ∧
  (∀ m r s, Completes (.xchgEvGv (.mem m) r) s fun t =>
    Reg16Written r ((RM16.mem m).value s) s t ∧ MemWord (s.sreg (eaSeg m s)) (eaOff m s) (s.r16 r) s t ∧
    t.flags = s.flags ∧ t.lastEa = eaOff m s ∧ Ordinary s t) ∧
  (∀ p ∈ xchgAxForms, ∀ s, Completes p.2 s fun t =>
    t.r16 .ax = s.r16 p.1 ∧ t.r16 p.1 = s.r16 .ax ∧ OnlyRegs [.ax, p.1] 0 s t ∧ t.lastEa = s.lastEa) ∧
  (∀ s, exec .nop s = .next s)

/-- LEA, and LDS and LES with their far pointer; the register forms take `last_ea`, which they do not change, for the offset.
LDS and LES load a segment register, which sets the inhibit. -/
def Obligations.LoadAddress : Prop :=
  (∀ i r m s, i = Instr.leaMod01 r m ∨ i = Instr.leaMod2 r m → Completes i s fun t =>
    t.r16 r = eaOff m s ∧ OnlyRegs [r] 0 s t ∧ t.lastEa = eaOff m s) ∧
  (∀ r q s, Completes (.leaMod3 r q) s fun t => t.r16 r = s.lastEa ∧ OnlyRegs [r] 0 s t ∧ t.lastEa = s.lastEa) ∧
  (∀ i g r m s, (g = .es ∧ (i = Instr.lesMod01 r m ∨ i = Instr.lesMod2 r m)) ∨
      (g = .ds ∧ (i = Instr.ldsMod01 r m ∨ i = Instr.ldsMod2 r m)) → Completes i s fun t =>
    t.r16 r = (readFar (eaSeg m s) (eaOff m s) (s.setLastEa (eaOff m s))).1 ∧ RegsKeptBut [r] s t ∧ MemKept s t ∧
    t.system = { s.system with inhibit := true,
                               seg := s.seg.set g (readFar (eaSeg m s) (eaOff m s) (s.setLastEa (eaOff m s))).2.1 } ∧
    t.flags = s.flags ∧ t.ip = s.ip ∧ t.lastEa = eaOff m s) ∧
  (∀ i g r q s, (g = .es ∧ i = Instr.lesMod3 r q) ∨ (g = .ds ∧ i = Instr.ldsMod3 r q) → Completes i s fun t =>
    t.r16 r = (readFar (s.segOr .ds) s.lastEa s).1 ∧ RegsKeptBut [r] s t ∧ MemKept s t ∧
    t.system = { s.system with inhibit := true, seg := s.seg.set g (readFar (s.segOr .ds) s.lastEa s).2.1 } ∧
    t.flags = s.flags ∧ t.ip = s.ip ∧ t.lastEa = s.lastEa)

/-- XLAT, LAHF, SAHF and SALC. -/
def Obligations.AccumulatorAndFlags : Prop :=
  ∀ s : State,
    (Completes .xlat s fun t =>
      Stored8 (.reg .al) (readByte (accessOf (s.segOr .ds)) (s.sreg (s.segOr .ds))
        (s.r16 .bx + (s.r8 .al).setWidth 16) (s.setLastEa (s.r16 .bx + (s.r8 .al).setWidth 16))).1 s t ∧
      t.flags = s.flags ∧ t.lastEa = s.r16 .bx + (s.r8 .al).setWidth 16 ∧ Ordinary s t) ∧
    (Completes .lahf s fun t => Stored8 (.reg .ah) (s.flags.setWidth 8) s t ∧ t.flags = s.flags ∧ t.lastEa = s.lastEa ∧
      Ordinary s t) ∧
    (Completes .sahf s fun t => NothingWritten s t ∧ FlagsKeptBut 0x00D5 s t ∧
      flagSF t.flags = (s.r8 .ah).getLsbD 7 ∧ flagZF t.flags = (s.r8 .ah).getLsbD 6 ∧ flagAF t.flags = (s.r8 .ah).getLsbD 4 ∧
      flagPF t.flags = (s.r8 .ah).getLsbD 2 ∧ flagCF t.flags = (s.r8 .ah).getLsbD 0 ∧ t.lastEa = s.lastEa ∧ Ordinary s t) ∧
    (Completes .salc s fun t => Stored8 (.reg .al) (if flagCF s.flags then 0xFF else 0) s t ∧ t.flags = s.flags ∧
      t.lastEa = s.lastEa ∧ Ordinary s t)

/-- IN: one byte access per byte, the low one at the port, the high one at the next port; what the ports answer goes to AL or
AX. That a port answers with the next byte the environment has queued is log 6, and the list of bus operations is log 27. -/
def Sys2Proof.Machine.Claim.Input : Prop :=
  (∀ i port s, (∃ b : Byte, i = Instr.inAlIb b ∧ port = b.setWidth 16) ∨ (i = Instr.inAlDx ∧ port = s.r16 .dx) →
    Completes i s fun t => OnlyRegs [.ax] 0 s t ∧ t.r8 .ah = s.r8 .ah ∧ t.lastEa = s.lastEa ∧
      Shows [.ioRead port (t.r8 .al)] s t ∧
      (∀ a rest, s.devIn = a :: rest → t.r8 .al = a ∧ t.devIn = rest)) ∧
  (∀ i port s, (∃ b : Byte, i = Instr.inAxIb b ∧ port = b.setWidth 16) ∨ (i = Instr.inAxDx ∧ port = s.r16 .dx) →
    Completes i s fun t => OnlyRegs [.ax] 0 s t ∧ t.lastEa = s.lastEa ∧
      Shows [.ioRead (port + 1) (t.r8 .ah), .ioRead port (t.r8 .al)] s t ∧
      (∀ a b rest, s.devIn = a :: b :: rest → t.r8 .al = a ∧ t.r8 .ah = b ∧ t.devIn = rest))

/-- OUT: AL or AX goes to the port, a word as two bytes, the high one at the next port. Nothing else changes (the list of bus
operations is log 27). -/
def Sys2Proof.Machine.Claim.Output : Prop :=
  (∀ i port s, (∃ b : Byte, i = Instr.outIbAl b ∧ port = b.setWidth 16) ∨ (i = Instr.outDxAl ∧ port = s.r16 .dx) →
    Completes i s fun t => NothingWritten s t ∧ t.flags = s.flags ∧ t.lastEa = s.lastEa ∧ t.eaOpr = s.eaOpr ∧
      t.devIn = s.devIn ∧ Ordinary s t ∧ Shows [.ioWrite port (s.r8 .al)] s t) ∧
  (∀ i port s, (∃ b : Byte, i = Instr.outIbAx b ∧ port = b.setWidth 16) ∨ (i = Instr.outDxAx ∧ port = s.r16 .dx) →
    Completes i s fun t => NothingWritten s t ∧ t.flags = s.flags ∧ t.lastEa = s.lastEa ∧ t.eaOpr = s.eaOpr ∧
      t.devIn = s.devIn ∧ Ordinary s t ∧ Shows [.ioWrite (port + 1) (s.r8 .ah), .ioWrite port (s.r8 .al)] s t)

/-- IN and OUT, every form. -/
def Obligations.InputOutput : Prop :=
  Claim.Input ∧ Claim.Output

/-! ### Control transfer (44_control_transfer.md) -/

/-- Jcc, with its duplicates: taken, it jumps within the segment and flushes; not taken, it changes nothing. -/
def Sys2Proof.Machine.Claim.ConditionalJump : Prop :=
  ∀ p ∈ jccForms, ∀ (d : Byte) (s : State),
    (condition p.1 s.flags = true → Completes (p.2 d) s fun t => Jumped (s.ip + d.signExtend 16) s t ∧ t.lastEa = s.lastEa) ∧
    (condition p.1 s.flags = false → exec (p.2 d) s = .next s)

/-- LOOP, LOOPZ, LOOPNZ decrement CX and jump while it is not zero and the condition holds; JCXZ jumps when CX is zero. No
flag changes. -/
def Sys2Proof.Machine.Claim.CountedJump : Prop :=
  ∀ (d : Byte) (s : State),
    (∀ p ∈ [(Instr.loop d, true), (Instr.loopz d, flagZF s.flags), (Instr.loopnz d, !flagZF s.flags)],
      Completes p.1 s fun t =>
        t.r16 .cx = s.r16 .cx - 1 ∧ RegsKeptBut [.cx] s t ∧ MemKept s t ∧ t.flags = s.flags ∧ t.lastEa = s.lastEa ∧
        t.system = s.system ∧
        (s.r16 .cx ≠ 1 → p.2 = true → FetchesAt (s.ip + d.signExtend 16) t) ∧
        (s.r16 .cx = 1 ∨ p.2 = false → t.ip = s.ip ∧ t.queue = s.queue ∧ t.pc = s.pc)) ∧
    (s.r16 .cx = 0 → Completes (.jcxz d) s fun t => Jumped (s.ip + d.signExtend 16) s t ∧ t.lastEa = s.lastEa) ∧
    (s.r16 .cx ≠ 0 → exec (.jcxz d) s = .next s)

/-- Jcc, LOOP, LOOPZ, LOOPNZ, JCXZ. -/
def Obligations.ConditionalJumps : Prop :=
  Claim.ConditionalJump ∧ Claim.CountedJump

/-- JMP: relative, to a register or memory word, to a far pointer in the instruction or in memory; the register form of the
far jump, which U14 has a model refuse, takes `last_ea` for the offset of the pointer (log 18). -/
def Obligations.JumpForms : Prop :=
  ∀ s : State,
    (∀ d : Byte, Completes (.jmpJb d) s fun t => Jumped (s.ip + d.signExtend 16) s t ∧ t.lastEa = s.lastEa) ∧
    (∀ d : Word, Completes (.jmpJv d) s fun t => Jumped (s.ip + d) s t ∧ t.lastEa = s.lastEa) ∧
    (∀ rm, Completes (.jmpEv rm) s fun t => Jumped (rm.value s) s t ∧ t.lastEa = rm.ea s) ∧
    (∀ off sg, Completes (.jmpAp off sg) s fun t => JumpedFar sg off s t ∧ t.lastEa = s.lastEa) ∧
    (∀ m, ∀ i ∈ [Instr.jmpMpMod01 m, Instr.jmpMpMod2 m], Completes i s fun t =>
      JumpedFar (readFar (eaSeg m s) (eaOff m s) (s.setLastEa (eaOff m s))).2.1
        (readFar (eaSeg m s) (eaOff m s) (s.setLastEa (eaOff m s))).1 s t ∧ t.lastEa = eaOff m s) ∧
    (∀ r, Completes (.jmpMpMod3 r) s fun t =>
      JumpedFar (readFar (s.segOr .ds) s.lastEa s).2.1 (readFar (s.segOr .ds) s.lastEa s).1 s t ∧ t.lastEa = s.lastEa)

/-- What a near call leaves: the offset of the next instruction pushed, the stream at the target. -/
def Sys2Proof.Machine.Claim.CallNear : Prop :=
  ∀ s : State,
    (∀ d : Word, Completes (.callJv d) s fun t =>
      PushedWords [s.ip] s t ∧ FetchesAt (s.ip + d) t ∧ t.flags = s.flags ∧ t.lastEa = s.lastEa ∧ t.system = s.system) ∧
    (∀ rm, Completes (.callEv rm) s fun t =>
      PushedWords [s.ip] s t ∧ FetchesAt (rm.value s) t ∧ t.flags = s.flags ∧ t.lastEa = rm.ea s ∧ t.system = s.system)

/-- A far call: CS, then the offset of the next instruction pushed, CS and IP from the pointer. The register form, which U14 has a
model refuse, takes `last_ea` for the offset of the pointer (log 18). -/
def Sys2Proof.Machine.Claim.CallFar : Prop :=
  ∀ s : State,
    (∀ off sg, Completes (.callAp off sg) s fun t =>
      PushedWords [s.seg.cs, s.ip] s t ∧ FetchesAt off t ∧ t.flags = s.flags ∧ t.lastEa = s.lastEa ∧
      t.system = s.systemCs sg) ∧
    (∀ m, ∀ i ∈ [Instr.callMpMod01 m, Instr.callMpMod2 m], Completes i s fun t =>
      PushedWords [s.seg.cs, s.ip] s t ∧ FetchesAt (readFar (eaSeg m s) (eaOff m s) (s.setLastEa (eaOff m s))).1 t ∧
      t.flags = s.flags ∧ t.lastEa = eaOff m s ∧
      t.system = s.systemCs (readFar (eaSeg m s) (eaOff m s) (s.setLastEa (eaOff m s))).2.1) ∧
    (∀ r, Completes (.callMpMod3 r) s fun t =>
      PushedWords [s.seg.cs, s.ip] s t ∧ FetchesAt (readFar (s.segOr .ds) s.lastEa s).1 t ∧ t.flags = s.flags ∧
      t.lastEa = s.lastEa ∧ t.system = s.systemCs (readFar (s.segOr .ds) s.lastEa s).2.1)

/-- CALL, every form. -/
def Obligations.CallForms : Prop :=
  Claim.CallNear ∧ Claim.CallFar

/-- RET and RETF, with their duplicates and with bytes taken off the stack. The words come from the stack when they stand in
memory. -/
def Sys2Proof.Machine.Claim.Return : Prop :=
  ∀ (s : State) (k : Word),
    (∀ i, (k = 0 ∧ (i = Instr.ret ∨ i = Instr.retC1)) ∨ i = Instr.retIw k ∨ i = Instr.retIwC0 k → Completes i s fun t =>
      FetchesAt (topWord s) t ∧ t.r16 .sp = s.r16 .sp + 2 + k ∧ RegsKeptBut [.sp] s t ∧ MemKept s t ∧ t.flags = s.flags ∧
      t.lastEa = s.lastEa ∧ t.system = s.system) ∧
    (∀ i, (k = 0 ∧ (i = Instr.retf ∨ i = Instr.retfC9)) ∨ i = Instr.retfIw k ∨ i = Instr.retfIwC8 k → Completes i s fun t =>
      FetchesAt (topWord s) t ∧ t.r16 .sp = s.r16 .sp + 4 + k ∧ RegsKeptBut [.sp] s t ∧ MemKept s t ∧ t.flags = s.flags ∧
      t.lastEa = s.lastEa ∧ t.system = s.systemCs t.seg.cs ∧
      (s.wordInMemory s.seg.ss (s.r16 .sp + 2) → t.seg.cs = s.wordAt s.seg.ss (s.r16 .sp + 2)))

/-- IRET: IP, CS and FLAGS from the stack, the reserved flags pinned, the queue flushed. -/
def Sys2Proof.Machine.Claim.InterruptReturn : Prop :=
  ∀ s : State, Completes .iret s fun t =>
    FetchesAt (topWord s) t ∧ t.r16 .sp = s.r16 .sp + 6 ∧ RegsKeptBut [.sp] s t ∧ MemKept s t ∧ t.lastEa = s.lastEa ∧
    t.system = s.systemCs t.seg.cs ∧ flagsPinned t.flags = true ∧
    (s.wordInMemory s.seg.ss (s.r16 .sp + 2) → t.seg.cs = s.wordAt s.seg.ss (s.r16 .sp + 2)) ∧
    (s.wordInMemory s.seg.ss (s.r16 .sp + 4) → t.flags = (s.wordAt s.seg.ss (s.r16 .sp + 4) &&& 0x0FD5) ||| 0xF002)

/-- RET, RETF and IRET, every form. -/
def Obligations.ReturnForms : Prop :=
  Claim.Return ∧ Claim.InterruptReturn

/-- INT n, INT 3 and INTO with OF set take their interrupt; INTO with OF clear changes nothing. -/
def Sys2Proof.Machine.Claim.SoftwareInterrupt : Prop :=
  ∀ s : State,
    (∀ n : Byte, Completes (.intIb n) s fun t => Entered n s.ip s.flags s t ∧ t.lastEa = s.lastEa) ∧
    (Completes .int3 s fun t => Entered 3 s.ip s.flags s t ∧ t.lastEa = s.lastEa) ∧
    (flagOF s.flags = true → Completes .into s fun t => Entered 4 s.ip s.flags s t ∧ t.lastEa = s.lastEa) ∧
    (flagOF s.flags = false → exec .into s = .next s)

/-- The undefined opcodes of the V20/V30, `0F` with a second byte that has no instruction among them: INT 6 with the offset of
the instruction's first byte. A group form with a memory operand has set `last_ea` by then (log 24). The operand pair of the decoded
record (R262) is the one that the bytes encode, with the kinds of the opcode in the map: the operand of `mod` and `rm` with an
immediate, with the implicit count or alone; two registers, or one, where `mod` is 3 (that an undefined encoding has a pair: log 24). -/
def Sys2Proof.Machine.Claim.UndefinedOpcodeTrap : Prop :=
  (∀ i ∈ undefinedForms, ∀ s, Completes i s fun t => Entered 6 s.dec.startIp s.flags s t ∧ t.lastEa = s.lastEa) ∧
  (∀ i ∈ undefinedGroupForms, ∀ s, Completes i s fun t => Entered 6 s.dec.startIp s.flags s t ∧
    t.lastEa = (match s.dec.operands.first with
      | .addressingMode m => eaOff m s
      | _ => s.lastEa)) ∧
  (∀ p ∈ undefinedGroupCodes, ∀ (cpu : CpuModel) (rm : RMW) (imm : Byte) (tail rest bs : List Byte), cpu.isNec = true → rm.wf = true →
    p.1 &&& 1 = rm.wBit → tail = (if p.1 = 0xC0 ∨ p.1 = 0xC1 then imm :: rest else rest) → bs = p.1 :: (rm.enc p.2 ++ tail) →
    (∃ i ∈ undefinedGroupForms, decode cpu bs = .ok i rest) ∧
    undefinedOperands cpu bs = rm.pair (if p.1 = 0xC0 ∨ p.1 = 0xC1 then .immediate8 imm else if p.1 = 0xFE then .none else .implicit)) ∧
  (∀ (op : Byte) (r q : Reg16) (cpu : CpuModel) (rest bs : List Byte), cpu.isNec = true → op ∈ [0x62, 0x8D, 0xC4, 0xC5] →
    bs = op :: ((RM16.reg q).enc r.code ++ rest) → (∃ i ∈ undefinedForms, decode cpu bs = .ok i rest) ∧
    undefinedOperands cpu bs = { first := .register16 r, second := .register16 q, size := .operand16 }) ∧
  (∀ (n : BitVec 3) (q : Reg16) (cpu : CpuModel) (rest bs : List Byte), cpu.isNec = true → n ∈ [3, 5] →
    bs = 0xFF :: ((RM16.reg q).enc n ++ rest) → (∃ i ∈ undefinedForms, decode cpu bs = .ok i rest) ∧
    undefinedOperands cpu bs = { first := .register16 q, second := .none, size := .operand16 }) ∧
  (∀ (cpu : CpuModel) (bs : List Byte), cpu.isNec = false → undefinedOperands cpu bs = OperandPair.empty) ∧
  (∀ b s, Completes (.ext0F b) s fun t => Entered 6 s.dec.startIp s.flags s t ∧ t.lastEa = s.lastEa)

/-- The INT sequence, and the instructions that raise it: INT, INT 3, INTO, the undefined opcodes of the V20/V30. -/
def Obligations.InterruptInstructions : Prop :=
  Claim.InterruptSequence ∧ Claim.SoftwareInterrupt ∧ Claim.UndefinedOpcodeTrap

/-! ### Processor control (45_processor_control.md) -/

/-- CLC STC CLD STD CLI STI write one flag, CMC complements CF; STI sets the inhibit. -/
def Obligations.FlagInstructions : Prop :=
  (∀ p ∈ flagForms, ∀ s, Completes p.2.2 s fun t =>
    t.flags &&& p.1 = (if p.2.1 then p.1 else 0) ∧ FlagsKeptBut p.1 s t ∧ NothingWritten s t ∧ t.ip = s.ip ∧
    t.lastEa = s.lastEa ∧
    t.system = (if p.2.2 = .sti then { s.system with inhibit := true } else s.system)) ∧
  (∀ s, Completes .cmc s fun t =>
    flagCF t.flags = !flagCF s.flags ∧ FlagsKeptBut cfMask s t ∧ NothingWritten s t ∧ Ordinary s t ∧ t.lastEa = s.lastEa)

/-- HLT halts, with one Halt bus cycle, which the ticks that follow perform, unless a request of the EU that a tick has left pending
stands in its place (log 10), and fetching stops: a code fetch in T1 to T4 completes and none is left prepared. TEST is the input,
or the level that the parameter ties it to. WAIT with TEST active is done at once; with TEST inactive it ends with IP backed up when
an interrupt can be accepted, and else stays in the instruction. R528 backs up IP only: that WAIT flushes the queue as it does so,
which `FetchesAt` says, is the model's choice (log 31, DEDUCED; log 26). ESC reads the word of a memory operand and discards it,
and does nothing with a register. -/
def Obligations.HaltWaitEscape : Prop :=
  (∀ s, Completes .hlt s fun t => t.halted = true ∧ (∃ l, FetchesOnly l ∧ t.bus = .halt :: (l ++ s.bus)) ∧
    t.biu.fetchState = .halted ∧ t.biu.inFlight = 0 ∧ t.biu.prep ≠ .fetch ∧
    NothingWritten s t ∧ t.flags = s.flags ∧ t.ip = s.ip ∧ t.lastEa = s.lastEa ∧
    t.system = { s.system with halted := true,
                               latches := { s.biu.latches with pending := some (s.biu.pending.getD haltRequest) } }) ∧
  (∀ s : State, s.testActive = (match s.cfg.testPin with
    | .input => s.pins.test
    | .tied active => active)) ∧
  (∀ s, s.testActive = true → exec .wait s = .next (s.setLife .checkInterrupts)) ∧
  (∀ s, s.testActive = false → s.nmiLatch = true ∨ (s.pins.intr = true ∧ flagIF s.flags = true ∧ s.inhibit = false) →
    Completes .wait s fun t => FetchesAt s.dec.startIp t ∧ NothingWritten s t ∧ t.flags = s.flags ∧ t.lastEa = s.lastEa ∧
      t.system = { s.system with life := .checkInterrupts }) ∧
  (∀ s, s.testActive = false → s.nmiLatch = false → (s.pins.intr = false ∨ flagIF s.flags = false ∨ s.inhibit = true) →
    Completes .wait s fun t => t.life = .execute ∧ t.dec.instr = some .wait ∧ t.ip = s.ip ∧ NothingWritten s t ∧
      t.flags = s.flags ∧ t.lastEa = s.lastEa) ∧
  (∀ op ext m s g off, g = s.dec.segOverride.getD (defaultSeg m) → off = eaOff m s →
    Completes (.esc op ext (.mem m)) s fun t => NothingWritten s t ∧ t.flags = s.flags ∧ t.lastEa = off ∧ Ordinary s t ∧
      Shows (s.wordReads (accessOf g) (s.sreg g) off t.eaOpr) s t ∧
      (s.wordInMemory (s.sreg g) off → t.eaOpr = s.wordAt (s.sreg g) off)) ∧
  (∀ op ext r s, exec (.esc op ext (.reg r)) s = .next s)

/-- A prefix records what it stands for, the last of its class winning, and the instruction goes on with the next byte; LOCK
asserts the LOCK output. -/
def Obligations.PrefixesRecorded : Prop :=
  ∀ p ∈ prefixForms, ∀ s, Completes p.1 s fun t =>
    t.dec = { p.2 s.dec with lastPrefixIp := s.ip - 1 } ∧ t.life = .decodePrefix ∧
    t.lock = (if p.1 = .lock ∨ p.1 = .lockF1 then true else s.lock) ∧ NothingWritten s t ∧ t.flags = s.flags ∧
    t.ip = s.ip ∧ t.lastEa = s.lastEa ∧ t.seg = s.seg ∧ t.inhibit = s.inhibit ∧ t.halted = s.halted

/-! ### String instructions (43_string.md) -/

/-- The elements: the source is at SI of the override segment or DS, the destination at DI of ES; reading one writes nothing and
shows on the bus as a read of that segment. -/
def Sys2Proof.Machine.Claim.StringOperands : Prop :=
  ∀ (s : State) (g : SReg), g = s.dec.segOverride.getD .ds →
    (s.isMemory (lin (s.sreg g) (s.r16 .si)) → (readSrc8 s).1 = s.byteAt (lin (s.sreg g) (s.r16 .si))) ∧
    (s.wordInMemory (s.sreg g) (s.r16 .si) → (readSrc16 s).1 = s.wordAt (s.sreg g) (s.r16 .si)) ∧
    (s.isMemory (lin s.seg.es (s.r16 .di)) → (readDst8 s).1 = s.byteAt (lin s.seg.es (s.r16 .di))) ∧
    (s.wordInMemory s.seg.es (s.r16 .di) → (readDst16 s).1 = s.wordAt s.seg.es (s.r16 .di)) ∧
    Shows [.memRead (accessOf g) (lin (s.sreg g) (s.r16 .si)) false (zext16 (readSrc8 s).1)] s (readSrc8 s).2 ∧
    Shows [.memRead .es (lin s.seg.es (s.r16 .di)) false (zext16 (readDst8 s).1)] s (readDst8 s).2 ∧
    Shows (s.wordReads (accessOf g) (s.sreg g) (s.r16 .si) (readSrc16 s).1) s (readSrc16 s).2 ∧
    Shows (s.wordReads .es s.seg.es (s.r16 .di) (readDst16 s).1) s (readDst16 s).2 ∧
    (∀ t ∈ [(readSrc8 s).2, (readSrc16 s).2, (readDst8 s).2, (readDst16 s).2],
      NothingWritten s t ∧ t.flags = s.flags ∧ t.lastEa = s.lastEa ∧ Ordinary s t)

/-- MOVS, LODS and STOS without a REP prefix: one element, and the index registers step by its size, down when DF is set. -/
def Sys2Proof.Machine.Claim.StringMoves : Prop :=
  ∀ s : State, s.dec.rep = none →
    (Completes .movsb s fun t =>
      t.r16 .si = s.r16 .si + indexStep 1 s.flags ∧ t.r16 .di = s.r16 .di + indexStep 1 s.flags ∧
      RegsKeptBut [.si, .di] s t ∧ MemByte s.seg.es (s.r16 .di) (readSrc8 s).1 s t ∧ t.flags = s.flags ∧ t.ip = s.ip ∧
      t.lastEa = s.lastEa ∧ t.system = s.systemString ∧
      Shows [.memWrite .es (lin s.seg.es (s.r16 .di)) false (zext16 (readSrc8 s).1)] (readSrc8 s).2 t) ∧
    (Completes .movsw s fun t =>
      t.r16 .si = s.r16 .si + indexStep 2 s.flags ∧ t.r16 .di = s.r16 .di + indexStep 2 s.flags ∧
      RegsKeptBut [.si, .di] s t ∧ MemWord s.seg.es (s.r16 .di) (readSrc16 s).1 s t ∧ t.flags = s.flags ∧ t.ip = s.ip ∧
      t.lastEa = s.lastEa ∧ t.system = s.systemString ∧
      Shows (s.wordWrites .es s.seg.es (s.r16 .di) (readSrc16 s).1) (readSrc16 s).2 t) ∧
    (Completes .lodsb s fun t =>
      t.r16 .si = s.r16 .si + indexStep 1 s.flags ∧ t.r8 .al = (readSrc8 s).1 ∧ t.r8 .ah = s.r8 .ah ∧
      RegsKeptBut [.si, .ax] s t ∧ MemKept s t ∧ t.flags = s.flags ∧ t.ip = s.ip ∧ t.lastEa = s.lastEa ∧
      t.system = s.systemString ∧
      Shows [] (readSrc8 s).2 t) ∧
    (Completes .lodsw s fun t =>
      t.r16 .si = s.r16 .si + indexStep 2 s.flags ∧ t.r16 .ax = (readSrc16 s).1 ∧
      RegsKeptBut [.si, .ax] s t ∧ MemKept s t ∧ t.flags = s.flags ∧ t.ip = s.ip ∧ t.lastEa = s.lastEa ∧
      t.system = s.systemString ∧
      Shows [] (readSrc16 s).2 t) ∧
    (Completes .stosb s fun t =>
      t.r16 .di = s.r16 .di + indexStep 1 s.flags ∧ RegsKeptBut [.di] s t ∧
      MemByte s.seg.es (s.r16 .di) (s.r8 .al) s t ∧ t.flags = s.flags ∧ t.ip = s.ip ∧ t.lastEa = s.lastEa ∧
      t.system = s.systemString ∧
      Shows [.memWrite .es (lin s.seg.es (s.r16 .di)) false (zext16 (s.r8 .al))] s t) ∧
    (Completes .stosw s fun t =>
      t.r16 .di = s.r16 .di + indexStep 2 s.flags ∧ RegsKeptBut [.di] s t ∧
      MemWord s.seg.es (s.r16 .di) (s.r16 .ax) s t ∧ t.flags = s.flags ∧ t.ip = s.ip ∧ t.lastEa = s.lastEa ∧
      t.system = s.systemString ∧
      Shows (s.wordWrites .es s.seg.es (s.r16 .di) (s.r16 .ax)) s t)

/-- CMPS and SCAS without a REP prefix: the flags of source minus destination, or of accumulator minus destination; nothing is
written but the index registers. -/
def Sys2Proof.Machine.Claim.StringCompares : Prop :=
  ∀ s : State, s.dec.rep = none →
    (Completes .cmpsb s fun t =>
      t.r16 .si = s.r16 .si + indexStep 1 s.flags ∧ t.r16 .di = s.r16 .di + indexStep 1 s.flags ∧
      RegsKeptBut [.si, .di] s t ∧ MemKept s t ∧ t.ip = s.ip ∧ t.lastEa = s.lastEa ∧ t.system = s.systemString ∧
      t.flags = putFlags statusMask (subStatus (readSrc8 s).1 (readDst8 (readSrc8 s).2).1 false) s.flags ∧
      Shows [] (readDst8 (readSrc8 s).2).2 t) ∧
    (Completes .cmpsw s fun t =>
      t.r16 .si = s.r16 .si + indexStep 2 s.flags ∧ t.r16 .di = s.r16 .di + indexStep 2 s.flags ∧
      RegsKeptBut [.si, .di] s t ∧ MemKept s t ∧ t.ip = s.ip ∧ t.lastEa = s.lastEa ∧ t.system = s.systemString ∧
      t.flags = putFlags statusMask (subStatus (readSrc16 s).1 (readDst16 (readSrc16 s).2).1 false) s.flags ∧
      Shows [] (readDst16 (readSrc16 s).2).2 t) ∧
    (Completes .scasb s fun t =>
      t.r16 .di = s.r16 .di + indexStep 1 s.flags ∧ RegsKeptBut [.di] s t ∧ MemKept s t ∧ t.ip = s.ip ∧
      t.lastEa = s.lastEa ∧ t.system = s.systemString ∧
      t.flags = putFlags statusMask (subStatus (s.r8 .al) (readDst8 s).1 false) s.flags ∧
      Shows [] (readDst8 s).2 t) ∧
    (Completes .scasw s fun t =>
      t.r16 .di = s.r16 .di + indexStep 2 s.flags ∧ RegsKeptBut [.di] s t ∧ MemKept s t ∧ t.ip = s.ip ∧
      t.lastEa = s.lastEa ∧ t.system = s.systemString ∧
      t.flags = putFlags statusMask (subStatus (s.r16 .ax) (readDst16 s).1 false) s.flags ∧
      Shows [] (readDst16 s).2 t)

/-- INS and OUTS of the V20/V30 without a REP prefix: INS stores what the port DX answers, a word the answers of DX and DX + 1, low
byte first; OUTS writes the element to those ports. That a port answers with the next byte the environment has queued is log 6. -/
def Sys2Proof.Machine.Claim.StringInputOutput : Prop :=
  ∀ s : State, s.dec.rep = none →
    (Completes .insb s fun t =>
      t.r16 .di = s.r16 .di + indexStep 1 s.flags ∧ RegsKeptBut [.di] s t ∧
      MemByte s.seg.es (s.r16 .di) (ioReadByte (s.r16 .dx) s).1 s t ∧ t.flags = s.flags ∧ t.ip = s.ip ∧
      t.lastEa = s.lastEa ∧ t.system = s.systemString ∧
      Shows [.memWrite .es (lin s.seg.es (s.r16 .di)) false (zext16 (ioReadByte (s.r16 .dx) s).1),
        .ioRead (s.r16 .dx) (ioReadByte (s.r16 .dx) s).1] s t ∧
      (∀ a rest, s.devIn = a :: rest → (ioReadByte (s.r16 .dx) s).1 = a ∧ t.devIn = rest)) ∧
    (Completes .insw s fun t =>
      t.r16 .di = s.r16 .di + indexStep 2 s.flags ∧ RegsKeptBut [.di] s t ∧
      MemWord s.seg.es (s.r16 .di) (ioReadWord (s.r16 .dx) s).1 s t ∧ t.flags = s.flags ∧ t.ip = s.ip ∧
      t.lastEa = s.lastEa ∧ t.system = s.systemString ∧
      Shows (s.wordWrites .es s.seg.es (s.r16 .di) (ioReadWord (s.r16 .dx) s).1 ++
        [.ioRead (s.r16 .dx + 1) (hiByte (ioReadWord (s.r16 .dx) s).1), .ioRead (s.r16 .dx) (loByte (ioReadWord (s.r16 .dx) s).1)]) s t ∧
      (∀ a b rest, s.devIn = a :: b :: rest → (ioReadWord (s.r16 .dx) s).1 = wordOf a b ∧ t.devIn = rest)) ∧
    (Completes .outsb s fun t =>
      t.r16 .si = s.r16 .si + indexStep 1 s.flags ∧ RegsKeptBut [.si] s t ∧ MemKept s t ∧ t.flags = s.flags ∧
      t.ip = s.ip ∧ t.lastEa = s.lastEa ∧ t.system = s.systemString ∧
      Shows [.ioWrite (s.r16 .dx) (readSrc8 s).1] (readSrc8 s).2 t) ∧
    (Completes .outsw s fun t =>
      t.r16 .si = s.r16 .si + indexStep 2 s.flags ∧ RegsKeptBut [.si] s t ∧ MemKept s t ∧ t.flags = s.flags ∧
      t.ip = s.ip ∧ t.lastEa = s.lastEa ∧ t.system = s.systemString ∧
      Shows [.ioWrite (s.r16 .dx + 1) (hiByte (readSrc16 s).1), .ioWrite (s.r16 .dx) (loByte (readSrc16 s).1)]
        (readSrc16 s).2 t)

/-- MOVS CMPS SCAS LODS STOS INS OUTS without a REP prefix. -/
def Obligations.StringElements : Prop :=
  Claim.StringOperands ∧ Claim.StringMoves ∧ Claim.StringCompares ∧ Claim.StringInputOutput

/-- A repetition whose count is zero at the start changes nothing and ends. -/
def Sys2Proof.Machine.Claim.RepetitionOfNone : Prop :=
  ∀ p ∈ stringForms, ∀ s, s.dec.rep ≠ none → s.r16 .cx = 0 → Completes p.1 s fun t =>
    NothingWritten s t ∧ t.flags = s.flags ∧ t.ip = s.ip ∧ t.lastEa = s.lastEa ∧ t.bus = s.bus ∧ t.system = s.systemString

/-- One iteration of a repetition: an element and its bus operations, CX down by one; then the repetition ends by its flag test
(CMPS and SCAS: REPE on ZF clear, REPNE on ZF set, REPNC on CF set, REPC on CF clear) or by CX, or an acceptable interrupt backs IP
up to the prefix, or the next iteration follows. R441 sets IP only, and R118 lists the restart among the flushes: that the queue is
emptied as IP is backed up, which `FetchesAt` says, is the model's choice (log 31, DEDUCED). Under `REP_TF_PER_ITERATION` a trap is
as good as an interrupt, in where it backs IP up to (log 45, the model's choice); the prefix is the first one, or the last one under
`REP_RESUME_AT_LAST_PREFIX`; on the V20/V30 it is either (R597, log 17). -/
def Sys2Proof.Machine.Claim.Repetition : Prop :=
  ∀ p ∈ stringForms, ∀ (s u : State) (k : RepKind) (stops accept : Bool), s.dec.rep = some k → s.r16 .cx ≠ 0 →
    u = p.2.2 s →
    stops = (p.2.1 && (match k with
      | .rep => false
      | .repe => !flagZF u.flags
      | .repne => flagZF u.flags
      | .repnc => flagCF u.flags
      | .repc => !flagCF u.flags)) →
    accept = (s.nmiLatch || (s.pins.intr && flagIF s.flags && !s.inhibit) ||
      (s.cfg.repTfPerIteration && s.dec.tfAtStart)) →
    Completes p.1 s fun t =>
      t.r16 .cx = s.r16 .cx - 1 ∧ (∀ r, r ≠ .cx → t.r16 r = u.r16 r) ∧ MemKept u t ∧ t.flags = u.flags ∧
      t.lastEa = s.lastEa ∧ t.seg = s.seg ∧ Shows [] u t ∧
      (stops = true ∨ s.r16 .cx = 1 → t.system = s.systemString ∧ t.ip = s.ip) ∧
      (stops = false → s.r16 .cx ≠ 1 → accept = true → t.system = s.systemString ∧
        ∃ last : Bool, (s.cfg.cpu.isNec = false → last = s.cfg.repResumeAtLastPrefix) ∧
          FetchesAt (if last then s.dec.lastPrefixIp else s.dec.startIp) t) ∧
      (stops = false → s.r16 .cx ≠ 1 → accept = false →
        t.life = .execute ∧ t.ip = s.ip ∧ t.dec = { s.dec with inRep := true, instr := some p.1 })

/-- The string instructions under a REP prefix. -/
def Obligations.RepeatedStrings : Prop :=
  Claim.RepetitionOfNone ∧ Claim.Repetition

/-! ### The V20/V30 additions (47_v20_v30_extensions.md) -/

/-- PUSHA pushes the eight registers, SP as it was before. -/
def Sys2Proof.Machine.Claim.PushAll : Prop :=
  ∀ s : State, Completes .pusha s fun t =>
    PushedWords [s.r16 .ax, s.r16 .cx, s.r16 .dx, s.r16 .bx, s.r16 .sp, s.r16 .bp, s.r16 .si, s.r16 .di] s t ∧
    t.flags = s.flags ∧ t.lastEa = s.lastEa ∧ Ordinary s t

/-- POPA pops seven registers and discards the image of SP. -/
def Sys2Proof.Machine.Claim.PopAll : Prop :=
  ∀ s : State, Completes .popa s fun t =>
    t.r16 .sp = s.r16 .sp + 16 ∧ MemKept s t ∧ t.flags = s.flags ∧ t.lastEa = s.lastEa ∧ Ordinary s t ∧
    ∀ p ∈ [(0, Reg16.di), (2, Reg16.si), (4, Reg16.bp), (8, Reg16.bx), (10, Reg16.dx), (12, Reg16.cx), (14, Reg16.ax)],
      s.wordInMemory s.seg.ss (s.r16 .sp + BitVec.ofNat 16 p.1) →
      t.r16 p.2 = s.wordAt s.seg.ss (s.r16 .sp + BitVec.ofNat 16 p.1)

/-- PUSHA and POPA. -/
def Obligations.PushPopAll : Prop :=
  Claim.PushAll ∧ Claim.PopAll

/-- BOUND: INT 5 when the register, signed, is below the first or above the second word; the pushed offset is the start of the
instruction, or the next one under `BOUND_RETURN_IP`. Inside the bounds nothing changes but `last_ea`. -/
def Obligations.BoundCheck : Prop :=
  ∀ (r : Reg16) (m : Mem) (s : State) (lo hi : Word), ∀ i ∈ [Instr.boundMod01 r m, Instr.boundMod2 r m],
    lo = (readFar (eaSeg m s) (eaOff m s) (s.setLastEa (eaOff m s))).1 →
    hi = (readFar (eaSeg m s) (eaOff m s) (s.setLastEa (eaOff m s))).2.1 →
    ((s.r16 r).toInt < lo.toInt ∨ hi.toInt < (s.r16 r).toInt → Completes i s fun t =>
      Entered 5 (if s.cfg.boundReturnsNext then s.ip else s.dec.startIp) s.flags s t ∧ t.lastEa = eaOff m s) ∧
    (lo.toInt ≤ (s.r16 r).toInt → (s.r16 r).toInt ≤ hi.toInt → Completes i s fun t =>
      NothingWritten s t ∧ t.flags = s.flags ∧ t.lastEa = eaOff m s ∧ Ordinary s t)

/-- ENTER at nesting level `n` (the level modulo 32): BP pushed, `n - 1` outer frame pointers and the new one pushed for
`n ≥ 1`, BP at the new frame, SP below it by the words pushed and the size. R592 lets a model refuse levels above 0: running them
is log 32. LEAVE undoes it: SP from BP, BP popped. -/
def Obligations.StackFrames : Prop :=
  (∀ (size : Word) (level : Byte) (s : State) (n : Nat), n = level.toNat % 32 → Completes (.enter size level) s fun t =>
    t.r16 .bp = s.r16 .sp - 2 ∧ t.r16 .sp = s.r16 .sp - BitVec.ofNat 16 (2 * (n + 1)) - size ∧
    RegsKeptBut [.sp, .bp] s t ∧ MemKeptBut (stackBytes s (n + 1)) s t ∧ t.flags = s.flags ∧ t.lastEa = s.lastEa ∧
    Ordinary s t ∧
    ∃ copies : List Word, copies.length = n - 1 ∧
      PushedWords (s.r16 .bp :: copies ++ if n = 0 then [] else [s.r16 .sp - 2]) s
        ((t.setR16 .sp (t.r16 .sp + size)).setR16 .bp (s.r16 .bp)) ∧
      ∀ k v, copies[k]? = some v → Memory.wf s.mem = true →
        s.wordInMemory s.seg.ss (s.r16 .bp - BitVec.ofNat 16 (2 * (k + 1))) →
        (∀ j ≤ k, ∀ a ∈ [lin s.seg.ss (s.r16 .bp - BitVec.ofNat 16 (2 * (k + 1))),
                         lin s.seg.ss (s.r16 .bp - BitVec.ofNat 16 (2 * (k + 1)) + 1)],
          a ≠ lin s.seg.ss (stackSlot s j) ∧ a ≠ lin s.seg.ss (stackSlot s j + 1)) →
        v = s.wordAt s.seg.ss (s.r16 .bp - BitVec.ofNat 16 (2 * (k + 1)))) ∧
  (∀ s : State, Completes .leave s fun t =>
    t.r16 .sp = s.r16 .bp + 2 ∧ (s.wordInMemory s.seg.ss (s.r16 .bp) → t.r16 .bp = s.wordAt s.seg.ss (s.r16 .bp)) ∧
    RegsKeptBut [.sp, .bp] s t ∧ MemKept s t ∧ t.flags = s.flags ∧ t.lastEa = s.lastEa ∧ Ordinary s t)

/-- ADD4S, SUB4S and CMP4S run on any operands: no register changes, only the `(CL + 1) / 2` bytes of the destination, and of
the flags only the status flags; CMP4S writes no byte. -/
def Sys2Proof.Machine.Claim.DecimalStrings : Prop :=
  ∀ s : State,
    (∀ i ∈ [Instr.add4s, Instr.sub4s], Completes i s fun t =>
      t.gpr = s.gpr ∧ FlagsKeptBut statusMask s t ∧ t.lastEa = s.lastEa ∧ Ordinary s t ∧
      MemKeptBut ((List.range (((s.r8 .cl).toNat + 1) / 2)).map fun k =>
        lin s.seg.es (s.r16 .di + BitVec.ofNat 16 k)) s t) ∧
    (Completes .cmp4s s fun t =>
      NothingWritten s t ∧ FlagsKeptBut statusMask s t ∧ t.lastEa = s.lastEa ∧ Ordinary s t)

/-- One byte of two decimal digits of ADD4S and SUB4S, with carry or borrow. -/
def Sys2Proof.Machine.Claim.DecimalByte : Prop :=
  ∀ (d a : Byte) (c : Bool), d.toNat % 16 ≤ 9 → d.toNat / 16 ≤ 9 → a.toNat % 16 ≤ 9 → a.toNat / 16 ≤ 9 →
    (∃ r, bcdByte .add d a c = some r ∧ r.1.toNat % 16 ≤ 9 ∧ r.1.toNat / 16 ≤ 9 ∧
      r.1.toNat / 16 * 10 + r.1.toNat % 16 + 100 * bitNat r.2 =
        d.toNat / 16 * 10 + d.toNat % 16 + (a.toNat / 16 * 10 + a.toNat % 16) + bitNat c) ∧
    (∃ r, bcdByte .sub d a c = some r ∧ bcdByte .cmp d a c = some r ∧ r.1.toNat % 16 ≤ 9 ∧ r.1.toNat / 16 ≤ 9 ∧
      r.1.toNat / 16 * 10 + r.1.toNat % 16 + (a.toNat / 16 * 10 + a.toNat % 16) + bitNat c =
        d.toNat / 16 * 10 + d.toNat % 16 + 100 * bitNat r.2)

/-- The digits of the whole string, CF and ZF: over `n` decimal digits ADD4S gives destination plus source, SUB4S destination minus
source, modulo 10^n, and for an even `n` CF is the carry or borrow and ZF says that the result is zero; CMP4S gives the flags of
SUB4S. For an odd `n` the high digit of the last byte and CF are free, and ZF takes that digit in (log 20). Stated for operands of
decimal digits in memory, a destination in RAM, and no byte of the destination overwritten before it is read as a source byte. -/
def Sys2Proof.Machine.Claim.DecimalDigits : Prop :=
  ∀ (s : State) (n m d a : Nat) (sv : Word), n = (s.r8 .cl).toNat → 0 < n → m = (n + 1) / 2 →
    sv = s.sreg (s.dec.segOverride.getD .ds) →
    d = s.digits s.seg.es (s.r16 .di) n → a = s.digits sv (s.r16 .si) n → Memory.wf s.mem = true →
    (∀ k < n, s.digit s.seg.es (s.r16 .di) k ≤ 9 ∧ s.digit sv (s.r16 .si) k ≤ 9) →
    (∀ k < m, s.isRam (lin s.seg.es (s.r16 .di + BitVec.ofNat 16 k)) ∧
      s.isMemory (lin sv (s.r16 .si + BitVec.ofNat 16 k))) →
    ((∀ k < m, ∀ j < k, lin sv (s.r16 .si + BitVec.ofNat 16 k) ≠ lin s.seg.es (s.r16 .di + BitVec.ofNat 16 j)) →
      (Completes .add4s s fun t => t.digits s.seg.es (s.r16 .di) n = (d + a) % 10 ^ n ∧
        (n % 2 = 0 → flagCF t.flags = decide (10 ^ n ≤ d + a) ∧ flagZF t.flags = decide ((d + a) % 10 ^ n = 0)) ∧
        (flagZF t.flags = true → (d + a) % 10 ^ n = 0)) ∧
      (Completes .sub4s s fun t => t.digits s.seg.es (s.r16 .di) n = (d + 10 ^ n - a) % 10 ^ n ∧
        (n % 2 = 0 → flagCF t.flags = decide (d < a) ∧ flagZF t.flags = decide (d = a)) ∧
        (flagZF t.flags = true → d = a))) ∧
    (Completes .cmp4s s fun t =>
      (n % 2 = 0 → flagCF t.flags = decide (d < a) ∧ flagZF t.flags = decide (d = a)) ∧ (flagZF t.flags = true → d = a))

/-- ADD4S SUB4S CMP4S. -/
def Obligations.DecimalStringOperations : Prop :=
  Claim.DecimalStrings ∧ Claim.DecimalByte ∧ Claim.DecimalDigits

/-! ### The encodings that the spec has a model refuse -/

/-- `FE /2` to `FE /7` on the 8088/8086. -/
def Sys2Proof.Machine.Claim.RefusedByteForms : Prop := ∀ i ∈ byteGroup5Forms, ∀ s, exec i s = .refused .byteFormOfGroup5

/-- The `0F` opcodes of R595 on the V20/V30. -/
def Sys2Proof.Machine.Claim.RefusedNecOpcodes : Prop := ∀ i ∈ necOnlyForms, ∀ s, exec i s = .refused .necOnlyOpcode

/-- The encodings that the spec has a model refuse. -/
def Obligations.RefusedEncodings : Prop :=
  Claim.RefusedByteForms ∧ Claim.RefusedNecOpcodes

/-! ### The bus interface unit, tick by tick (22_biu_tstate_engine.md, 23_dma_refresh_scheduler.md) -/

/-- The T-states of a bus cycle: T1, T2, T3, Tw while a wait counter runs, T4, then T1 of the next cycle or Ti. At T3 the wait
count of the access is loaded, and not drained in that tick: T4 follows when it is zero and the other counters have run out. The
count is 0 at an unmapped address, and else what the tables of the platform say for the address, with what the bus adds at that
instant (log 42). -/
def Obligations.NextTState : Prop :=
  ∀ (a : EuAct) (inp : BusIn) (s : State),
    (s.biu.tState = .tinit → (tick a inp s).biu.tState = .tinit ∨ (tick a inp s).biu.tState = .t1) ∧
    (s.biu.tState = .ti → (tick a inp s).biu.tState = .ti ∨ (tick a inp s).biu.tState = .t1) ∧
    (s.biu.tState = .t1 → (tick a inp s).biu.tState = .t2) ∧ (s.biu.tState = .t2 → (tick a inp s).biu.tState = .t3) ∧
    (s.biu.tState = .t3 → (tick a inp s).biu.tState =
      (if (if s.biu.busState = .codeFetch ∨ s.biu.busState = .memRead ∨ s.biu.busState = .memWrite then s.waitCount inp = 0
            else s.biu.busWait ≤ 1) ∧
          (if s.biu.busState = .ioRead ∨ s.biu.busState = .ioWrite then s.waitCount inp = 0
            else s.biu.ioWait ≤ (if s.dma.st.holds then 0 else 1)) ∧
          s.biu.dmaWait ≤ 1 then .t4 else .tw)) ∧
    (s.biu.busState = .codeFetch ∨ s.biu.busState = .memRead → s.waitCount inp =
      (if s.kindAt s.biu.address = .unmapped then 0 else waitIn s.cfg.readWait s.biu.address.toNat + inp.wait)) ∧
    (s.biu.busState = .memWrite → s.waitCount inp =
      (if s.kindAt s.biu.address = .unmapped then 0 else waitIn s.cfg.writeWait s.biu.address.toNat + inp.wait)) ∧
    (s.biu.busState = .ioRead → s.waitCount inp = inp.wait) ∧
    (s.biu.busState = .ioWrite → s.waitCount inp = waitIn s.cfg.ioWriteWait s.biu.address.toNat + inp.wait) ∧
    (s.biu.tState = .tw → (tick a inp s).biu.tState =
      (if s.biu.busWait ≤ 1 ∧ s.biu.ioWait ≤ (if s.dma.st.holds then 0 else 1) ∧ s.biu.dmaWait ≤ 1 then .t4 else .tw)) ∧
    (s.biu.tState = .t4 → (tick a inp s).biu.tState = .t1 ∨ (tick a inp s).biu.tState = .ti) ∧
    ((tick a inp s).biu.tState = .t1 → (tick a inp s).biu.ta = .td ∧ s.biu.ta = .t0 ∧ s.dma.st.holds = false)

/-- The command lines of a tick, as its record shows them: the bus state of the cycle decides which, T2 to Tw when, and a held
bus has none; ALE is T1. -/
def Obligations.CommandLines : Prop :=
  ∀ (a : EuAct) (inp : BusIn) (s : State), ∃ r, (tick a inp s).record = some r ∧
    r.number = s.cycles ∧ (tick a inp s).cycles = s.cycles + 1 ∧ r.tState = s.biu.tState ∧
    (r.ale = true ↔ r.tState = .t1) ∧
    (r.commands.mrdc = true ↔ s.dma.st.holds = false ∧ (r.tState = .t2 ∨ r.tState = .t3 ∨ r.tState = .tw) ∧
      (r.busState = .codeFetch ∨ r.busState = .memRead)) ∧
    (r.commands.iorc = true ↔ s.dma.st.holds = false ∧ (r.tState = .t2 ∨ r.tState = .t3 ∨ r.tState = .tw) ∧
      r.busState = .ioRead) ∧
    (r.commands.amwc = true ↔ s.dma.st.holds = false ∧ (r.tState = .t2 ∨ r.tState = .t3 ∨ r.tState = .tw) ∧
      r.busState = .memWrite) ∧
    (r.commands.aiowc = true ↔ s.dma.st.holds = false ∧ (r.tState = .t2 ∨ r.tState = .t3 ∨ r.tState = .tw) ∧
      r.busState = .ioWrite) ∧
    (r.commands.mwtc = true ↔ s.dma.st.holds = false ∧ (r.tState = .t3 ∨ r.tState = .tw) ∧ r.busState = .memWrite) ∧
    (r.commands.iowc = true ↔ s.dma.st.holds = false ∧ (r.tState = .t3 ∨ r.tState = .tw) ∧ r.busState = .ioWrite) ∧
    (r.commands.inta = true ↔ s.dma.st.holds = false ∧ (r.tState = .t2 ∨ r.tState = .t3 ∨ r.tState = .tw) ∧
      r.busState = .interruptAck)

/-- The refresh scheduler: the countdown reloads every `REFRESH_PERIOD` ticks and starts a request; a granted hold lasts
`DMA_OPERATING_STEPS` ticks and loads the DMA wait states as it begins. A hold is granted in a tick whose record shows the bus
passive or in T3, Tw or T4, with LOCK clear. That a countdown of 0 expires like one of 1 is log 39. -/
def Obligations.RefreshScheduler : Prop :=
  ∀ (a : EuAct) (inp : BusIn) (s : State),
    (s.dma.refreshCtr ≤ 1 → (tick a inp s).dma.refreshCtr = s.cfg.refreshPeriod ∧
      (s.dma.st = .idle → (tick a inp s).dma.st = .dreq)) ∧
    (1 < s.dma.refreshCtr → (tick a inp s).dma.refreshCtr = s.dma.refreshCtr - 1 ∧
      (s.dma.st = .idle → (tick a inp s).dma.st = .idle)) ∧
    (s.dma.st = .dreq → (tick a inp s).dma.st = .hrq) ∧ (s.dma.st = .hrq → (tick a inp s).dma.st = .holdA) ∧
    (s.dma.st = .holdA → ∃ r, (tick a inp s).record = some r ∧
      (if (tick a inp s).lock = false ∧
          (r.busState = .passive ∨ r.tState = .t3 ∨ r.tState = .tw ∨ r.tState = .t4) then
        (tick a inp s).dma.st = .operating 0 ∧ (tick a inp s).biu.dmaWait = s.cfg.dmaWaitStates
      else (tick a inp s).dma.st = .holdA)) ∧
    (∀ n, s.dma.st = .operating n →
      (tick a inp s).dma.st = (if n + 1 < s.cfg.dmaOperatingSteps then .operating (n + 1) else .ending)) ∧
    (s.dma.st = .ending → (tick a inp s).dma.st = .idle)

/-- A bus cycle begins: its T1 latches bus state, access type and address (R141). A code fetch is at CS:PC, of a word on a 16-bit bus at
an even PC (R150), CS and PC as a flush of that tick leaves them. A transfer for the EU is at the segment and offset it has asked for, the
second of two cycles at the next offset, with the high byte; it is two cycles for a word of memory that one cycle cannot move, a word of
I/O, an interrupt acknowledge (R149, R157, 20_memory.md R82, R83). The second is prepared from the T1 of the first on. -/
def Sys2Proof.Machine.Claim.CycleBegins : Prop :=
  ∀ (a : EuAct) (inp : BusIn) (s t : State), t = tick a inp s →
    (t.biu.tState = .t1 → t.biu.prep = s.biu.prep) ∧
    (s.biu.ta = .td → t.biu.pending ≠ none → t.biu.ta = .tr ∧ t.biu.prep = .eu) ∧
    (s.biu.tState = .t1 → s.biu.prep = .fetch →
      t.biu.busState = .codeFetch ∧ t.biu.access = .cs ∧ t.biu.address = lin t.seg.cs t.pc ∧
      ∃ c, t.biu.cycle = some c ∧ c.discard = false ∧ (c.wide = true ↔ s.cfg.busWidth = .word ∧ t.pc.toNat % 2 = 0)) ∧
    (∀ r, s.biu.tState = .t1 → s.biu.prep = .eu → s.biu.pending = some r → ∀ (second two : Bool) (off : Word),
      second = s.biu.cycle.any (fun c => c.more) → off = (if second then r.off + 1 else r.off) →
      two = (r.kind == .interruptAck ||
        r.wide && (r.kind == .ioRead || r.kind == .ioWrite || r.onMemory && !s.oneCycle (lin r.seg r.off))) →
      (r.kind = .memRead → t.biu.busState = .memRead ∧ t.biu.access = r.access ∧ t.biu.address = lin r.seg off) ∧
      (r.kind = .memWrite → t.biu.busState = .memWrite ∧ t.biu.access = r.access ∧ t.biu.address = lin r.seg off) ∧
      (r.kind = .ioRead → t.biu.busState = .ioRead ∧ t.biu.access = .none ∧ t.biu.address = off.setWidth 20) ∧
      (r.kind = .ioWrite → t.biu.busState = .ioWrite ∧ t.biu.access = .none ∧ t.biu.address = off.setWidth 20) ∧
      (r.kind = .interruptAck → t.biu.busState = .interruptAck ∧ t.biu.access = .none ∧ t.lock = !second) ∧
      (r.kind = .halt → t.biu.busState = .halt ∧ t.biu.access = .none ∧ t.halted = true) ∧
      t.biu.pending = (if two && !second then some r else none) ∧
      ∃ c, t.biu.cycle = some c ∧ c.second = second ∧ c.more = (two && !second) ∧ c.last = (r.last && !c.more) ∧
        c.discard = false ∧ c.wide = (r.onMemory && r.wide && !two) ∧
        c.data = (if c.wide then r.data else (if second then hiByte r.data else loByte r.data).setWidth 16))

/-- The data transfer of a memory cycle or a code fetch (R142, R144): T2 of a write drives its data; the T3 or Tw tick that gives T4
stores them at the latched address, and no other byte; that tick of a read or a code fetch puts the bytes at the latched address on
the data bus (a single one in its low half; for a code fetch at an odd address of the 16-bit bus the word that holds it, R113, log
44), and T4 of a read delivers them to the EU, a second byte above the first. What a device answers is an input of the tick (log 6).
No action of the EU changes that: in a memory cycle it is stalled (R149). -/
def Sys2Proof.Machine.Claim.TickTransfersData : Prop :=
  ∀ (a : EuAct) (inp : BusIn) (s : State) (c : BusCycle), s.biu.cycle = some c →
    (s.biu.tState = .t2 → s.biu.busState = .memWrite → (tick a inp s).biu.dataBus = c.data) ∧
    (s.biu.tState = .t3 ∨ s.biu.tState = .tw → s.biu.busState = .memWrite → (tick a inp s).biu.tState = .t4 →
      MemKeptBut (if c.wide then [s.biu.address, s.biu.address + 1] else [s.biu.address]) s (tick a inp s) ∧
      (Memory.wf s.mem = true → s.isRam s.biu.address → (tick a inp s).byteAt s.biu.address = loByte c.data) ∧
      (Memory.wf s.mem = true → c.wide = true → s.isRam (s.biu.address + 1) →
        (tick a inp s).byteAt (s.biu.address + 1) = hiByte c.data) ∧
      (tick a inp s).bus = .memWrite s.biu.access s.biu.address c.wide c.data :: s.bus) ∧
    (s.biu.tState = .t3 ∨ s.biu.tState = .tw → s.biu.busState = .memRead ∨ s.biu.busState = .codeFetch →
        (tick a inp s).biu.tState = .t4 →
      (c.wide = true → (tick a inp s).biu.dataBus =
        wordOf (s.answer s.biu.address (loByte inp.data)) (s.answer (s.biu.address + 1) (hiByte inp.data))) ∧
      (s.bringsHighByte c → (tick a inp s).biu.dataBus =
        wordOf (s.answer (s.biu.address - 1) (loByte inp.data)) (s.answer s.biu.address (hiByte inp.data))) ∧
      (c.wide = false → ¬ s.bringsHighByte c → (tick a inp s).biu.dataBus =
        (s.answer s.biu.address (loByte inp.data)).setWidth 16) ∧
      (tick a inp s).bus =
        (if s.biu.busState = .memRead then .memRead s.biu.access s.biu.address c.wide (tick a inp s).biu.dataBus
          else .codeFetch s.biu.address c.wide (tick a inp s).biu.dataBus) :: s.bus) ∧
    (s.biu.tState = .t3 ∨ s.biu.tState = .tw → (tick a inp s).biu.tState = .tw →
      MemKept s (tick a inp s)) ∧
    (s.biu.tState = .t4 → s.biu.busState = .memRead →
      (tick a inp s).biu.euData =
        (if c.second then wordOf (loByte s.biu.euData) (loByte s.biu.dataBus) else s.biu.dataBus) ∧
      (tick a inp s).biu.euReady = !c.more) ∧
    (s.biu.tState = .t4 → s.biu.busState = .memWrite → (tick a inp s).biu.euReady = !c.more)

/-- The transfer of a port or an interrupt-acknowledge cycle: the call of an I/O read is made in T3, whatever waits follow, and its byte is
on the data bus when T4 comes (R142; a held bus does not move the call: log 48); an I/O write is made in the tick that gives T4; the second
acknowledge cycle brings the vector (R157; the vector input is log 25). T4 delivers a read to the EU (R144). The latched port is read or
written, and no other tick of a cycle makes a bus operation. -/
def Sys2Proof.Machine.Claim.TickTransfersPorts : Prop :=
  ∀ (a : EuAct) (inp : BusIn) (s : State) (c : BusCycle), s.biu.cycle = some c →
    (s.biu.busState = .ioRead →
      (s.biu.tState = .t3 → (tick a inp s).bus = .ioRead (s.biu.address.setWidth 16) (loByte inp.data) :: s.bus ∧
        ((tick a inp s).biu.tState = .t4 → (tick a inp s).biu.dataBus = (loByte inp.data).setWidth 16) ∧
        ((tick a inp s).biu.tState = .tw → (tick a inp s).biu.ioLatch = (loByte inp.data).setWidth 16)) ∧
      (s.biu.tState = .tw → (tick a inp s).bus = s.bus ∧ (tick a inp s).biu.ioLatch = s.biu.ioLatch ∧
        ((tick a inp s).biu.tState = .t4 → (tick a inp s).biu.dataBus = s.biu.ioLatch)) ∧
      (s.biu.tState = .t4 → (tick a inp s).biu.euData =
          (if c.second then wordOf (loByte s.biu.euData) (loByte s.biu.dataBus) else s.biu.dataBus) ∧
        (tick a inp s).biu.euReady = !c.more)) ∧
    (s.biu.busState = .ioWrite →
      (s.biu.tState = .t2 → (tick a inp s).biu.dataBus = c.data) ∧
      (s.biu.tState = .t3 ∨ s.biu.tState = .tw → (tick a inp s).biu.tState = .t4 →
        (tick a inp s).bus = .ioWrite (s.biu.address.setWidth 16) (loByte c.data) :: s.bus) ∧
      (s.biu.tState = .t4 → (tick a inp s).biu.euReady = !c.more)) ∧
    (s.biu.busState = .interruptAck →
      (s.biu.tState = .t3 ∨ s.biu.tState = .tw → (tick a inp s).biu.tState = .t4 →
        (c.second = false → (tick a inp s).bus = .intAck s.lock none :: s.bus) ∧
        (c.second = true → (tick a inp s).bus = .intAck s.lock (some s.pins.vector) :: s.bus ∧
          (tick a inp s).biu.dataBus = s.pins.vector.setWidth 16)) ∧
      (s.biu.tState = .t4 → (tick a inp s).biu.euData = s.biu.dataBus ∧ (tick a inp s).biu.euReady = !c.more)) ∧
    (s.biu.tState ≠ .t3 → s.biu.tState ≠ .tw → (tick a inp s).bus = s.bus) ∧
    (s.biu.busState ≠ .ioRead → (tick a inp s).biu.tState = .tw → (tick a inp s).bus = s.bus) ∧
    (s.biu.busState = .halt → (tick a inp s).bus = s.bus)

/-- A tick makes at most one bus operation. -/
def Sys2Proof.Machine.Claim.OneBusOperationPerTick : Prop :=
  ∀ (a : EuAct) (inp : BusIn) (s : State), (tick a inp s).bus = s.bus ∨ ∃ e, (tick a inp s).bus = e :: s.bus

/-- An idle tick leaves registers, flags, decode state and interrupt state alone; a halt begins at the T1 of a Halt cycle only; memory
changes only by the transfer of a write cycle, the queue only by the end of a code fetch and by a read that has waited, which takes
its byte. -/
def Sys2Proof.Machine.Claim.TickLeavesArchitecture : Prop :=
  ∀ (inp : BusIn) (s : State),
    (tick .idle inp s).gpr = s.gpr ∧ (tick .idle inp s).seg = s.seg ∧
    (tick .idle inp s).ip = s.ip + (if s.readEnds then 1 else 0) ∧
    (tick .idle inp s).flags = s.flags ∧ (tick .idle inp s).lastEa = s.lastEa ∧ (tick .idle inp s).eaOpr = s.eaOpr ∧
    (tick .idle inp s).inhibit = s.inhibit ∧ (tick .idle inp s).nmiLatch = s.nmiLatch ∧
    (tick .idle inp s).dec = s.dec ∧ (tick .idle inp s).life = s.life ∧ (tick .idle inp s).pins = s.pins ∧
    (tick .idle inp s).sequences = s.sequences ∧
    ((tick .idle inp s).halted = s.halted ∨
      ((tick .idle inp s).halted = true ∧ s.biu.tState = .t1 ∧ (tick .idle inp s).biu.busState = .halt)) ∧
    (s.biu.busState ≠ .memWrite → MemKept s (tick .idle inp s)) ∧
    (s.biu.tState ≠ .t4 ∨ s.biu.busState ≠ .codeFetch →
      (tick .idle inp s).queue = s.remaining ∧ (tick .idle inp s).pc = s.pc)

/-- What a tick does to the architectural state and to the bus. -/
def Obligations.TicksAndArchitecture : Prop :=
  Claim.CycleBegins ∧ Claim.TickTransfersData ∧ Claim.TickTransfersPorts ∧ Claim.OneBusOperationPerTick ∧
    Claim.TickLeavesArchitecture

/-- The end of a code fetch: the bytes on the data bus, of a fetch at an odd address of the 16-bit bus the high one (R113), go to
the end of the queue, behind what a read that has waited leaves in it, and PC passes them, unless a flush discarded the fetch;
fetching that was normal is paused when no room is left. -/
def Sys2Proof.Machine.Claim.CodeFetchEnds : Prop :=
  ∀ (inp : BusIn) (s : State) (c : BusCycle), s.biu.tState = .t4 → s.biu.busState = .codeFetch → s.biu.cycle = some c →
    (c.discard = true → (tick .idle inp s).queue = s.remaining ∧ (tick .idle inp s).pc = s.pc) ∧
    (c.discard = false →
      (c.wide = true → (tick .idle inp s).queue = s.remaining ++ [loByte s.biu.dataBus, hiByte s.biu.dataBus]) ∧
      (s.bringsHighByte c → (tick .idle inp s).queue = s.remaining ++ [hiByte s.biu.dataBus]) ∧
      (c.wide = false → ¬ s.bringsHighByte c → (tick .idle inp s).queue = s.remaining ++ [loByte s.biu.dataBus]) ∧
      (tick .idle inp s).pc = s.pc + (if c.wide then 2 else 1) ∧
      (s.biu.fetchState = .normal → (tick .idle inp s).biu.fetchState =
        (if (tick .idle inp s).queue.length + s.busWidth ≤ s.capacity then .normal else .pausedFull)))

/-- The EU takes a byte of the queue: it leaves the queue, IP passes it, and the queue status says whether it was the first of an
instruction; what a code fetch that ends in the same tick brings goes to the end of the queue, and PC passes that and no more. A
read of the empty queue waits, and resumes fetching that was suspended; while it waits the EU is stalled: whatever the agenda says,
a tick is the tick of that read, so that it takes its byte in the tick after the one that queues it. A flush empties the queue and
puts IP and PC at the target, whatever ends in that tick. While the EU is stalled by a transfer it has asked for, or the CPU is
halted, it does nothing. That what the agenda gives a stalled EU is passed over is log 30. -/
def Sys2Proof.Machine.Claim.QueueStatus : Prop :=
  ∀ (inp : BusIn) (s : State),
    (s.halted = true ∨ s.biu.stalled = true → ∀ a, tick a inp s = tick .idle inp s) ∧
    (s.halted = false → s.biu.stalled = false →
      (s.biu.queueRead = true → ∀ a, tick a inp s = tick .pop inp s) ∧
      (∀ b q, s.queue = b :: q →
        (∃ r, (tick .pop inp s).record = some r ∧ r.queueByte = some b ∧
          r.queueOp = (if s.nextIsFirst then .first else .subsequent) ∧ (tick .pop inp s).ip = s.ip + 1 ∧
          (tick .pop inp s).nextIsFirst = false ∧ (tick .pop inp s).queue = q ++ s.arriving ∧
          (tick .pop inp s).pc = s.pc + BitVec.ofNat 16 s.arriving.length ∧ (tick .pop inp s).biu.queueRead = false) ∧
        (s.biu.queueRead = false → ∃ r, (tick .popFirst inp s).record = some r ∧ r.queueByte = some b ∧ r.queueOp = .first ∧
          (tick .popFirst inp s).ip = s.ip + 1 ∧ (tick .popFirst inp s).nextIsFirst = false ∧
          (tick .popFirst inp s).queue = q ++ s.arriving ∧
          (tick .popFirst inp s).pc = s.pc + BitVec.ofNat 16 s.arriving.length ∧
          (tick .popFirst inp s).biu.queueRead = false)) ∧
      (s.queue = [] → ∀ a, a = .pop ∨ a = .popFirst ∨ s.biu.queueRead = true → ∃ r, (tick a inp s).record = some r ∧
        r.queueByte = none ∧ r.queueOp = .idle ∧ (tick a inp s).ip = s.ip ∧ (tick a inp s).queue = s.arriving ∧
        (tick a inp s).pc = s.pc + BitVec.ofNat 16 s.arriving.length ∧ (tick a inp s).seg = s.seg ∧
        (tick a inp s).nextIsFirst = (s.nextIsFirst || (a == .popFirst && !s.biu.queueRead)) ∧
        (tick a inp s).biu.queueRead = true ∧ (tick a inp s).biu.pending = none ∧
        (s.biu.fetchState = .suspended → s.arriving = [] → (tick a inp s).biu.fetchState = .normal)) ∧
      (s.biu.queueRead = false → ∀ cs ip, ∃ r, (tick (.flush cs ip) inp s).record = some r ∧ r.queueOp = .flush ∧
        r.queueByte = none ∧ (tick (.flush cs ip) inp s).ip = ip ∧ (tick (.flush cs ip) inp s).pc = ip ∧
        (tick (.flush cs ip) inp s).seg.cs = cs ∧ (tick (.flush cs ip) inp s).nextIsFirst = true ∧
        (tick (.flush cs ip) inp s).queue = [] ∧ (tick (.flush cs ip) inp s).stale = [] ∧
        (tick (.flush cs ip) inp s).biu.queueRead = false) ∧
      (s.biu.queueRead = false → ∀ a, a ≠ .pop → a ≠ .popFirst → (tick a inp s).biu.queueRead = false)) ∧
    (s.biu.stalled = true ↔
      s.biu.pending ≠ none ∨ (s.biu.cycle ≠ none ∧ s.biu.busState ≠ .codeFetch ∧ s.biu.busState ≠ .passive))

/-- The queue from the bus side and from the EU side. -/
def Obligations.QueueTicks : Prop :=
  Claim.CodeFetchEnds ∧ Claim.QueueStatus

end
end

