-- ==== Sys2Proof/Laws/Decode.lean ====
section
/-! SUPPORT. The parts of an encoding: each reader of Decode.lean takes back what the encoder wrote. -/
namespace Sys2Proof

/-! ### Words, register numbers and the ModR/M byte -/

theorem wordOf_bytes (w : Word) : wordOf (loByte w) (hiByte w) = w := by
  apply BitVec.eq_of_getLsbD_eq
  intro i hi
  simp only [wordOf, loByte, hiByte]
  interval_cases i <;> simp

@[simp] theorem loByte_wordOf (lo hi : Byte) : loByte (wordOf lo hi) = lo := by
  apply BitVec.eq_of_getLsbD_eq
  intro i hi
  simp only [wordOf, loByte]
  interval_cases i <;> simp

@[simp] theorem hiByte_wordOf (lo hi : Byte) : hiByte (wordOf lo hi) = hi := by
  apply BitVec.eq_of_getLsbD_eq
  intro i hi
  simp only [wordOf, hiByte]
  interval_cases i <;> simp

@[simp] theorem Reg8.ofCode_code (r : Reg8) : Reg8.ofCode r.code = r := by cases r <;> rfl
@[simp] theorem Reg16.ofCode_code (r : Reg16) : Reg16.ofCode r.code = r := by cases r <;> rfl
@[simp] theorem Base.ofCode_code (b : Base) : Base.ofCode b.code = b := by cases b <;> rfl
@[simp] theorem SReg.ofCode_code (r : SReg) : SReg.ofCode r.code = r := by cases r <;> rfl

theorem modrm_reg (md : BitVec 2) (reg rm : BitVec 3) : (modrm md reg rm).extractLsb' 3 3 = reg := by
  revert md reg rm; decide
theorem modrm_rm (md : BitVec 2) (reg rm : BitVec 3) : (modrm md reg rm).extractLsb' 0 3 = rm := by
  revert md reg rm; decide
theorem modrm_mod (md : BitVec 2) (reg rm : BitVec 3) : (modrm md reg rm).extractLsb' 6 2 = md := by
  revert md reg rm; decide

/-! ### Reading back -/

@[simp] theorem withByte_cons (b : Byte) (rest : List Byte) (k : Byte → List Byte → DecodeResult) :
    withByte (b :: rest) k = k b rest := rfl

@[simp] theorem withWord_bytes (w : Word) (rest : List Byte) (k : Word → List Byte → DecodeResult) :
    withWord (loByte w :: hiByte w :: rest) k = k w rest := by
  simp only [withWord, wordOf_bytes]

/-- What the reader of a ModR/M byte sees of an operand. -/
def RM8.raw : RM8 → RMRaw
  | .reg r => .reg r.code
  | .mem m => .mem m

def RM16.raw : RM16 → RMRaw
  | .reg r => .reg r.code
  | .mem m => .mem m

def RMW.raw : RMW → RMRaw
  | .byte rm => rm.raw
  | .word rm => rm.raw

@[simp] theorem RM8.raw_rm8 (rm : RM8) : rm.raw.rm8 = rm := by cases rm <;> simp [RM8.raw, RMRaw.rm8]
@[simp] theorem RM16.raw_rm16 (rm : RM16) : rm.raw.rm16 = rm := by cases rm <;> simp [RM16.raw, RMRaw.rm16]

/-- The `w` bit tells the width of the operand back. -/
theorem RMW.raw_rmw (rm : RMW) (op : Byte) (h : op &&& 1 = rm.wBit) : rm.raw.rmw op = rm := by
  cases rm with
  | byte rm =>
    have : op.getLsbD 0 = false := by simpa [RMW.wBit] using congrArg (BitVec.getLsbD · 0) h
    rw [RMRaw.rmw, this]; simp [RMW.raw]
  | word rm =>
    have : op.getLsbD 0 = true := by simpa [RMW.wBit] using congrArg (BitVec.getLsbD · 0) h
    rw [RMRaw.rmw, this]; simp [RMW.raw]

theorem readRM_mem (m : Mem) (h : m.wf = true) (reg : BitVec 3) (rest : List Byte) :
    readRM (m.enc reg ++ rest) = some (reg, .mem m, rest) := by
  cases m with
  | ind b =>
    simp only [Mem.enc, List.cons_append, List.nil_append, readRM, modrm_mod, modrm_reg, modrm_rm]
    cases b <;> first | rfl | cases h
  | direct o =>
    simp only [Mem.enc, wordBytes, List.cons_append, List.nil_append, readRM, modrm_mod, modrm_reg, modrm_rm]
    simp [wordOf_bytes]
  | disp8 b d =>
    simp only [Mem.enc, List.cons_append, List.nil_append, readRM, modrm_mod, modrm_reg, modrm_rm, Base.ofCode_code]
    rfl
  | disp16 b d =>
    simp only [Mem.enc, wordBytes, List.cons_append, List.nil_append, readRM, modrm_mod, modrm_reg, modrm_rm,
      Base.ofCode_code]
    simp [wordOf_bytes]

theorem readRM_reg (n reg : BitVec 3) (rest : List Byte) : readRM (modrm 3 reg n :: rest) = some (reg, .reg n, rest) := by
  simp only [readRM, modrm_mod, modrm_reg, modrm_rm]
  rfl

/-- The reader of a ModR/M byte gives back what was encoded, with the bytes after it. -/
theorem readRM_rmw (rm : RMW) (h : rm.wf = true) (reg : BitVec 3) (rest : List Byte) :
    readRM (rm.enc reg ++ rest) = some (reg, rm.raw, rest) := by
  cases rm with
  | byte rm => cases rm with
    | reg r => exact readRM_reg r.code reg rest
    | mem m => exact readRM_mem m h reg rest
  | word rm => cases rm with
    | reg r => exact readRM_reg r.code reg rest
    | mem m => exact readRM_mem m h reg rest

/-! The operand pair of the record, field by field. -/

@[simp] theorem RMW.pair_first (rm : RMW) (o : Operand) : (rm.pair o).first = rm.operand := rfl
@[simp] theorem RMW.pair_second (rm : RMW) (o : Operand) : (rm.pair o).second = o := rfl
@[simp] theorem RMW.pair_size (rm : RMW) (o : Operand) : (rm.pair o).size = rm.size := rfl

theorem withRM_mem (m : Mem) (h : m.wf = true) (reg : BitVec 3) (rest : List Byte)
    (k : BitVec 3 → RMRaw → List Byte → DecodeResult) : withRM (m.enc reg ++ rest) k = k reg (.mem m) rest := by
  simp only [withRM, readRM_mem m h]

theorem withRM_reg (n reg : BitVec 3) (rest : List Byte) (k : BitVec 3 → RMRaw → List Byte → DecodeResult) :
    withRM (modrm 3 reg n :: rest) k = k reg (.reg n) rest := by
  simp only [withRM, readRM_reg]

theorem withRM_rm8 (rm : RM8) (h : rm.wf = true) (reg : BitVec 3) (rest : List Byte)
    (k : BitVec 3 → RMRaw → List Byte → DecodeResult) : withRM (rm.enc reg ++ rest) k = k reg rm.raw rest := by
  cases rm with
  | reg r => exact withRM_reg r.code reg rest k
  | mem m => exact withRM_mem m h reg rest k

theorem withRM_rm16 (rm : RM16) (h : rm.wf = true) (reg : BitVec 3) (rest : List Byte)
    (k : BitVec 3 → RMRaw → List Byte → DecodeResult) : withRM (rm.enc reg ++ rest) k = k reg rm.raw rest := by
  cases rm with
  | reg r => exact withRM_reg r.code reg rest k
  | mem m => exact withRM_mem m h reg rest k

theorem withRM_rmw (rm : RMW) (h : rm.wf = true) (reg : BitVec 3) (rest : List Byte)
    (k : BitVec 3 → RMRaw → List Byte → DecodeResult) : withRM (rm.enc reg ++ rest) k = k reg rm.raw rest := by
  cases rm with
  | byte rm => exact withRM_rm8 rm h reg rest k
  | word rm => exact withRM_rm16 rm h reg rest k

end Sys2Proof
end

