-- ==== Sys2Proof/Laws/Flags.lean ====
section
/-! SUPPORT. The laws of the flags word. -/
namespace Sys2Proof.Machine
open Sys2Proof

/-! ### Writing under a mask -/

/-- The bits outside the mask are kept. -/
theorem putFlags_kept (m b f : Word) : putFlags m b f &&& ~~~m = f &&& ~~~m := by
  apply BitVec.eq_of_getLsbD_eq
  intro i h
  simp only [putFlags, BitVec.getLsbD_and, BitVec.getLsbD_or, BitVec.getLsbD_not, h, decide_true, Bool.true_and]
  cases m.getLsbD i <;> simp

/-- The bits inside the mask are those given. -/
theorem putFlags_put (m b f : Word) : putFlags m b f &&& m = b &&& m := by
  apply BitVec.eq_of_getLsbD_eq
  intro i h
  simp only [putFlags, BitVec.getLsbD_and, BitVec.getLsbD_or, BitVec.getLsbD_not, h, decide_true, Bool.true_and]
  cases m.getLsbD i <;> simp

/-- One bit of a masked write. -/
theorem putFlags_getLsbD (m b f : Word) (i : Nat) (h : i < 16) :
    (putFlags m b f).getLsbD i = if m.getLsbD i then b.getLsbD i else f.getLsbD i := by
  simp only [putFlags, BitVec.getLsbD_and, BitVec.getLsbD_or, BitVec.getLsbD_not, h, decide_true, Bool.true_and]
  cases m.getLsbD i <;> simp

/-- What is kept outside a mask is kept outside a wider one. -/
theorem kept_mono {m n f g : Word} (h : g &&& ~~~m = f &&& ~~~m) (hm : m &&& ~~~n = 0) : g &&& ~~~n = f &&& ~~~n := by
  apply BitVec.eq_of_getLsbD_eq
  intro i hi
  have h1 := congrArg (fun w => w.getLsbD i) h
  have h2 := congrArg (fun w => w.getLsbD i) hm
  simp only [BitVec.getLsbD_and, BitVec.getLsbD_not, hi, decide_true, Bool.true_and] at h1 h2 ⊢
  revert h1 h2
  cases m.getLsbD i <;> cases n.getLsbD i <;> simp

/-! ### The reserved bits (10_state.md R36) -/

/-- A write under a mask that spares the reserved bits keeps them. -/
theorem flagsPinned_putFlags (m b f : Word) (hm : m &&& 0xF02A = 0) (hf : flagsPinned f = true) :
    flagsPinned (putFlags m b f) = true := by
  have e : putFlags m b f &&& 0xF02A = f &&& 0xF02A := by
    apply BitVec.eq_of_getLsbD_eq
    intro i h
    have h2 := congrArg (fun w => w.getLsbD i) hm
    simp only [BitVec.getLsbD_and, putFlags_getLsbD m b f i h] at h2 ⊢
    revert h2
    cases m.getLsbD i <;> simp
    intro h2
    simp [h2]
  simp only [flagsPinned, e]
  simpa [flagsPinned] using hf

@[simp] theorem flagsPinned_pinFlags (v : Word) : flagsPinned (pinFlags v) = true := by
  have e : pinFlags v &&& 0xF02A = 0xF002 := by
    simp only [pinFlags]
    rw [BitVec.and_or_distrib_right]
    rw [BitVec.and_assoc]
    simp
  simp only [flagsPinned, e]
  rfl

theorem flagsPinned_or (f m : Word) (hm : m &&& 0xF02A = 0) (hf : flagsPinned f = true) : flagsPinned (f ||| m) = true := by
  have hf' : f &&& 0xF02A = 0xF002 := by simpa [flagsPinned] using hf
  simp only [flagsPinned]
  rw [BitVec.and_or_distrib_right, hm, hf']
  rfl

theorem flagsPinned_and (f m : Word) (hm : m &&& 0xF02A = 0) (hf : flagsPinned f = true) :
    flagsPinned (f &&& ~~~m) = true := by
  have e : f &&& ~~~m = putFlags m 0 f := by simp [putFlags]
  rw [e]
  exact flagsPinned_putFlags m 0 f hm hf

theorem flagsPinned_xor (f m : Word) (hm : m &&& 0xF02A = 0) (hf : flagsPinned f = true) :
    flagsPinned (f ^^^ m) = true := by
  have hf' : f &&& 0xF02A = 0xF002 := by simpa [flagsPinned] using hf
  have e : (f ^^^ m) &&& 0xF02A = f &&& 0xF02A := by
    apply BitVec.eq_of_getLsbD_eq
    intro i h
    have h2 := congrArg (fun w => w.getLsbD i) hm
    simp only [BitVec.getLsbD_and, BitVec.getLsbD_xor] at h2 ⊢
    revert h2
    cases m.getLsbD i <;> simp
    intro h2
    simp [h2]
  simp only [flagsPinned, e, hf']
  rfl

/-! ### The flags of a packed word -/

@[simp] theorem flagCF_putStatus (c p a z sg o : Bool) (m f : Word) (h : m.getLsbD 0 = true) :
    flagCF (putFlags m (packStatus c p a z sg o) f) = c := by
  simp only [flagCF]
  rw [putFlags_getLsbD _ _ _ _ (by omega), h, if_pos rfl]
  revert c p a z sg o; decide

@[simp] theorem flagPF_putStatus (c p a z sg o : Bool) (m f : Word) (h : m.getLsbD 2 = true) :
    flagPF (putFlags m (packStatus c p a z sg o) f) = p := by
  simp only [flagPF]
  rw [putFlags_getLsbD _ _ _ _ (by omega), h, if_pos rfl]
  revert c p a z sg o; decide

@[simp] theorem flagAF_putStatus (c p a z sg o : Bool) (m f : Word) (h : m.getLsbD 4 = true) :
    flagAF (putFlags m (packStatus c p a z sg o) f) = a := by
  simp only [flagAF]
  rw [putFlags_getLsbD _ _ _ _ (by omega), h, if_pos rfl]
  revert c p a z sg o; decide

@[simp] theorem flagZF_putStatus (c p a z sg o : Bool) (m f : Word) (h : m.getLsbD 6 = true) :
    flagZF (putFlags m (packStatus c p a z sg o) f) = z := by
  simp only [flagZF]
  rw [putFlags_getLsbD _ _ _ _ (by omega), h, if_pos rfl]
  revert c p a z sg o; decide

@[simp] theorem flagSF_putStatus (c p a z sg o : Bool) (m f : Word) (h : m.getLsbD 7 = true) :
    flagSF (putFlags m (packStatus c p a z sg o) f) = sg := by
  simp only [flagSF]
  rw [putFlags_getLsbD _ _ _ _ (by omega), h, if_pos rfl]
  revert c p a z sg o; decide

@[simp] theorem flagOF_putStatus (c p a z sg o : Bool) (m f : Word) (h : m.getLsbD 11 = true) :
    flagOF (putFlags m (packStatus c p a z sg o) f) = o := by
  simp only [flagOF]
  rw [putFlags_getLsbD _ _ _ _ (by omega), h, if_pos rfl]
  revert c p a z sg o; decide

end Sys2Proof.Machine
end

