-- ==== Sys2Proof/Laws/Memory.lean ====
section
/-! SUPPORT. The laws of memory: reads after writes, and the canonical form kept by every write. -/
namespace Sys2Proof.Machine
open Sys2Proof

/-! ### The canonical form -/

@[simp] theorem memWfFrom_nil (lo : Option Nat) : memWfFrom lo [] = true := by unfold memWfFrom; rfl

/-- The canonical form, cell by cell, above a bound. -/
theorem memWfFrom_some_cons (l : Nat) (c : Host.Cell) (m : List Host.Cell) :
    memWfFrom (some l) (c :: m) = true ↔ l < c.1 ∧ c.2 ≠ unlistedByte ∧ memWfFrom (some c.1) m = true := by
  rw [memWfFrom]
  simp [and_assoc]

theorem memWfFrom_none_cons (c : Host.Cell) (m : List Host.Cell) :
    memWfFrom none (c :: m) = true ↔ c.2 ≠ unlistedByte ∧ memWfFrom (some c.1) m = true := by
  rw [memWfFrom]
  simp

/-- A lower bound may be lowered, or dropped. -/
theorem memWfFrom_lower {lo : Nat} {m : List Host.Cell} (h : memWfFrom (some lo) m = true) (l : Nat) (hl : l ≤ lo) :
    memWfFrom (some l) m = true := by
  cases m with
  | nil => simp
  | cons c m =>
    rw [memWfFrom_some_cons] at h ⊢
    exact ⟨by omega, h.2⟩

theorem memWfFrom_drop {lo : Nat} {m : List Host.Cell} (h : memWfFrom (some lo) m = true) : memWfFrom none m = true := by
  cases m with
  | nil => simp
  | cons c m =>
    rw [memWfFrom_some_cons] at h
    rw [memWfFrom_none_cons]
    exact h.2

/-- No listed address is at or below the bound, so such an address reads as unlisted. -/
theorem memRead_below {lo : Nat} {m : List Host.Cell} (h : memWfFrom (some lo) m = true) (a : Nat) (ha : a ≤ lo) :
    memRead m a = unlistedByte := by
  induction m generalizing lo with
  | nil => rfl
  | cons c m ih =>
    rw [memWfFrom_some_cons] at h
    have hne : c.1 ≠ a := by omega
    simp only [memRead, if_neg hne]
    exact ih h.2.2 (by omega)

/-! ### Writes keep the canonical form -/

theorem memErase_wfFrom {lo : Nat} {m : List Host.Cell} (h : memWfFrom (some lo) m = true) (a : Nat) :
    memWfFrom (some lo) (memErase m a) = true := by
  induction m generalizing lo with
  | nil => simp [memErase]
  | cons c m ih =>
    rw [memWfFrom_some_cons] at h
    unfold memErase
    split
    · exact memWfFrom_lower h.2.2 lo (by omega)
    · rw [memWfFrom_some_cons]
      exact ⟨h.1, h.2.1, ih h.2.2⟩

theorem memInsert_wfFrom {lo : Nat} {m : List Host.Cell} (h : memWfFrom (some lo) m = true) (a : Nat) (v : Byte)
    (hv : v ≠ unlistedByte) (ha : lo < a) : memWfFrom (some lo) (memInsert m a v) = true := by
  induction m generalizing lo with
  | nil =>
    unfold memInsert
    rw [memWfFrom_some_cons]
    exact ⟨ha, hv, by simp⟩
  | cons c m ih =>
    rw [memWfFrom_some_cons] at h
    unfold memInsert
    split
    · rw [memWfFrom_some_cons, memWfFrom_some_cons]
      exact ⟨ha, hv, by assumption, h.2⟩
    · split
      · next he =>
        rw [memWfFrom_some_cons]
        exact ⟨ha, hv, he ▸ h.2.2⟩
      · rw [memWfFrom_some_cons]
        exact ⟨h.1, h.2.1, ih h.2.2 (by omega)⟩

theorem memErase_wf {m : List Host.Cell} (h : Memory.wf m = true) (a : Nat) : Memory.wf (memErase m a) = true := by
  cases m with
  | nil => simp [memErase, Memory.wf]
  | cons c m =>
    rw [Memory.wf, memWfFrom_none_cons] at h
    unfold memErase
    split
    · exact memWfFrom_drop h.2
    · rw [Memory.wf, memWfFrom_none_cons]
      exact ⟨h.1, memErase_wfFrom h.2 a⟩

theorem memInsert_wf {m : List Host.Cell} (h : Memory.wf m = true) (a : Nat) (v : Byte) (hv : v ≠ unlistedByte) :
    Memory.wf (memInsert m a v) = true := by
  cases m with
  | nil =>
    simp only [memInsert, Memory.wf, memWfFrom_none_cons]
    exact ⟨hv, by simp⟩
  | cons c m =>
    rw [Memory.wf, memWfFrom_none_cons] at h
    unfold memInsert
    split
    · rw [Memory.wf, memWfFrom_none_cons, memWfFrom_some_cons]
      exact ⟨hv, by assumption, h⟩
    · split
      · next he =>
        rw [Memory.wf, memWfFrom_none_cons]
        exact ⟨hv, he ▸ h.2⟩
      · rw [Memory.wf, memWfFrom_none_cons]
        exact ⟨h.1, memInsert_wfFrom h.2 a v hv (by omega)⟩

/-- A write keeps the canonical form. -/
theorem memWrite_wf {m : List Host.Cell} (h : Memory.wf m = true) (a : Nat) (v : Byte) : Memory.wf (memWrite m a v) = true := by
  unfold memWrite
  split
  · exact memErase_wf h a
  · exact memInsert_wf h a v (by assumption)

/-- A write lists no new address but the one written. -/
theorem memWrite_mem {m : List Host.Cell} {a : Nat} {v : Byte} {c : Host.Cell} (h : c ∈ memWrite m a v) :
    c ∈ m ∨ c.1 = a := by
  unfold memWrite at h
  split at h
  · left
    induction m with
    | nil => exact h
    | cons d m ih =>
      unfold memErase at h
      split at h
      · exact List.mem_cons_of_mem _ h
      · rcases List.mem_cons.1 h with rfl | h
        · exact List.mem_cons_self
        · exact List.mem_cons_of_mem _ (ih h)
  · induction m with
    | nil =>
      simp only [memInsert, List.mem_singleton] at h
      exact .inr (by rw [h])
    | cons d m ih =>
      unfold memInsert at h
      split at h
      · rcases List.mem_cons.1 h with rfl | h
        · exact .inr rfl
        · exact .inl h
      · split at h
        · rcases List.mem_cons.1 h with rfl | h
          · exact .inr rfl
          · exact .inl (List.mem_cons_of_mem _ h)
        · rcases List.mem_cons.1 h with rfl | h
          · exact .inl List.mem_cons_self
          · exact (ih h).imp (List.mem_cons_of_mem _) id

/-! ### Reads after writes -/

theorem memRead_memInsert_same (m : List Host.Cell) (a : Nat) (v : Byte) : memRead (memInsert m a v) a = v := by
  induction m with
  | nil => simp [memInsert, memRead]
  | cons c m ih =>
    unfold memInsert
    split
    · simp [memRead]
    · split
      · simp [memRead]
      · next hne => simp [memRead, hne, ih]

theorem memRead_memInsert_ne (m : List Host.Cell) (a b : Nat) (v : Byte) (h : b ≠ a) :
    memRead (memInsert m a v) b = memRead m b := by
  induction m with
  | nil => simp [memInsert, memRead, h.symm]
  | cons c m ih =>
    unfold memInsert
    split
    · simp [memRead, h.symm]
    · split
      · next he =>
        subst he
        simp [memRead, h.symm]
      · simp [memRead, ih]

theorem memRead_memErase_ne (m : List Host.Cell) (a b : Nat) (h : b ≠ a) : memRead (memErase m a) b = memRead m b := by
  induction m with
  | nil => rfl
  | cons c m ih =>
    unfold memErase
    split
    · next he =>
      subst he
      simp [memRead, h.symm]
    · simp [memRead, ih]

theorem memRead_memErase_same_from {lo : Nat} {m : List Host.Cell} (h : memWfFrom (some lo) m = true) (a : Nat) :
    memRead (memErase m a) a = unlistedByte := by
  induction m generalizing lo with
  | nil => rfl
  | cons c m ih =>
    rw [memWfFrom_some_cons] at h
    unfold memErase
    split
    · exact memRead_below h.2.2 a (by omega)
    · next hne => simp [memRead, hne, ih h.2.2]

theorem memRead_memErase_same {m : List Host.Cell} (h : Memory.wf m = true) (a : Nat) :
    memRead (memErase m a) a = unlistedByte := by
  cases m with
  | nil => rfl
  | cons c m =>
    rw [Memory.wf, memWfFrom_none_cons] at h
    unfold memErase
    split
    · exact memRead_below h.2 a (by omega)
    · next hne => simp [memRead, hne, memRead_memErase_same_from h.2]

/-- A read of the address written returns the byte written. -/
theorem memRead_memWrite_same {m : List Host.Cell} (h : Memory.wf m = true) (a : Nat) (v : Byte) :
    memRead (memWrite m a v) a = v := by
  unfold memWrite
  split
  · next hv => rw [hv]; exact memRead_memErase_same h a
  · exact memRead_memInsert_same m a v

/-- A write leaves every other address alone. -/
theorem memRead_memWrite_ne (m : List Host.Cell) (a b : Nat) (v : Byte) (h : b ≠ a) :
    memRead (memWrite m a v) b = memRead m b := by
  unfold memWrite
  split
  · exact memRead_memErase_ne m a b h
  · exact memRead_memInsert_ne m a b v h

/-! ### Linear addresses -/

/-- The two bytes of a word are at different addresses, also where the offset wraps. -/
theorem lin_succ_ne (sv off : Word) : lin sv (off + 1) ≠ lin sv off := by
  unfold lin
  intro h
  have h1 : (off + 1).setWidth 20 = off.setWidth 20 := by simpa using h
  have h2 := congrArg BitVec.toNat h1
  simp only [BitVec.toNat_setWidth, BitVec.toNat_add] at h2
  have h3 := off.isLt
  have h4 : (1 : Word).toNat = 1 := rfl
  omega

end Sys2Proof.Machine
end

