-- ==== Sys2Proof/Laws/State.lean ====
section
/-! SUPPORT. What each update of the state does to each field: one lemma per field per update; and the registers. -/
namespace Sys2Proof.Machine
open Sys2Proof

variable (s : State)

@[simp] theorem setGpr_gpr (v : Gpr) : (s.setGpr v).gpr = v := rfl
@[simp] theorem setGpr_seg (v : Gpr) : (s.setGpr v).seg = s.seg := rfl
@[simp] theorem setGpr_ip (v : Gpr) : (s.setGpr v).ip = s.ip := rfl
@[simp] theorem setGpr_pc (v : Gpr) : (s.setGpr v).pc = s.pc := rfl
@[simp] theorem setGpr_flags (v : Gpr) : (s.setGpr v).flags = s.flags := rfl
@[simp] theorem setGpr_queue (v : Gpr) : (s.setGpr v).queue = s.queue := rfl
@[simp] theorem setGpr_nextIsFirst (v : Gpr) : (s.setGpr v).nextIsFirst = s.nextIsFirst := rfl
@[simp] theorem setGpr_lastEa (v : Gpr) : (s.setGpr v).lastEa = s.lastEa := rfl
@[simp] theorem setGpr_eaOpr (v : Gpr) : (s.setGpr v).eaOpr = s.eaOpr := rfl
@[simp] theorem setGpr_inhibit (v : Gpr) : (s.setGpr v).inhibit = s.inhibit := rfl
@[simp] theorem setGpr_nmiLatch (v : Gpr) : (s.setGpr v).nmiLatch = s.nmiLatch := rfl
@[simp] theorem setGpr_lock (v : Gpr) : (s.setGpr v).lock = s.lock := rfl
@[simp] theorem setGpr_halted (v : Gpr) : (s.setGpr v).halted = s.halted := rfl
@[simp] theorem setGpr_dec (v : Gpr) : (s.setGpr v).dec = s.dec := rfl
@[simp] theorem setGpr_life (v : Gpr) : (s.setGpr v).life = s.life := rfl
@[simp] theorem setGpr_sequences (v : Gpr) : (s.setGpr v).sequences = s.sequences := rfl
@[simp] theorem setGpr_pins (v : Gpr) : (s.setGpr v).pins = s.pins := rfl
@[simp] theorem setGpr_biu (v : Gpr) : (s.setGpr v).biu = s.biu := rfl
@[simp] theorem setGpr_dma (v : Gpr) : (s.setGpr v).dma = s.dma := rfl
@[simp] theorem setGpr_cycles (v : Gpr) : (s.setGpr v).cycles = s.cycles := rfl
@[simp] theorem setGpr_record (v : Gpr) : (s.setGpr v).record = s.record := rfl
@[simp] theorem setGpr_mem (v : Gpr) : (s.setGpr v).mem = s.mem := rfl
@[simp] theorem setGpr_bus (v : Gpr) : (s.setGpr v).bus = s.bus := rfl
@[simp] theorem setGpr_devIn (v : Gpr) : (s.setGpr v).devIn = s.devIn := rfl
@[simp] theorem setGpr_script (v : Gpr) : (s.setGpr v).script = s.script := rfl
@[simp] theorem setGpr_fills (v : Gpr) : (s.setGpr v).fills = s.fills := rfl
@[simp] theorem setGpr_stale (v : Gpr) : (s.setGpr v).stale = s.stale := rfl
@[simp] theorem setGpr_steps (v : Gpr) : (s.setGpr v).steps = s.steps := rfl
@[simp] theorem setGpr_draws (v : Gpr) : (s.setGpr v).draws = s.draws := rfl
@[simp] theorem setGpr_cfg (v : Gpr) : (s.setGpr v).cfg = s.cfg := rfl

@[simp] theorem setSeg_gpr (v : Segs) : (s.setSeg v).gpr = s.gpr := rfl
@[simp] theorem setSeg_seg (v : Segs) : (s.setSeg v).seg = v := rfl
@[simp] theorem setSeg_ip (v : Segs) : (s.setSeg v).ip = s.ip := rfl
@[simp] theorem setSeg_pc (v : Segs) : (s.setSeg v).pc = s.pc := rfl
@[simp] theorem setSeg_flags (v : Segs) : (s.setSeg v).flags = s.flags := rfl
@[simp] theorem setSeg_queue (v : Segs) : (s.setSeg v).queue = s.queue := rfl
@[simp] theorem setSeg_nextIsFirst (v : Segs) : (s.setSeg v).nextIsFirst = s.nextIsFirst := rfl
@[simp] theorem setSeg_lastEa (v : Segs) : (s.setSeg v).lastEa = s.lastEa := rfl
@[simp] theorem setSeg_eaOpr (v : Segs) : (s.setSeg v).eaOpr = s.eaOpr := rfl
@[simp] theorem setSeg_inhibit (v : Segs) : (s.setSeg v).inhibit = s.inhibit := rfl
@[simp] theorem setSeg_nmiLatch (v : Segs) : (s.setSeg v).nmiLatch = s.nmiLatch := rfl
@[simp] theorem setSeg_lock (v : Segs) : (s.setSeg v).lock = s.lock := rfl
@[simp] theorem setSeg_halted (v : Segs) : (s.setSeg v).halted = s.halted := rfl
@[simp] theorem setSeg_dec (v : Segs) : (s.setSeg v).dec = s.dec := rfl
@[simp] theorem setSeg_life (v : Segs) : (s.setSeg v).life = s.life := rfl
@[simp] theorem setSeg_sequences (v : Segs) : (s.setSeg v).sequences = s.sequences := rfl
@[simp] theorem setSeg_pins (v : Segs) : (s.setSeg v).pins = s.pins := rfl
@[simp] theorem setSeg_biu (v : Segs) : (s.setSeg v).biu = s.biu := rfl
@[simp] theorem setSeg_dma (v : Segs) : (s.setSeg v).dma = s.dma := rfl
@[simp] theorem setSeg_cycles (v : Segs) : (s.setSeg v).cycles = s.cycles := rfl
@[simp] theorem setSeg_record (v : Segs) : (s.setSeg v).record = s.record := rfl
@[simp] theorem setSeg_mem (v : Segs) : (s.setSeg v).mem = s.mem := rfl
@[simp] theorem setSeg_bus (v : Segs) : (s.setSeg v).bus = s.bus := rfl
@[simp] theorem setSeg_devIn (v : Segs) : (s.setSeg v).devIn = s.devIn := rfl
@[simp] theorem setSeg_script (v : Segs) : (s.setSeg v).script = s.script := rfl
@[simp] theorem setSeg_fills (v : Segs) : (s.setSeg v).fills = s.fills := rfl
@[simp] theorem setSeg_stale (v : Segs) : (s.setSeg v).stale = s.stale := rfl
@[simp] theorem setSeg_steps (v : Segs) : (s.setSeg v).steps = s.steps := rfl
@[simp] theorem setSeg_draws (v : Segs) : (s.setSeg v).draws = s.draws := rfl
@[simp] theorem setSeg_cfg (v : Segs) : (s.setSeg v).cfg = s.cfg := rfl

@[simp] theorem setIp_gpr (v : Word) : (s.setIp v).gpr = s.gpr := rfl
@[simp] theorem setIp_seg (v : Word) : (s.setIp v).seg = s.seg := rfl
@[simp] theorem setIp_ip (v : Word) : (s.setIp v).ip = v := rfl
@[simp] theorem setIp_pc (v : Word) : (s.setIp v).pc = s.pc := rfl
@[simp] theorem setIp_flags (v : Word) : (s.setIp v).flags = s.flags := rfl
@[simp] theorem setIp_queue (v : Word) : (s.setIp v).queue = s.queue := rfl
@[simp] theorem setIp_nextIsFirst (v : Word) : (s.setIp v).nextIsFirst = s.nextIsFirst := rfl
@[simp] theorem setIp_lastEa (v : Word) : (s.setIp v).lastEa = s.lastEa := rfl
@[simp] theorem setIp_eaOpr (v : Word) : (s.setIp v).eaOpr = s.eaOpr := rfl
@[simp] theorem setIp_inhibit (v : Word) : (s.setIp v).inhibit = s.inhibit := rfl
@[simp] theorem setIp_nmiLatch (v : Word) : (s.setIp v).nmiLatch = s.nmiLatch := rfl
@[simp] theorem setIp_lock (v : Word) : (s.setIp v).lock = s.lock := rfl
@[simp] theorem setIp_halted (v : Word) : (s.setIp v).halted = s.halted := rfl
@[simp] theorem setIp_dec (v : Word) : (s.setIp v).dec = s.dec := rfl
@[simp] theorem setIp_life (v : Word) : (s.setIp v).life = s.life := rfl
@[simp] theorem setIp_sequences (v : Word) : (s.setIp v).sequences = s.sequences := rfl
@[simp] theorem setIp_pins (v : Word) : (s.setIp v).pins = s.pins := rfl
@[simp] theorem setIp_biu (v : Word) : (s.setIp v).biu = s.biu := rfl
@[simp] theorem setIp_dma (v : Word) : (s.setIp v).dma = s.dma := rfl
@[simp] theorem setIp_cycles (v : Word) : (s.setIp v).cycles = s.cycles := rfl
@[simp] theorem setIp_record (v : Word) : (s.setIp v).record = s.record := rfl
@[simp] theorem setIp_mem (v : Word) : (s.setIp v).mem = s.mem := rfl
@[simp] theorem setIp_bus (v : Word) : (s.setIp v).bus = s.bus := rfl
@[simp] theorem setIp_devIn (v : Word) : (s.setIp v).devIn = s.devIn := rfl
@[simp] theorem setIp_script (v : Word) : (s.setIp v).script = s.script := rfl
@[simp] theorem setIp_fills (v : Word) : (s.setIp v).fills = s.fills := rfl
@[simp] theorem setIp_stale (v : Word) : (s.setIp v).stale = s.stale := rfl
@[simp] theorem setIp_steps (v : Word) : (s.setIp v).steps = s.steps := rfl
@[simp] theorem setIp_draws (v : Word) : (s.setIp v).draws = s.draws := rfl
@[simp] theorem setIp_cfg (v : Word) : (s.setIp v).cfg = s.cfg := rfl

@[simp] theorem setPc_gpr (v : Word) : (s.setPc v).gpr = s.gpr := rfl
@[simp] theorem setPc_seg (v : Word) : (s.setPc v).seg = s.seg := rfl
@[simp] theorem setPc_ip (v : Word) : (s.setPc v).ip = s.ip := rfl
@[simp] theorem setPc_pc (v : Word) : (s.setPc v).pc = v := rfl
@[simp] theorem setPc_flags (v : Word) : (s.setPc v).flags = s.flags := rfl
@[simp] theorem setPc_queue (v : Word) : (s.setPc v).queue = s.queue := rfl
@[simp] theorem setPc_nextIsFirst (v : Word) : (s.setPc v).nextIsFirst = s.nextIsFirst := rfl
@[simp] theorem setPc_lastEa (v : Word) : (s.setPc v).lastEa = s.lastEa := rfl
@[simp] theorem setPc_eaOpr (v : Word) : (s.setPc v).eaOpr = s.eaOpr := rfl
@[simp] theorem setPc_inhibit (v : Word) : (s.setPc v).inhibit = s.inhibit := rfl
@[simp] theorem setPc_nmiLatch (v : Word) : (s.setPc v).nmiLatch = s.nmiLatch := rfl
@[simp] theorem setPc_lock (v : Word) : (s.setPc v).lock = s.lock := rfl
@[simp] theorem setPc_halted (v : Word) : (s.setPc v).halted = s.halted := rfl
@[simp] theorem setPc_dec (v : Word) : (s.setPc v).dec = s.dec := rfl
@[simp] theorem setPc_life (v : Word) : (s.setPc v).life = s.life := rfl
@[simp] theorem setPc_sequences (v : Word) : (s.setPc v).sequences = s.sequences := rfl
@[simp] theorem setPc_pins (v : Word) : (s.setPc v).pins = s.pins := rfl
@[simp] theorem setPc_biu (v : Word) : (s.setPc v).biu = s.biu := rfl
@[simp] theorem setPc_dma (v : Word) : (s.setPc v).dma = s.dma := rfl
@[simp] theorem setPc_cycles (v : Word) : (s.setPc v).cycles = s.cycles := rfl
@[simp] theorem setPc_record (v : Word) : (s.setPc v).record = s.record := rfl
@[simp] theorem setPc_mem (v : Word) : (s.setPc v).mem = s.mem := rfl
@[simp] theorem setPc_bus (v : Word) : (s.setPc v).bus = s.bus := rfl
@[simp] theorem setPc_devIn (v : Word) : (s.setPc v).devIn = s.devIn := rfl
@[simp] theorem setPc_script (v : Word) : (s.setPc v).script = s.script := rfl
@[simp] theorem setPc_fills (v : Word) : (s.setPc v).fills = s.fills := rfl
@[simp] theorem setPc_stale (v : Word) : (s.setPc v).stale = s.stale := rfl
@[simp] theorem setPc_steps (v : Word) : (s.setPc v).steps = s.steps := rfl
@[simp] theorem setPc_draws (v : Word) : (s.setPc v).draws = s.draws := rfl
@[simp] theorem setPc_cfg (v : Word) : (s.setPc v).cfg = s.cfg := rfl

@[simp] theorem setFlags_gpr (v : Word) : (s.setFlags v).gpr = s.gpr := rfl
@[simp] theorem setFlags_seg (v : Word) : (s.setFlags v).seg = s.seg := rfl
@[simp] theorem setFlags_ip (v : Word) : (s.setFlags v).ip = s.ip := rfl
@[simp] theorem setFlags_pc (v : Word) : (s.setFlags v).pc = s.pc := rfl
@[simp] theorem setFlags_flags (v : Word) : (s.setFlags v).flags = v := rfl
@[simp] theorem setFlags_queue (v : Word) : (s.setFlags v).queue = s.queue := rfl
@[simp] theorem setFlags_nextIsFirst (v : Word) : (s.setFlags v).nextIsFirst = s.nextIsFirst := rfl
@[simp] theorem setFlags_lastEa (v : Word) : (s.setFlags v).lastEa = s.lastEa := rfl
@[simp] theorem setFlags_eaOpr (v : Word) : (s.setFlags v).eaOpr = s.eaOpr := rfl
@[simp] theorem setFlags_inhibit (v : Word) : (s.setFlags v).inhibit = s.inhibit := rfl
@[simp] theorem setFlags_nmiLatch (v : Word) : (s.setFlags v).nmiLatch = s.nmiLatch := rfl
@[simp] theorem setFlags_lock (v : Word) : (s.setFlags v).lock = s.lock := rfl
@[simp] theorem setFlags_halted (v : Word) : (s.setFlags v).halted = s.halted := rfl
@[simp] theorem setFlags_dec (v : Word) : (s.setFlags v).dec = s.dec := rfl
@[simp] theorem setFlags_life (v : Word) : (s.setFlags v).life = s.life := rfl
@[simp] theorem setFlags_sequences (v : Word) : (s.setFlags v).sequences = s.sequences := rfl
@[simp] theorem setFlags_pins (v : Word) : (s.setFlags v).pins = s.pins := rfl
@[simp] theorem setFlags_biu (v : Word) : (s.setFlags v).biu = s.biu := rfl
@[simp] theorem setFlags_dma (v : Word) : (s.setFlags v).dma = s.dma := rfl
@[simp] theorem setFlags_cycles (v : Word) : (s.setFlags v).cycles = s.cycles := rfl
@[simp] theorem setFlags_record (v : Word) : (s.setFlags v).record = s.record := rfl
@[simp] theorem setFlags_mem (v : Word) : (s.setFlags v).mem = s.mem := rfl
@[simp] theorem setFlags_bus (v : Word) : (s.setFlags v).bus = s.bus := rfl
@[simp] theorem setFlags_devIn (v : Word) : (s.setFlags v).devIn = s.devIn := rfl
@[simp] theorem setFlags_script (v : Word) : (s.setFlags v).script = s.script := rfl
@[simp] theorem setFlags_fills (v : Word) : (s.setFlags v).fills = s.fills := rfl
@[simp] theorem setFlags_stale (v : Word) : (s.setFlags v).stale = s.stale := rfl
@[simp] theorem setFlags_steps (v : Word) : (s.setFlags v).steps = s.steps := rfl
@[simp] theorem setFlags_draws (v : Word) : (s.setFlags v).draws = s.draws := rfl
@[simp] theorem setFlags_cfg (v : Word) : (s.setFlags v).cfg = s.cfg := rfl

@[simp] theorem setQueue_gpr (v : List Byte) : (s.setQueue v).gpr = s.gpr := rfl
@[simp] theorem setQueue_seg (v : List Byte) : (s.setQueue v).seg = s.seg := rfl
@[simp] theorem setQueue_ip (v : List Byte) : (s.setQueue v).ip = s.ip := rfl
@[simp] theorem setQueue_pc (v : List Byte) : (s.setQueue v).pc = s.pc := rfl
@[simp] theorem setQueue_flags (v : List Byte) : (s.setQueue v).flags = s.flags := rfl
@[simp] theorem setQueue_queue (v : List Byte) : (s.setQueue v).queue = v := rfl
@[simp] theorem setQueue_nextIsFirst (v : List Byte) : (s.setQueue v).nextIsFirst = s.nextIsFirst := rfl
@[simp] theorem setQueue_lastEa (v : List Byte) : (s.setQueue v).lastEa = s.lastEa := rfl
@[simp] theorem setQueue_eaOpr (v : List Byte) : (s.setQueue v).eaOpr = s.eaOpr := rfl
@[simp] theorem setQueue_inhibit (v : List Byte) : (s.setQueue v).inhibit = s.inhibit := rfl
@[simp] theorem setQueue_nmiLatch (v : List Byte) : (s.setQueue v).nmiLatch = s.nmiLatch := rfl
@[simp] theorem setQueue_lock (v : List Byte) : (s.setQueue v).lock = s.lock := rfl
@[simp] theorem setQueue_halted (v : List Byte) : (s.setQueue v).halted = s.halted := rfl
@[simp] theorem setQueue_dec (v : List Byte) : (s.setQueue v).dec = s.dec := rfl
@[simp] theorem setQueue_life (v : List Byte) : (s.setQueue v).life = s.life := rfl
@[simp] theorem setQueue_sequences (v : List Byte) : (s.setQueue v).sequences = s.sequences := rfl
@[simp] theorem setQueue_pins (v : List Byte) : (s.setQueue v).pins = s.pins := rfl
@[simp] theorem setQueue_biu (v : List Byte) : (s.setQueue v).biu = s.biu := rfl
@[simp] theorem setQueue_dma (v : List Byte) : (s.setQueue v).dma = s.dma := rfl
@[simp] theorem setQueue_cycles (v : List Byte) : (s.setQueue v).cycles = s.cycles := rfl
@[simp] theorem setQueue_record (v : List Byte) : (s.setQueue v).record = s.record := rfl
@[simp] theorem setQueue_mem (v : List Byte) : (s.setQueue v).mem = s.mem := rfl
@[simp] theorem setQueue_bus (v : List Byte) : (s.setQueue v).bus = s.bus := rfl
@[simp] theorem setQueue_devIn (v : List Byte) : (s.setQueue v).devIn = s.devIn := rfl
@[simp] theorem setQueue_script (v : List Byte) : (s.setQueue v).script = s.script := rfl
@[simp] theorem setQueue_fills (v : List Byte) : (s.setQueue v).fills = s.fills := rfl
@[simp] theorem setQueue_stale (v : List Byte) : (s.setQueue v).stale = s.stale := rfl
@[simp] theorem setQueue_steps (v : List Byte) : (s.setQueue v).steps = s.steps := rfl
@[simp] theorem setQueue_draws (v : List Byte) : (s.setQueue v).draws = s.draws := rfl
@[simp] theorem setQueue_cfg (v : List Byte) : (s.setQueue v).cfg = s.cfg := rfl

@[simp] theorem setNextIsFirst_gpr (v : Bool) : (s.setNextIsFirst v).gpr = s.gpr := rfl
@[simp] theorem setNextIsFirst_seg (v : Bool) : (s.setNextIsFirst v).seg = s.seg := rfl
@[simp] theorem setNextIsFirst_ip (v : Bool) : (s.setNextIsFirst v).ip = s.ip := rfl
@[simp] theorem setNextIsFirst_pc (v : Bool) : (s.setNextIsFirst v).pc = s.pc := rfl
@[simp] theorem setNextIsFirst_flags (v : Bool) : (s.setNextIsFirst v).flags = s.flags := rfl
@[simp] theorem setNextIsFirst_queue (v : Bool) : (s.setNextIsFirst v).queue = s.queue := rfl
@[simp] theorem setNextIsFirst_nextIsFirst (v : Bool) : (s.setNextIsFirst v).nextIsFirst = v := rfl
@[simp] theorem setNextIsFirst_lastEa (v : Bool) : (s.setNextIsFirst v).lastEa = s.lastEa := rfl
@[simp] theorem setNextIsFirst_eaOpr (v : Bool) : (s.setNextIsFirst v).eaOpr = s.eaOpr := rfl
@[simp] theorem setNextIsFirst_inhibit (v : Bool) : (s.setNextIsFirst v).inhibit = s.inhibit := rfl
@[simp] theorem setNextIsFirst_nmiLatch (v : Bool) : (s.setNextIsFirst v).nmiLatch = s.nmiLatch := rfl
@[simp] theorem setNextIsFirst_lock (v : Bool) : (s.setNextIsFirst v).lock = s.lock := rfl
@[simp] theorem setNextIsFirst_halted (v : Bool) : (s.setNextIsFirst v).halted = s.halted := rfl
@[simp] theorem setNextIsFirst_dec (v : Bool) : (s.setNextIsFirst v).dec = s.dec := rfl
@[simp] theorem setNextIsFirst_life (v : Bool) : (s.setNextIsFirst v).life = s.life := rfl
@[simp] theorem setNextIsFirst_sequences (v : Bool) : (s.setNextIsFirst v).sequences = s.sequences := rfl
@[simp] theorem setNextIsFirst_pins (v : Bool) : (s.setNextIsFirst v).pins = s.pins := rfl
@[simp] theorem setNextIsFirst_biu (v : Bool) : (s.setNextIsFirst v).biu = s.biu := rfl
@[simp] theorem setNextIsFirst_dma (v : Bool) : (s.setNextIsFirst v).dma = s.dma := rfl
@[simp] theorem setNextIsFirst_cycles (v : Bool) : (s.setNextIsFirst v).cycles = s.cycles := rfl
@[simp] theorem setNextIsFirst_record (v : Bool) : (s.setNextIsFirst v).record = s.record := rfl
@[simp] theorem setNextIsFirst_mem (v : Bool) : (s.setNextIsFirst v).mem = s.mem := rfl
@[simp] theorem setNextIsFirst_bus (v : Bool) : (s.setNextIsFirst v).bus = s.bus := rfl
@[simp] theorem setNextIsFirst_devIn (v : Bool) : (s.setNextIsFirst v).devIn = s.devIn := rfl
@[simp] theorem setNextIsFirst_script (v : Bool) : (s.setNextIsFirst v).script = s.script := rfl
@[simp] theorem setNextIsFirst_fills (v : Bool) : (s.setNextIsFirst v).fills = s.fills := rfl
@[simp] theorem setNextIsFirst_stale (v : Bool) : (s.setNextIsFirst v).stale = s.stale := rfl
@[simp] theorem setNextIsFirst_steps (v : Bool) : (s.setNextIsFirst v).steps = s.steps := rfl
@[simp] theorem setNextIsFirst_draws (v : Bool) : (s.setNextIsFirst v).draws = s.draws := rfl
@[simp] theorem setNextIsFirst_cfg (v : Bool) : (s.setNextIsFirst v).cfg = s.cfg := rfl

@[simp] theorem setLastEa_gpr (v : Word) : (s.setLastEa v).gpr = s.gpr := rfl
@[simp] theorem setLastEa_seg (v : Word) : (s.setLastEa v).seg = s.seg := rfl
@[simp] theorem setLastEa_ip (v : Word) : (s.setLastEa v).ip = s.ip := rfl
@[simp] theorem setLastEa_pc (v : Word) : (s.setLastEa v).pc = s.pc := rfl
@[simp] theorem setLastEa_flags (v : Word) : (s.setLastEa v).flags = s.flags := rfl
@[simp] theorem setLastEa_queue (v : Word) : (s.setLastEa v).queue = s.queue := rfl
@[simp] theorem setLastEa_nextIsFirst (v : Word) : (s.setLastEa v).nextIsFirst = s.nextIsFirst := rfl
@[simp] theorem setLastEa_lastEa (v : Word) : (s.setLastEa v).lastEa = v := rfl
@[simp] theorem setLastEa_eaOpr (v : Word) : (s.setLastEa v).eaOpr = s.eaOpr := rfl
@[simp] theorem setLastEa_inhibit (v : Word) : (s.setLastEa v).inhibit = s.inhibit := rfl
@[simp] theorem setLastEa_nmiLatch (v : Word) : (s.setLastEa v).nmiLatch = s.nmiLatch := rfl
@[simp] theorem setLastEa_lock (v : Word) : (s.setLastEa v).lock = s.lock := rfl
@[simp] theorem setLastEa_halted (v : Word) : (s.setLastEa v).halted = s.halted := rfl
@[simp] theorem setLastEa_dec (v : Word) : (s.setLastEa v).dec = s.dec := rfl
@[simp] theorem setLastEa_life (v : Word) : (s.setLastEa v).life = s.life := rfl
@[simp] theorem setLastEa_sequences (v : Word) : (s.setLastEa v).sequences = s.sequences := rfl
@[simp] theorem setLastEa_pins (v : Word) : (s.setLastEa v).pins = s.pins := rfl
@[simp] theorem setLastEa_biu (v : Word) : (s.setLastEa v).biu = s.biu := rfl
@[simp] theorem setLastEa_dma (v : Word) : (s.setLastEa v).dma = s.dma := rfl
@[simp] theorem setLastEa_cycles (v : Word) : (s.setLastEa v).cycles = s.cycles := rfl
@[simp] theorem setLastEa_record (v : Word) : (s.setLastEa v).record = s.record := rfl
@[simp] theorem setLastEa_mem (v : Word) : (s.setLastEa v).mem = s.mem := rfl
@[simp] theorem setLastEa_bus (v : Word) : (s.setLastEa v).bus = s.bus := rfl
@[simp] theorem setLastEa_devIn (v : Word) : (s.setLastEa v).devIn = s.devIn := rfl
@[simp] theorem setLastEa_script (v : Word) : (s.setLastEa v).script = s.script := rfl
@[simp] theorem setLastEa_fills (v : Word) : (s.setLastEa v).fills = s.fills := rfl
@[simp] theorem setLastEa_stale (v : Word) : (s.setLastEa v).stale = s.stale := rfl
@[simp] theorem setLastEa_steps (v : Word) : (s.setLastEa v).steps = s.steps := rfl
@[simp] theorem setLastEa_draws (v : Word) : (s.setLastEa v).draws = s.draws := rfl
@[simp] theorem setLastEa_cfg (v : Word) : (s.setLastEa v).cfg = s.cfg := rfl

@[simp] theorem setEaOpr_gpr (v : Word) : (s.setEaOpr v).gpr = s.gpr := rfl
@[simp] theorem setEaOpr_seg (v : Word) : (s.setEaOpr v).seg = s.seg := rfl
@[simp] theorem setEaOpr_ip (v : Word) : (s.setEaOpr v).ip = s.ip := rfl
@[simp] theorem setEaOpr_pc (v : Word) : (s.setEaOpr v).pc = s.pc := rfl
@[simp] theorem setEaOpr_flags (v : Word) : (s.setEaOpr v).flags = s.flags := rfl
@[simp] theorem setEaOpr_queue (v : Word) : (s.setEaOpr v).queue = s.queue := rfl
@[simp] theorem setEaOpr_nextIsFirst (v : Word) : (s.setEaOpr v).nextIsFirst = s.nextIsFirst := rfl
@[simp] theorem setEaOpr_lastEa (v : Word) : (s.setEaOpr v).lastEa = s.lastEa := rfl
@[simp] theorem setEaOpr_eaOpr (v : Word) : (s.setEaOpr v).eaOpr = v := rfl
@[simp] theorem setEaOpr_inhibit (v : Word) : (s.setEaOpr v).inhibit = s.inhibit := rfl
@[simp] theorem setEaOpr_nmiLatch (v : Word) : (s.setEaOpr v).nmiLatch = s.nmiLatch := rfl
@[simp] theorem setEaOpr_lock (v : Word) : (s.setEaOpr v).lock = s.lock := rfl
@[simp] theorem setEaOpr_halted (v : Word) : (s.setEaOpr v).halted = s.halted := rfl
@[simp] theorem setEaOpr_dec (v : Word) : (s.setEaOpr v).dec = s.dec := rfl
@[simp] theorem setEaOpr_life (v : Word) : (s.setEaOpr v).life = s.life := rfl
@[simp] theorem setEaOpr_sequences (v : Word) : (s.setEaOpr v).sequences = s.sequences := rfl
@[simp] theorem setEaOpr_pins (v : Word) : (s.setEaOpr v).pins = s.pins := rfl
@[simp] theorem setEaOpr_biu (v : Word) : (s.setEaOpr v).biu = s.biu := rfl
@[simp] theorem setEaOpr_dma (v : Word) : (s.setEaOpr v).dma = s.dma := rfl
@[simp] theorem setEaOpr_cycles (v : Word) : (s.setEaOpr v).cycles = s.cycles := rfl
@[simp] theorem setEaOpr_record (v : Word) : (s.setEaOpr v).record = s.record := rfl
@[simp] theorem setEaOpr_mem (v : Word) : (s.setEaOpr v).mem = s.mem := rfl
@[simp] theorem setEaOpr_bus (v : Word) : (s.setEaOpr v).bus = s.bus := rfl
@[simp] theorem setEaOpr_devIn (v : Word) : (s.setEaOpr v).devIn = s.devIn := rfl
@[simp] theorem setEaOpr_script (v : Word) : (s.setEaOpr v).script = s.script := rfl
@[simp] theorem setEaOpr_fills (v : Word) : (s.setEaOpr v).fills = s.fills := rfl
@[simp] theorem setEaOpr_stale (v : Word) : (s.setEaOpr v).stale = s.stale := rfl
@[simp] theorem setEaOpr_steps (v : Word) : (s.setEaOpr v).steps = s.steps := rfl
@[simp] theorem setEaOpr_draws (v : Word) : (s.setEaOpr v).draws = s.draws := rfl
@[simp] theorem setEaOpr_cfg (v : Word) : (s.setEaOpr v).cfg = s.cfg := rfl

@[simp] theorem setInhibit_gpr (v : Bool) : (s.setInhibit v).gpr = s.gpr := rfl
@[simp] theorem setInhibit_seg (v : Bool) : (s.setInhibit v).seg = s.seg := rfl
@[simp] theorem setInhibit_ip (v : Bool) : (s.setInhibit v).ip = s.ip := rfl
@[simp] theorem setInhibit_pc (v : Bool) : (s.setInhibit v).pc = s.pc := rfl
@[simp] theorem setInhibit_flags (v : Bool) : (s.setInhibit v).flags = s.flags := rfl
@[simp] theorem setInhibit_queue (v : Bool) : (s.setInhibit v).queue = s.queue := rfl
@[simp] theorem setInhibit_nextIsFirst (v : Bool) : (s.setInhibit v).nextIsFirst = s.nextIsFirst := rfl
@[simp] theorem setInhibit_lastEa (v : Bool) : (s.setInhibit v).lastEa = s.lastEa := rfl
@[simp] theorem setInhibit_eaOpr (v : Bool) : (s.setInhibit v).eaOpr = s.eaOpr := rfl
@[simp] theorem setInhibit_inhibit (v : Bool) : (s.setInhibit v).inhibit = v := rfl
@[simp] theorem setInhibit_nmiLatch (v : Bool) : (s.setInhibit v).nmiLatch = s.nmiLatch := rfl
@[simp] theorem setInhibit_lock (v : Bool) : (s.setInhibit v).lock = s.lock := rfl
@[simp] theorem setInhibit_halted (v : Bool) : (s.setInhibit v).halted = s.halted := rfl
@[simp] theorem setInhibit_dec (v : Bool) : (s.setInhibit v).dec = s.dec := rfl
@[simp] theorem setInhibit_life (v : Bool) : (s.setInhibit v).life = s.life := rfl
@[simp] theorem setInhibit_sequences (v : Bool) : (s.setInhibit v).sequences = s.sequences := rfl
@[simp] theorem setInhibit_pins (v : Bool) : (s.setInhibit v).pins = s.pins := rfl
@[simp] theorem setInhibit_biu (v : Bool) : (s.setInhibit v).biu = s.biu := rfl
@[simp] theorem setInhibit_dma (v : Bool) : (s.setInhibit v).dma = s.dma := rfl
@[simp] theorem setInhibit_cycles (v : Bool) : (s.setInhibit v).cycles = s.cycles := rfl
@[simp] theorem setInhibit_record (v : Bool) : (s.setInhibit v).record = s.record := rfl
@[simp] theorem setInhibit_mem (v : Bool) : (s.setInhibit v).mem = s.mem := rfl
@[simp] theorem setInhibit_bus (v : Bool) : (s.setInhibit v).bus = s.bus := rfl
@[simp] theorem setInhibit_devIn (v : Bool) : (s.setInhibit v).devIn = s.devIn := rfl
@[simp] theorem setInhibit_script (v : Bool) : (s.setInhibit v).script = s.script := rfl
@[simp] theorem setInhibit_fills (v : Bool) : (s.setInhibit v).fills = s.fills := rfl
@[simp] theorem setInhibit_stale (v : Bool) : (s.setInhibit v).stale = s.stale := rfl
@[simp] theorem setInhibit_steps (v : Bool) : (s.setInhibit v).steps = s.steps := rfl
@[simp] theorem setInhibit_draws (v : Bool) : (s.setInhibit v).draws = s.draws := rfl
@[simp] theorem setInhibit_cfg (v : Bool) : (s.setInhibit v).cfg = s.cfg := rfl

@[simp] theorem setNmiLatch_gpr (v : Bool) : (s.setNmiLatch v).gpr = s.gpr := rfl
@[simp] theorem setNmiLatch_seg (v : Bool) : (s.setNmiLatch v).seg = s.seg := rfl
@[simp] theorem setNmiLatch_ip (v : Bool) : (s.setNmiLatch v).ip = s.ip := rfl
@[simp] theorem setNmiLatch_pc (v : Bool) : (s.setNmiLatch v).pc = s.pc := rfl
@[simp] theorem setNmiLatch_flags (v : Bool) : (s.setNmiLatch v).flags = s.flags := rfl
@[simp] theorem setNmiLatch_queue (v : Bool) : (s.setNmiLatch v).queue = s.queue := rfl
@[simp] theorem setNmiLatch_nextIsFirst (v : Bool) : (s.setNmiLatch v).nextIsFirst = s.nextIsFirst := rfl
@[simp] theorem setNmiLatch_lastEa (v : Bool) : (s.setNmiLatch v).lastEa = s.lastEa := rfl
@[simp] theorem setNmiLatch_eaOpr (v : Bool) : (s.setNmiLatch v).eaOpr = s.eaOpr := rfl
@[simp] theorem setNmiLatch_inhibit (v : Bool) : (s.setNmiLatch v).inhibit = s.inhibit := rfl
@[simp] theorem setNmiLatch_nmiLatch (v : Bool) : (s.setNmiLatch v).nmiLatch = v := rfl
@[simp] theorem setNmiLatch_lock (v : Bool) : (s.setNmiLatch v).lock = s.lock := rfl
@[simp] theorem setNmiLatch_halted (v : Bool) : (s.setNmiLatch v).halted = s.halted := rfl
@[simp] theorem setNmiLatch_dec (v : Bool) : (s.setNmiLatch v).dec = s.dec := rfl
@[simp] theorem setNmiLatch_life (v : Bool) : (s.setNmiLatch v).life = s.life := rfl
@[simp] theorem setNmiLatch_sequences (v : Bool) : (s.setNmiLatch v).sequences = s.sequences := rfl
@[simp] theorem setNmiLatch_pins (v : Bool) : (s.setNmiLatch v).pins = s.pins := rfl
@[simp] theorem setNmiLatch_biu (v : Bool) : (s.setNmiLatch v).biu = s.biu := rfl
@[simp] theorem setNmiLatch_dma (v : Bool) : (s.setNmiLatch v).dma = s.dma := rfl
@[simp] theorem setNmiLatch_cycles (v : Bool) : (s.setNmiLatch v).cycles = s.cycles := rfl
@[simp] theorem setNmiLatch_record (v : Bool) : (s.setNmiLatch v).record = s.record := rfl
@[simp] theorem setNmiLatch_mem (v : Bool) : (s.setNmiLatch v).mem = s.mem := rfl
@[simp] theorem setNmiLatch_bus (v : Bool) : (s.setNmiLatch v).bus = s.bus := rfl
@[simp] theorem setNmiLatch_devIn (v : Bool) : (s.setNmiLatch v).devIn = s.devIn := rfl
@[simp] theorem setNmiLatch_script (v : Bool) : (s.setNmiLatch v).script = s.script := rfl
@[simp] theorem setNmiLatch_fills (v : Bool) : (s.setNmiLatch v).fills = s.fills := rfl
@[simp] theorem setNmiLatch_stale (v : Bool) : (s.setNmiLatch v).stale = s.stale := rfl
@[simp] theorem setNmiLatch_steps (v : Bool) : (s.setNmiLatch v).steps = s.steps := rfl
@[simp] theorem setNmiLatch_draws (v : Bool) : (s.setNmiLatch v).draws = s.draws := rfl
@[simp] theorem setNmiLatch_cfg (v : Bool) : (s.setNmiLatch v).cfg = s.cfg := rfl

@[simp] theorem setLock_gpr (v : Bool) : (s.setLock v).gpr = s.gpr := rfl
@[simp] theorem setLock_seg (v : Bool) : (s.setLock v).seg = s.seg := rfl
@[simp] theorem setLock_ip (v : Bool) : (s.setLock v).ip = s.ip := rfl
@[simp] theorem setLock_pc (v : Bool) : (s.setLock v).pc = s.pc := rfl
@[simp] theorem setLock_flags (v : Bool) : (s.setLock v).flags = s.flags := rfl
@[simp] theorem setLock_queue (v : Bool) : (s.setLock v).queue = s.queue := rfl
@[simp] theorem setLock_nextIsFirst (v : Bool) : (s.setLock v).nextIsFirst = s.nextIsFirst := rfl
@[simp] theorem setLock_lastEa (v : Bool) : (s.setLock v).lastEa = s.lastEa := rfl
@[simp] theorem setLock_eaOpr (v : Bool) : (s.setLock v).eaOpr = s.eaOpr := rfl
@[simp] theorem setLock_inhibit (v : Bool) : (s.setLock v).inhibit = s.inhibit := rfl
@[simp] theorem setLock_nmiLatch (v : Bool) : (s.setLock v).nmiLatch = s.nmiLatch := rfl
@[simp] theorem setLock_lock (v : Bool) : (s.setLock v).lock = v := rfl
@[simp] theorem setLock_halted (v : Bool) : (s.setLock v).halted = s.halted := rfl
@[simp] theorem setLock_dec (v : Bool) : (s.setLock v).dec = s.dec := rfl
@[simp] theorem setLock_life (v : Bool) : (s.setLock v).life = s.life := rfl
@[simp] theorem setLock_sequences (v : Bool) : (s.setLock v).sequences = s.sequences := rfl
@[simp] theorem setLock_pins (v : Bool) : (s.setLock v).pins = s.pins := rfl
@[simp] theorem setLock_biu (v : Bool) : (s.setLock v).biu = s.biu := rfl
@[simp] theorem setLock_dma (v : Bool) : (s.setLock v).dma = s.dma := rfl
@[simp] theorem setLock_cycles (v : Bool) : (s.setLock v).cycles = s.cycles := rfl
@[simp] theorem setLock_record (v : Bool) : (s.setLock v).record = s.record := rfl
@[simp] theorem setLock_mem (v : Bool) : (s.setLock v).mem = s.mem := rfl
@[simp] theorem setLock_bus (v : Bool) : (s.setLock v).bus = s.bus := rfl
@[simp] theorem setLock_devIn (v : Bool) : (s.setLock v).devIn = s.devIn := rfl
@[simp] theorem setLock_script (v : Bool) : (s.setLock v).script = s.script := rfl
@[simp] theorem setLock_fills (v : Bool) : (s.setLock v).fills = s.fills := rfl
@[simp] theorem setLock_stale (v : Bool) : (s.setLock v).stale = s.stale := rfl
@[simp] theorem setLock_steps (v : Bool) : (s.setLock v).steps = s.steps := rfl
@[simp] theorem setLock_draws (v : Bool) : (s.setLock v).draws = s.draws := rfl
@[simp] theorem setLock_cfg (v : Bool) : (s.setLock v).cfg = s.cfg := rfl

@[simp] theorem setHalted_gpr (v : Bool) : (s.setHalted v).gpr = s.gpr := rfl
@[simp] theorem setHalted_seg (v : Bool) : (s.setHalted v).seg = s.seg := rfl
@[simp] theorem setHalted_ip (v : Bool) : (s.setHalted v).ip = s.ip := rfl
@[simp] theorem setHalted_pc (v : Bool) : (s.setHalted v).pc = s.pc := rfl
@[simp] theorem setHalted_flags (v : Bool) : (s.setHalted v).flags = s.flags := rfl
@[simp] theorem setHalted_queue (v : Bool) : (s.setHalted v).queue = s.queue := rfl
@[simp] theorem setHalted_nextIsFirst (v : Bool) : (s.setHalted v).nextIsFirst = s.nextIsFirst := rfl
@[simp] theorem setHalted_lastEa (v : Bool) : (s.setHalted v).lastEa = s.lastEa := rfl
@[simp] theorem setHalted_eaOpr (v : Bool) : (s.setHalted v).eaOpr = s.eaOpr := rfl
@[simp] theorem setHalted_inhibit (v : Bool) : (s.setHalted v).inhibit = s.inhibit := rfl
@[simp] theorem setHalted_nmiLatch (v : Bool) : (s.setHalted v).nmiLatch = s.nmiLatch := rfl
@[simp] theorem setHalted_lock (v : Bool) : (s.setHalted v).lock = s.lock := rfl
@[simp] theorem setHalted_halted (v : Bool) : (s.setHalted v).halted = v := rfl
@[simp] theorem setHalted_dec (v : Bool) : (s.setHalted v).dec = s.dec := rfl
@[simp] theorem setHalted_life (v : Bool) : (s.setHalted v).life = s.life := rfl
@[simp] theorem setHalted_sequences (v : Bool) : (s.setHalted v).sequences = s.sequences := rfl
@[simp] theorem setHalted_pins (v : Bool) : (s.setHalted v).pins = s.pins := rfl
@[simp] theorem setHalted_biu (v : Bool) : (s.setHalted v).biu = s.biu := rfl
@[simp] theorem setHalted_dma (v : Bool) : (s.setHalted v).dma = s.dma := rfl
@[simp] theorem setHalted_cycles (v : Bool) : (s.setHalted v).cycles = s.cycles := rfl
@[simp] theorem setHalted_record (v : Bool) : (s.setHalted v).record = s.record := rfl
@[simp] theorem setHalted_mem (v : Bool) : (s.setHalted v).mem = s.mem := rfl
@[simp] theorem setHalted_bus (v : Bool) : (s.setHalted v).bus = s.bus := rfl
@[simp] theorem setHalted_devIn (v : Bool) : (s.setHalted v).devIn = s.devIn := rfl
@[simp] theorem setHalted_script (v : Bool) : (s.setHalted v).script = s.script := rfl
@[simp] theorem setHalted_fills (v : Bool) : (s.setHalted v).fills = s.fills := rfl
@[simp] theorem setHalted_stale (v : Bool) : (s.setHalted v).stale = s.stale := rfl
@[simp] theorem setHalted_steps (v : Bool) : (s.setHalted v).steps = s.steps := rfl
@[simp] theorem setHalted_draws (v : Bool) : (s.setHalted v).draws = s.draws := rfl
@[simp] theorem setHalted_cfg (v : Bool) : (s.setHalted v).cfg = s.cfg := rfl

@[simp] theorem setDec_gpr (v : DecodeState) : (s.setDec v).gpr = s.gpr := rfl
@[simp] theorem setDec_seg (v : DecodeState) : (s.setDec v).seg = s.seg := rfl
@[simp] theorem setDec_ip (v : DecodeState) : (s.setDec v).ip = s.ip := rfl
@[simp] theorem setDec_pc (v : DecodeState) : (s.setDec v).pc = s.pc := rfl
@[simp] theorem setDec_flags (v : DecodeState) : (s.setDec v).flags = s.flags := rfl
@[simp] theorem setDec_queue (v : DecodeState) : (s.setDec v).queue = s.queue := rfl
@[simp] theorem setDec_nextIsFirst (v : DecodeState) : (s.setDec v).nextIsFirst = s.nextIsFirst := rfl
@[simp] theorem setDec_lastEa (v : DecodeState) : (s.setDec v).lastEa = s.lastEa := rfl
@[simp] theorem setDec_eaOpr (v : DecodeState) : (s.setDec v).eaOpr = s.eaOpr := rfl
@[simp] theorem setDec_inhibit (v : DecodeState) : (s.setDec v).inhibit = s.inhibit := rfl
@[simp] theorem setDec_nmiLatch (v : DecodeState) : (s.setDec v).nmiLatch = s.nmiLatch := rfl
@[simp] theorem setDec_lock (v : DecodeState) : (s.setDec v).lock = s.lock := rfl
@[simp] theorem setDec_halted (v : DecodeState) : (s.setDec v).halted = s.halted := rfl
@[simp] theorem setDec_dec (v : DecodeState) : (s.setDec v).dec = v := rfl
@[simp] theorem setDec_life (v : DecodeState) : (s.setDec v).life = s.life := rfl
@[simp] theorem setDec_sequences (v : DecodeState) : (s.setDec v).sequences = s.sequences := rfl
@[simp] theorem setDec_pins (v : DecodeState) : (s.setDec v).pins = s.pins := rfl
@[simp] theorem setDec_biu (v : DecodeState) : (s.setDec v).biu = s.biu := rfl
@[simp] theorem setDec_dma (v : DecodeState) : (s.setDec v).dma = s.dma := rfl
@[simp] theorem setDec_cycles (v : DecodeState) : (s.setDec v).cycles = s.cycles := rfl
@[simp] theorem setDec_record (v : DecodeState) : (s.setDec v).record = s.record := rfl
@[simp] theorem setDec_mem (v : DecodeState) : (s.setDec v).mem = s.mem := rfl
@[simp] theorem setDec_bus (v : DecodeState) : (s.setDec v).bus = s.bus := rfl
@[simp] theorem setDec_devIn (v : DecodeState) : (s.setDec v).devIn = s.devIn := rfl
@[simp] theorem setDec_script (v : DecodeState) : (s.setDec v).script = s.script := rfl
@[simp] theorem setDec_fills (v : DecodeState) : (s.setDec v).fills = s.fills := rfl
@[simp] theorem setDec_stale (v : DecodeState) : (s.setDec v).stale = s.stale := rfl
@[simp] theorem setDec_steps (v : DecodeState) : (s.setDec v).steps = s.steps := rfl
@[simp] theorem setDec_draws (v : DecodeState) : (s.setDec v).draws = s.draws := rfl
@[simp] theorem setDec_cfg (v : DecodeState) : (s.setDec v).cfg = s.cfg := rfl

@[simp] theorem setLife_gpr (v : Life) : (s.setLife v).gpr = s.gpr := rfl
@[simp] theorem setLife_seg (v : Life) : (s.setLife v).seg = s.seg := rfl
@[simp] theorem setLife_ip (v : Life) : (s.setLife v).ip = s.ip := rfl
@[simp] theorem setLife_pc (v : Life) : (s.setLife v).pc = s.pc := rfl
@[simp] theorem setLife_flags (v : Life) : (s.setLife v).flags = s.flags := rfl
@[simp] theorem setLife_queue (v : Life) : (s.setLife v).queue = s.queue := rfl
@[simp] theorem setLife_nextIsFirst (v : Life) : (s.setLife v).nextIsFirst = s.nextIsFirst := rfl
@[simp] theorem setLife_lastEa (v : Life) : (s.setLife v).lastEa = s.lastEa := rfl
@[simp] theorem setLife_eaOpr (v : Life) : (s.setLife v).eaOpr = s.eaOpr := rfl
@[simp] theorem setLife_inhibit (v : Life) : (s.setLife v).inhibit = s.inhibit := rfl
@[simp] theorem setLife_nmiLatch (v : Life) : (s.setLife v).nmiLatch = s.nmiLatch := rfl
@[simp] theorem setLife_lock (v : Life) : (s.setLife v).lock = s.lock := rfl
@[simp] theorem setLife_halted (v : Life) : (s.setLife v).halted = s.halted := rfl
@[simp] theorem setLife_dec (v : Life) : (s.setLife v).dec = s.dec := rfl
@[simp] theorem setLife_life (v : Life) : (s.setLife v).life = v := rfl
@[simp] theorem setLife_sequences (v : Life) : (s.setLife v).sequences = s.sequences := rfl
@[simp] theorem setLife_pins (v : Life) : (s.setLife v).pins = s.pins := rfl
@[simp] theorem setLife_biu (v : Life) : (s.setLife v).biu = s.biu := rfl
@[simp] theorem setLife_dma (v : Life) : (s.setLife v).dma = s.dma := rfl
@[simp] theorem setLife_cycles (v : Life) : (s.setLife v).cycles = s.cycles := rfl
@[simp] theorem setLife_record (v : Life) : (s.setLife v).record = s.record := rfl
@[simp] theorem setLife_mem (v : Life) : (s.setLife v).mem = s.mem := rfl
@[simp] theorem setLife_bus (v : Life) : (s.setLife v).bus = s.bus := rfl
@[simp] theorem setLife_devIn (v : Life) : (s.setLife v).devIn = s.devIn := rfl
@[simp] theorem setLife_script (v : Life) : (s.setLife v).script = s.script := rfl
@[simp] theorem setLife_fills (v : Life) : (s.setLife v).fills = s.fills := rfl
@[simp] theorem setLife_stale (v : Life) : (s.setLife v).stale = s.stale := rfl
@[simp] theorem setLife_steps (v : Life) : (s.setLife v).steps = s.steps := rfl
@[simp] theorem setLife_draws (v : Life) : (s.setLife v).draws = s.draws := rfl
@[simp] theorem setLife_cfg (v : Life) : (s.setLife v).cfg = s.cfg := rfl

@[simp] theorem setSequences_gpr (v : List IntSequence) : (s.setSequences v).gpr = s.gpr := rfl
@[simp] theorem setSequences_seg (v : List IntSequence) : (s.setSequences v).seg = s.seg := rfl
@[simp] theorem setSequences_ip (v : List IntSequence) : (s.setSequences v).ip = s.ip := rfl
@[simp] theorem setSequences_pc (v : List IntSequence) : (s.setSequences v).pc = s.pc := rfl
@[simp] theorem setSequences_flags (v : List IntSequence) : (s.setSequences v).flags = s.flags := rfl
@[simp] theorem setSequences_queue (v : List IntSequence) : (s.setSequences v).queue = s.queue := rfl
@[simp] theorem setSequences_nextIsFirst (v : List IntSequence) : (s.setSequences v).nextIsFirst = s.nextIsFirst := rfl
@[simp] theorem setSequences_lastEa (v : List IntSequence) : (s.setSequences v).lastEa = s.lastEa := rfl
@[simp] theorem setSequences_eaOpr (v : List IntSequence) : (s.setSequences v).eaOpr = s.eaOpr := rfl
@[simp] theorem setSequences_inhibit (v : List IntSequence) : (s.setSequences v).inhibit = s.inhibit := rfl
@[simp] theorem setSequences_nmiLatch (v : List IntSequence) : (s.setSequences v).nmiLatch = s.nmiLatch := rfl
@[simp] theorem setSequences_lock (v : List IntSequence) : (s.setSequences v).lock = s.lock := rfl
@[simp] theorem setSequences_halted (v : List IntSequence) : (s.setSequences v).halted = s.halted := rfl
@[simp] theorem setSequences_dec (v : List IntSequence) : (s.setSequences v).dec = s.dec := rfl
@[simp] theorem setSequences_life (v : List IntSequence) : (s.setSequences v).life = s.life := rfl
@[simp] theorem setSequences_sequences (v : List IntSequence) : (s.setSequences v).sequences = v := rfl
@[simp] theorem setSequences_pins (v : List IntSequence) : (s.setSequences v).pins = s.pins := rfl
@[simp] theorem setSequences_biu (v : List IntSequence) : (s.setSequences v).biu = s.biu := rfl
@[simp] theorem setSequences_dma (v : List IntSequence) : (s.setSequences v).dma = s.dma := rfl
@[simp] theorem setSequences_cycles (v : List IntSequence) : (s.setSequences v).cycles = s.cycles := rfl
@[simp] theorem setSequences_record (v : List IntSequence) : (s.setSequences v).record = s.record := rfl
@[simp] theorem setSequences_mem (v : List IntSequence) : (s.setSequences v).mem = s.mem := rfl
@[simp] theorem setSequences_bus (v : List IntSequence) : (s.setSequences v).bus = s.bus := rfl
@[simp] theorem setSequences_devIn (v : List IntSequence) : (s.setSequences v).devIn = s.devIn := rfl
@[simp] theorem setSequences_script (v : List IntSequence) : (s.setSequences v).script = s.script := rfl
@[simp] theorem setSequences_fills (v : List IntSequence) : (s.setSequences v).fills = s.fills := rfl
@[simp] theorem setSequences_stale (v : List IntSequence) : (s.setSequences v).stale = s.stale := rfl
@[simp] theorem setSequences_steps (v : List IntSequence) : (s.setSequences v).steps = s.steps := rfl
@[simp] theorem setSequences_draws (v : List IntSequence) : (s.setSequences v).draws = s.draws := rfl
@[simp] theorem setSequences_cfg (v : List IntSequence) : (s.setSequences v).cfg = s.cfg := rfl

@[simp] theorem setPins_gpr (v : Pins) : (s.setPins v).gpr = s.gpr := rfl
@[simp] theorem setPins_seg (v : Pins) : (s.setPins v).seg = s.seg := rfl
@[simp] theorem setPins_ip (v : Pins) : (s.setPins v).ip = s.ip := rfl
@[simp] theorem setPins_pc (v : Pins) : (s.setPins v).pc = s.pc := rfl
@[simp] theorem setPins_flags (v : Pins) : (s.setPins v).flags = s.flags := rfl
@[simp] theorem setPins_queue (v : Pins) : (s.setPins v).queue = s.queue := rfl
@[simp] theorem setPins_nextIsFirst (v : Pins) : (s.setPins v).nextIsFirst = s.nextIsFirst := rfl
@[simp] theorem setPins_lastEa (v : Pins) : (s.setPins v).lastEa = s.lastEa := rfl
@[simp] theorem setPins_eaOpr (v : Pins) : (s.setPins v).eaOpr = s.eaOpr := rfl
@[simp] theorem setPins_inhibit (v : Pins) : (s.setPins v).inhibit = s.inhibit := rfl
@[simp] theorem setPins_nmiLatch (v : Pins) : (s.setPins v).nmiLatch = s.nmiLatch := rfl
@[simp] theorem setPins_lock (v : Pins) : (s.setPins v).lock = s.lock := rfl
@[simp] theorem setPins_halted (v : Pins) : (s.setPins v).halted = s.halted := rfl
@[simp] theorem setPins_dec (v : Pins) : (s.setPins v).dec = s.dec := rfl
@[simp] theorem setPins_life (v : Pins) : (s.setPins v).life = s.life := rfl
@[simp] theorem setPins_sequences (v : Pins) : (s.setPins v).sequences = s.sequences := rfl
@[simp] theorem setPins_pins (v : Pins) : (s.setPins v).pins = v := rfl
@[simp] theorem setPins_biu (v : Pins) : (s.setPins v).biu = s.biu := rfl
@[simp] theorem setPins_dma (v : Pins) : (s.setPins v).dma = s.dma := rfl
@[simp] theorem setPins_cycles (v : Pins) : (s.setPins v).cycles = s.cycles := rfl
@[simp] theorem setPins_record (v : Pins) : (s.setPins v).record = s.record := rfl
@[simp] theorem setPins_mem (v : Pins) : (s.setPins v).mem = s.mem := rfl
@[simp] theorem setPins_bus (v : Pins) : (s.setPins v).bus = s.bus := rfl
@[simp] theorem setPins_devIn (v : Pins) : (s.setPins v).devIn = s.devIn := rfl
@[simp] theorem setPins_script (v : Pins) : (s.setPins v).script = s.script := rfl
@[simp] theorem setPins_fills (v : Pins) : (s.setPins v).fills = s.fills := rfl
@[simp] theorem setPins_stale (v : Pins) : (s.setPins v).stale = s.stale := rfl
@[simp] theorem setPins_steps (v : Pins) : (s.setPins v).steps = s.steps := rfl
@[simp] theorem setPins_draws (v : Pins) : (s.setPins v).draws = s.draws := rfl
@[simp] theorem setPins_cfg (v : Pins) : (s.setPins v).cfg = s.cfg := rfl

@[simp] theorem setBiu_gpr (v : Biu) : (s.setBiu v).gpr = s.gpr := rfl
@[simp] theorem setBiu_seg (v : Biu) : (s.setBiu v).seg = s.seg := rfl
@[simp] theorem setBiu_ip (v : Biu) : (s.setBiu v).ip = s.ip := rfl
@[simp] theorem setBiu_pc (v : Biu) : (s.setBiu v).pc = s.pc := rfl
@[simp] theorem setBiu_flags (v : Biu) : (s.setBiu v).flags = s.flags := rfl
@[simp] theorem setBiu_queue (v : Biu) : (s.setBiu v).queue = s.queue := rfl
@[simp] theorem setBiu_nextIsFirst (v : Biu) : (s.setBiu v).nextIsFirst = s.nextIsFirst := rfl
@[simp] theorem setBiu_lastEa (v : Biu) : (s.setBiu v).lastEa = s.lastEa := rfl
@[simp] theorem setBiu_eaOpr (v : Biu) : (s.setBiu v).eaOpr = s.eaOpr := rfl
@[simp] theorem setBiu_inhibit (v : Biu) : (s.setBiu v).inhibit = s.inhibit := rfl
@[simp] theorem setBiu_nmiLatch (v : Biu) : (s.setBiu v).nmiLatch = s.nmiLatch := rfl
@[simp] theorem setBiu_lock (v : Biu) : (s.setBiu v).lock = s.lock := rfl
@[simp] theorem setBiu_halted (v : Biu) : (s.setBiu v).halted = s.halted := rfl
@[simp] theorem setBiu_dec (v : Biu) : (s.setBiu v).dec = s.dec := rfl
@[simp] theorem setBiu_life (v : Biu) : (s.setBiu v).life = s.life := rfl
@[simp] theorem setBiu_sequences (v : Biu) : (s.setBiu v).sequences = s.sequences := rfl
@[simp] theorem setBiu_pins (v : Biu) : (s.setBiu v).pins = s.pins := rfl
@[simp] theorem setBiu_biu (v : Biu) : (s.setBiu v).biu = v := rfl
@[simp] theorem setBiu_dma (v : Biu) : (s.setBiu v).dma = s.dma := rfl
@[simp] theorem setBiu_cycles (v : Biu) : (s.setBiu v).cycles = s.cycles := rfl
@[simp] theorem setBiu_record (v : Biu) : (s.setBiu v).record = s.record := rfl
@[simp] theorem setBiu_mem (v : Biu) : (s.setBiu v).mem = s.mem := rfl
@[simp] theorem setBiu_bus (v : Biu) : (s.setBiu v).bus = s.bus := rfl
@[simp] theorem setBiu_devIn (v : Biu) : (s.setBiu v).devIn = s.devIn := rfl
@[simp] theorem setBiu_script (v : Biu) : (s.setBiu v).script = s.script := rfl
@[simp] theorem setBiu_fills (v : Biu) : (s.setBiu v).fills = s.fills := rfl
@[simp] theorem setBiu_stale (v : Biu) : (s.setBiu v).stale = s.stale := rfl
@[simp] theorem setBiu_steps (v : Biu) : (s.setBiu v).steps = s.steps := rfl
@[simp] theorem setBiu_draws (v : Biu) : (s.setBiu v).draws = s.draws := rfl
@[simp] theorem setBiu_cfg (v : Biu) : (s.setBiu v).cfg = s.cfg := rfl

@[simp] theorem setDma_gpr (v : Dma) : (s.setDma v).gpr = s.gpr := rfl
@[simp] theorem setDma_seg (v : Dma) : (s.setDma v).seg = s.seg := rfl
@[simp] theorem setDma_ip (v : Dma) : (s.setDma v).ip = s.ip := rfl
@[simp] theorem setDma_pc (v : Dma) : (s.setDma v).pc = s.pc := rfl
@[simp] theorem setDma_flags (v : Dma) : (s.setDma v).flags = s.flags := rfl
@[simp] theorem setDma_queue (v : Dma) : (s.setDma v).queue = s.queue := rfl
@[simp] theorem setDma_nextIsFirst (v : Dma) : (s.setDma v).nextIsFirst = s.nextIsFirst := rfl
@[simp] theorem setDma_lastEa (v : Dma) : (s.setDma v).lastEa = s.lastEa := rfl
@[simp] theorem setDma_eaOpr (v : Dma) : (s.setDma v).eaOpr = s.eaOpr := rfl
@[simp] theorem setDma_inhibit (v : Dma) : (s.setDma v).inhibit = s.inhibit := rfl
@[simp] theorem setDma_nmiLatch (v : Dma) : (s.setDma v).nmiLatch = s.nmiLatch := rfl
@[simp] theorem setDma_lock (v : Dma) : (s.setDma v).lock = s.lock := rfl
@[simp] theorem setDma_halted (v : Dma) : (s.setDma v).halted = s.halted := rfl
@[simp] theorem setDma_dec (v : Dma) : (s.setDma v).dec = s.dec := rfl
@[simp] theorem setDma_life (v : Dma) : (s.setDma v).life = s.life := rfl
@[simp] theorem setDma_sequences (v : Dma) : (s.setDma v).sequences = s.sequences := rfl
@[simp] theorem setDma_pins (v : Dma) : (s.setDma v).pins = s.pins := rfl
@[simp] theorem setDma_biu (v : Dma) : (s.setDma v).biu = s.biu := rfl
@[simp] theorem setDma_dma (v : Dma) : (s.setDma v).dma = v := rfl
@[simp] theorem setDma_cycles (v : Dma) : (s.setDma v).cycles = s.cycles := rfl
@[simp] theorem setDma_record (v : Dma) : (s.setDma v).record = s.record := rfl
@[simp] theorem setDma_mem (v : Dma) : (s.setDma v).mem = s.mem := rfl
@[simp] theorem setDma_bus (v : Dma) : (s.setDma v).bus = s.bus := rfl
@[simp] theorem setDma_devIn (v : Dma) : (s.setDma v).devIn = s.devIn := rfl
@[simp] theorem setDma_script (v : Dma) : (s.setDma v).script = s.script := rfl
@[simp] theorem setDma_fills (v : Dma) : (s.setDma v).fills = s.fills := rfl
@[simp] theorem setDma_stale (v : Dma) : (s.setDma v).stale = s.stale := rfl
@[simp] theorem setDma_steps (v : Dma) : (s.setDma v).steps = s.steps := rfl
@[simp] theorem setDma_draws (v : Dma) : (s.setDma v).draws = s.draws := rfl
@[simp] theorem setDma_cfg (v : Dma) : (s.setDma v).cfg = s.cfg := rfl

@[simp] theorem setCycles_gpr (v : Nat) : (s.setCycles v).gpr = s.gpr := rfl
@[simp] theorem setCycles_seg (v : Nat) : (s.setCycles v).seg = s.seg := rfl
@[simp] theorem setCycles_ip (v : Nat) : (s.setCycles v).ip = s.ip := rfl
@[simp] theorem setCycles_pc (v : Nat) : (s.setCycles v).pc = s.pc := rfl
@[simp] theorem setCycles_flags (v : Nat) : (s.setCycles v).flags = s.flags := rfl
@[simp] theorem setCycles_queue (v : Nat) : (s.setCycles v).queue = s.queue := rfl
@[simp] theorem setCycles_nextIsFirst (v : Nat) : (s.setCycles v).nextIsFirst = s.nextIsFirst := rfl
@[simp] theorem setCycles_lastEa (v : Nat) : (s.setCycles v).lastEa = s.lastEa := rfl
@[simp] theorem setCycles_eaOpr (v : Nat) : (s.setCycles v).eaOpr = s.eaOpr := rfl
@[simp] theorem setCycles_inhibit (v : Nat) : (s.setCycles v).inhibit = s.inhibit := rfl
@[simp] theorem setCycles_nmiLatch (v : Nat) : (s.setCycles v).nmiLatch = s.nmiLatch := rfl
@[simp] theorem setCycles_lock (v : Nat) : (s.setCycles v).lock = s.lock := rfl
@[simp] theorem setCycles_halted (v : Nat) : (s.setCycles v).halted = s.halted := rfl
@[simp] theorem setCycles_dec (v : Nat) : (s.setCycles v).dec = s.dec := rfl
@[simp] theorem setCycles_life (v : Nat) : (s.setCycles v).life = s.life := rfl
@[simp] theorem setCycles_sequences (v : Nat) : (s.setCycles v).sequences = s.sequences := rfl
@[simp] theorem setCycles_pins (v : Nat) : (s.setCycles v).pins = s.pins := rfl
@[simp] theorem setCycles_biu (v : Nat) : (s.setCycles v).biu = s.biu := rfl
@[simp] theorem setCycles_dma (v : Nat) : (s.setCycles v).dma = s.dma := rfl
@[simp] theorem setCycles_cycles (v : Nat) : (s.setCycles v).cycles = v := rfl
@[simp] theorem setCycles_record (v : Nat) : (s.setCycles v).record = s.record := rfl
@[simp] theorem setCycles_mem (v : Nat) : (s.setCycles v).mem = s.mem := rfl
@[simp] theorem setCycles_bus (v : Nat) : (s.setCycles v).bus = s.bus := rfl
@[simp] theorem setCycles_devIn (v : Nat) : (s.setCycles v).devIn = s.devIn := rfl
@[simp] theorem setCycles_script (v : Nat) : (s.setCycles v).script = s.script := rfl
@[simp] theorem setCycles_fills (v : Nat) : (s.setCycles v).fills = s.fills := rfl
@[simp] theorem setCycles_stale (v : Nat) : (s.setCycles v).stale = s.stale := rfl
@[simp] theorem setCycles_steps (v : Nat) : (s.setCycles v).steps = s.steps := rfl
@[simp] theorem setCycles_draws (v : Nat) : (s.setCycles v).draws = s.draws := rfl
@[simp] theorem setCycles_cfg (v : Nat) : (s.setCycles v).cfg = s.cfg := rfl

@[simp] theorem setRecord_gpr (v : Option CycleRecord) : (s.setRecord v).gpr = s.gpr := rfl
@[simp] theorem setRecord_seg (v : Option CycleRecord) : (s.setRecord v).seg = s.seg := rfl
@[simp] theorem setRecord_ip (v : Option CycleRecord) : (s.setRecord v).ip = s.ip := rfl
@[simp] theorem setRecord_pc (v : Option CycleRecord) : (s.setRecord v).pc = s.pc := rfl
@[simp] theorem setRecord_flags (v : Option CycleRecord) : (s.setRecord v).flags = s.flags := rfl
@[simp] theorem setRecord_queue (v : Option CycleRecord) : (s.setRecord v).queue = s.queue := rfl
@[simp] theorem setRecord_nextIsFirst (v : Option CycleRecord) : (s.setRecord v).nextIsFirst = s.nextIsFirst := rfl
@[simp] theorem setRecord_lastEa (v : Option CycleRecord) : (s.setRecord v).lastEa = s.lastEa := rfl
@[simp] theorem setRecord_eaOpr (v : Option CycleRecord) : (s.setRecord v).eaOpr = s.eaOpr := rfl
@[simp] theorem setRecord_inhibit (v : Option CycleRecord) : (s.setRecord v).inhibit = s.inhibit := rfl
@[simp] theorem setRecord_nmiLatch (v : Option CycleRecord) : (s.setRecord v).nmiLatch = s.nmiLatch := rfl
@[simp] theorem setRecord_lock (v : Option CycleRecord) : (s.setRecord v).lock = s.lock := rfl
@[simp] theorem setRecord_halted (v : Option CycleRecord) : (s.setRecord v).halted = s.halted := rfl
@[simp] theorem setRecord_dec (v : Option CycleRecord) : (s.setRecord v).dec = s.dec := rfl
@[simp] theorem setRecord_life (v : Option CycleRecord) : (s.setRecord v).life = s.life := rfl
@[simp] theorem setRecord_sequences (v : Option CycleRecord) : (s.setRecord v).sequences = s.sequences := rfl
@[simp] theorem setRecord_pins (v : Option CycleRecord) : (s.setRecord v).pins = s.pins := rfl
@[simp] theorem setRecord_biu (v : Option CycleRecord) : (s.setRecord v).biu = s.biu := rfl
@[simp] theorem setRecord_dma (v : Option CycleRecord) : (s.setRecord v).dma = s.dma := rfl
@[simp] theorem setRecord_cycles (v : Option CycleRecord) : (s.setRecord v).cycles = s.cycles := rfl
@[simp] theorem setRecord_record (v : Option CycleRecord) : (s.setRecord v).record = v := rfl
@[simp] theorem setRecord_mem (v : Option CycleRecord) : (s.setRecord v).mem = s.mem := rfl
@[simp] theorem setRecord_bus (v : Option CycleRecord) : (s.setRecord v).bus = s.bus := rfl
@[simp] theorem setRecord_devIn (v : Option CycleRecord) : (s.setRecord v).devIn = s.devIn := rfl
@[simp] theorem setRecord_script (v : Option CycleRecord) : (s.setRecord v).script = s.script := rfl
@[simp] theorem setRecord_fills (v : Option CycleRecord) : (s.setRecord v).fills = s.fills := rfl
@[simp] theorem setRecord_stale (v : Option CycleRecord) : (s.setRecord v).stale = s.stale := rfl
@[simp] theorem setRecord_steps (v : Option CycleRecord) : (s.setRecord v).steps = s.steps := rfl
@[simp] theorem setRecord_draws (v : Option CycleRecord) : (s.setRecord v).draws = s.draws := rfl
@[simp] theorem setRecord_cfg (v : Option CycleRecord) : (s.setRecord v).cfg = s.cfg := rfl

@[simp] theorem setMem_gpr (v : List Host.Cell) : (s.setMem v).gpr = s.gpr := rfl
@[simp] theorem setMem_seg (v : List Host.Cell) : (s.setMem v).seg = s.seg := rfl
@[simp] theorem setMem_ip (v : List Host.Cell) : (s.setMem v).ip = s.ip := rfl
@[simp] theorem setMem_pc (v : List Host.Cell) : (s.setMem v).pc = s.pc := rfl
@[simp] theorem setMem_flags (v : List Host.Cell) : (s.setMem v).flags = s.flags := rfl
@[simp] theorem setMem_queue (v : List Host.Cell) : (s.setMem v).queue = s.queue := rfl
@[simp] theorem setMem_nextIsFirst (v : List Host.Cell) : (s.setMem v).nextIsFirst = s.nextIsFirst := rfl
@[simp] theorem setMem_lastEa (v : List Host.Cell) : (s.setMem v).lastEa = s.lastEa := rfl
@[simp] theorem setMem_eaOpr (v : List Host.Cell) : (s.setMem v).eaOpr = s.eaOpr := rfl
@[simp] theorem setMem_inhibit (v : List Host.Cell) : (s.setMem v).inhibit = s.inhibit := rfl
@[simp] theorem setMem_nmiLatch (v : List Host.Cell) : (s.setMem v).nmiLatch = s.nmiLatch := rfl
@[simp] theorem setMem_lock (v : List Host.Cell) : (s.setMem v).lock = s.lock := rfl
@[simp] theorem setMem_halted (v : List Host.Cell) : (s.setMem v).halted = s.halted := rfl
@[simp] theorem setMem_dec (v : List Host.Cell) : (s.setMem v).dec = s.dec := rfl
@[simp] theorem setMem_life (v : List Host.Cell) : (s.setMem v).life = s.life := rfl
@[simp] theorem setMem_sequences (v : List Host.Cell) : (s.setMem v).sequences = s.sequences := rfl
@[simp] theorem setMem_pins (v : List Host.Cell) : (s.setMem v).pins = s.pins := rfl
@[simp] theorem setMem_biu (v : List Host.Cell) : (s.setMem v).biu = s.biu := rfl
@[simp] theorem setMem_dma (v : List Host.Cell) : (s.setMem v).dma = s.dma := rfl
@[simp] theorem setMem_cycles (v : List Host.Cell) : (s.setMem v).cycles = s.cycles := rfl
@[simp] theorem setMem_record (v : List Host.Cell) : (s.setMem v).record = s.record := rfl
@[simp] theorem setMem_mem (v : List Host.Cell) : (s.setMem v).mem = v := rfl
@[simp] theorem setMem_bus (v : List Host.Cell) : (s.setMem v).bus = s.bus := rfl
@[simp] theorem setMem_devIn (v : List Host.Cell) : (s.setMem v).devIn = s.devIn := rfl
@[simp] theorem setMem_script (v : List Host.Cell) : (s.setMem v).script = s.script := rfl
@[simp] theorem setMem_fills (v : List Host.Cell) : (s.setMem v).fills = s.fills := rfl
@[simp] theorem setMem_stale (v : List Host.Cell) : (s.setMem v).stale = s.stale := rfl
@[simp] theorem setMem_steps (v : List Host.Cell) : (s.setMem v).steps = s.steps := rfl
@[simp] theorem setMem_draws (v : List Host.Cell) : (s.setMem v).draws = s.draws := rfl
@[simp] theorem setMem_cfg (v : List Host.Cell) : (s.setMem v).cfg = s.cfg := rfl

@[simp] theorem setBus_gpr (v : List BusEvent) : (s.setBus v).gpr = s.gpr := rfl
@[simp] theorem setBus_seg (v : List BusEvent) : (s.setBus v).seg = s.seg := rfl
@[simp] theorem setBus_ip (v : List BusEvent) : (s.setBus v).ip = s.ip := rfl
@[simp] theorem setBus_pc (v : List BusEvent) : (s.setBus v).pc = s.pc := rfl
@[simp] theorem setBus_flags (v : List BusEvent) : (s.setBus v).flags = s.flags := rfl
@[simp] theorem setBus_queue (v : List BusEvent) : (s.setBus v).queue = s.queue := rfl
@[simp] theorem setBus_nextIsFirst (v : List BusEvent) : (s.setBus v).nextIsFirst = s.nextIsFirst := rfl
@[simp] theorem setBus_lastEa (v : List BusEvent) : (s.setBus v).lastEa = s.lastEa := rfl
@[simp] theorem setBus_eaOpr (v : List BusEvent) : (s.setBus v).eaOpr = s.eaOpr := rfl
@[simp] theorem setBus_inhibit (v : List BusEvent) : (s.setBus v).inhibit = s.inhibit := rfl
@[simp] theorem setBus_nmiLatch (v : List BusEvent) : (s.setBus v).nmiLatch = s.nmiLatch := rfl
@[simp] theorem setBus_lock (v : List BusEvent) : (s.setBus v).lock = s.lock := rfl
@[simp] theorem setBus_halted (v : List BusEvent) : (s.setBus v).halted = s.halted := rfl
@[simp] theorem setBus_dec (v : List BusEvent) : (s.setBus v).dec = s.dec := rfl
@[simp] theorem setBus_life (v : List BusEvent) : (s.setBus v).life = s.life := rfl
@[simp] theorem setBus_sequences (v : List BusEvent) : (s.setBus v).sequences = s.sequences := rfl
@[simp] theorem setBus_pins (v : List BusEvent) : (s.setBus v).pins = s.pins := rfl
@[simp] theorem setBus_biu (v : List BusEvent) : (s.setBus v).biu = s.biu := rfl
@[simp] theorem setBus_dma (v : List BusEvent) : (s.setBus v).dma = s.dma := rfl
@[simp] theorem setBus_cycles (v : List BusEvent) : (s.setBus v).cycles = s.cycles := rfl
@[simp] theorem setBus_record (v : List BusEvent) : (s.setBus v).record = s.record := rfl
@[simp] theorem setBus_mem (v : List BusEvent) : (s.setBus v).mem = s.mem := rfl
@[simp] theorem setBus_bus (v : List BusEvent) : (s.setBus v).bus = v := rfl
@[simp] theorem setBus_devIn (v : List BusEvent) : (s.setBus v).devIn = s.devIn := rfl
@[simp] theorem setBus_script (v : List BusEvent) : (s.setBus v).script = s.script := rfl
@[simp] theorem setBus_fills (v : List BusEvent) : (s.setBus v).fills = s.fills := rfl
@[simp] theorem setBus_stale (v : List BusEvent) : (s.setBus v).stale = s.stale := rfl
@[simp] theorem setBus_steps (v : List BusEvent) : (s.setBus v).steps = s.steps := rfl
@[simp] theorem setBus_draws (v : List BusEvent) : (s.setBus v).draws = s.draws := rfl
@[simp] theorem setBus_cfg (v : List BusEvent) : (s.setBus v).cfg = s.cfg := rfl

@[simp] theorem setDevIn_gpr (v : List Byte) : (s.setDevIn v).gpr = s.gpr := rfl
@[simp] theorem setDevIn_seg (v : List Byte) : (s.setDevIn v).seg = s.seg := rfl
@[simp] theorem setDevIn_ip (v : List Byte) : (s.setDevIn v).ip = s.ip := rfl
@[simp] theorem setDevIn_pc (v : List Byte) : (s.setDevIn v).pc = s.pc := rfl
@[simp] theorem setDevIn_flags (v : List Byte) : (s.setDevIn v).flags = s.flags := rfl
@[simp] theorem setDevIn_queue (v : List Byte) : (s.setDevIn v).queue = s.queue := rfl
@[simp] theorem setDevIn_nextIsFirst (v : List Byte) : (s.setDevIn v).nextIsFirst = s.nextIsFirst := rfl
@[simp] theorem setDevIn_lastEa (v : List Byte) : (s.setDevIn v).lastEa = s.lastEa := rfl
@[simp] theorem setDevIn_eaOpr (v : List Byte) : (s.setDevIn v).eaOpr = s.eaOpr := rfl
@[simp] theorem setDevIn_inhibit (v : List Byte) : (s.setDevIn v).inhibit = s.inhibit := rfl
@[simp] theorem setDevIn_nmiLatch (v : List Byte) : (s.setDevIn v).nmiLatch = s.nmiLatch := rfl
@[simp] theorem setDevIn_lock (v : List Byte) : (s.setDevIn v).lock = s.lock := rfl
@[simp] theorem setDevIn_halted (v : List Byte) : (s.setDevIn v).halted = s.halted := rfl
@[simp] theorem setDevIn_dec (v : List Byte) : (s.setDevIn v).dec = s.dec := rfl
@[simp] theorem setDevIn_life (v : List Byte) : (s.setDevIn v).life = s.life := rfl
@[simp] theorem setDevIn_sequences (v : List Byte) : (s.setDevIn v).sequences = s.sequences := rfl
@[simp] theorem setDevIn_pins (v : List Byte) : (s.setDevIn v).pins = s.pins := rfl
@[simp] theorem setDevIn_biu (v : List Byte) : (s.setDevIn v).biu = s.biu := rfl
@[simp] theorem setDevIn_dma (v : List Byte) : (s.setDevIn v).dma = s.dma := rfl
@[simp] theorem setDevIn_cycles (v : List Byte) : (s.setDevIn v).cycles = s.cycles := rfl
@[simp] theorem setDevIn_record (v : List Byte) : (s.setDevIn v).record = s.record := rfl
@[simp] theorem setDevIn_mem (v : List Byte) : (s.setDevIn v).mem = s.mem := rfl
@[simp] theorem setDevIn_bus (v : List Byte) : (s.setDevIn v).bus = s.bus := rfl
@[simp] theorem setDevIn_devIn (v : List Byte) : (s.setDevIn v).devIn = v := rfl
@[simp] theorem setDevIn_script (v : List Byte) : (s.setDevIn v).script = s.script := rfl
@[simp] theorem setDevIn_fills (v : List Byte) : (s.setDevIn v).fills = s.fills := rfl
@[simp] theorem setDevIn_stale (v : List Byte) : (s.setDevIn v).stale = s.stale := rfl
@[simp] theorem setDevIn_steps (v : List Byte) : (s.setDevIn v).steps = s.steps := rfl
@[simp] theorem setDevIn_draws (v : List Byte) : (s.setDevIn v).draws = s.draws := rfl
@[simp] theorem setDevIn_cfg (v : List Byte) : (s.setDevIn v).cfg = s.cfg := rfl

@[simp] theorem setScript_gpr (v : List Event) : (s.setScript v).gpr = s.gpr := rfl
@[simp] theorem setScript_seg (v : List Event) : (s.setScript v).seg = s.seg := rfl
@[simp] theorem setScript_ip (v : List Event) : (s.setScript v).ip = s.ip := rfl
@[simp] theorem setScript_pc (v : List Event) : (s.setScript v).pc = s.pc := rfl
@[simp] theorem setScript_flags (v : List Event) : (s.setScript v).flags = s.flags := rfl
@[simp] theorem setScript_queue (v : List Event) : (s.setScript v).queue = s.queue := rfl
@[simp] theorem setScript_nextIsFirst (v : List Event) : (s.setScript v).nextIsFirst = s.nextIsFirst := rfl
@[simp] theorem setScript_lastEa (v : List Event) : (s.setScript v).lastEa = s.lastEa := rfl
@[simp] theorem setScript_eaOpr (v : List Event) : (s.setScript v).eaOpr = s.eaOpr := rfl
@[simp] theorem setScript_inhibit (v : List Event) : (s.setScript v).inhibit = s.inhibit := rfl
@[simp] theorem setScript_nmiLatch (v : List Event) : (s.setScript v).nmiLatch = s.nmiLatch := rfl
@[simp] theorem setScript_lock (v : List Event) : (s.setScript v).lock = s.lock := rfl
@[simp] theorem setScript_halted (v : List Event) : (s.setScript v).halted = s.halted := rfl
@[simp] theorem setScript_dec (v : List Event) : (s.setScript v).dec = s.dec := rfl
@[simp] theorem setScript_life (v : List Event) : (s.setScript v).life = s.life := rfl
@[simp] theorem setScript_sequences (v : List Event) : (s.setScript v).sequences = s.sequences := rfl
@[simp] theorem setScript_pins (v : List Event) : (s.setScript v).pins = s.pins := rfl
@[simp] theorem setScript_biu (v : List Event) : (s.setScript v).biu = s.biu := rfl
@[simp] theorem setScript_dma (v : List Event) : (s.setScript v).dma = s.dma := rfl
@[simp] theorem setScript_cycles (v : List Event) : (s.setScript v).cycles = s.cycles := rfl
@[simp] theorem setScript_record (v : List Event) : (s.setScript v).record = s.record := rfl
@[simp] theorem setScript_mem (v : List Event) : (s.setScript v).mem = s.mem := rfl
@[simp] theorem setScript_bus (v : List Event) : (s.setScript v).bus = s.bus := rfl
@[simp] theorem setScript_devIn (v : List Event) : (s.setScript v).devIn = s.devIn := rfl
@[simp] theorem setScript_script (v : List Event) : (s.setScript v).script = v := rfl
@[simp] theorem setScript_fills (v : List Event) : (s.setScript v).fills = s.fills := rfl
@[simp] theorem setScript_stale (v : List Event) : (s.setScript v).stale = s.stale := rfl
@[simp] theorem setScript_steps (v : List Event) : (s.setScript v).steps = s.steps := rfl
@[simp] theorem setScript_draws (v : List Event) : (s.setScript v).draws = s.draws := rfl
@[simp] theorem setScript_cfg (v : List Event) : (s.setScript v).cfg = s.cfg := rfl

@[simp] theorem setFills_gpr (v : List Nat) : (s.setFills v).gpr = s.gpr := rfl
@[simp] theorem setFills_seg (v : List Nat) : (s.setFills v).seg = s.seg := rfl
@[simp] theorem setFills_ip (v : List Nat) : (s.setFills v).ip = s.ip := rfl
@[simp] theorem setFills_pc (v : List Nat) : (s.setFills v).pc = s.pc := rfl
@[simp] theorem setFills_flags (v : List Nat) : (s.setFills v).flags = s.flags := rfl
@[simp] theorem setFills_queue (v : List Nat) : (s.setFills v).queue = s.queue := rfl
@[simp] theorem setFills_nextIsFirst (v : List Nat) : (s.setFills v).nextIsFirst = s.nextIsFirst := rfl
@[simp] theorem setFills_lastEa (v : List Nat) : (s.setFills v).lastEa = s.lastEa := rfl
@[simp] theorem setFills_eaOpr (v : List Nat) : (s.setFills v).eaOpr = s.eaOpr := rfl
@[simp] theorem setFills_inhibit (v : List Nat) : (s.setFills v).inhibit = s.inhibit := rfl
@[simp] theorem setFills_nmiLatch (v : List Nat) : (s.setFills v).nmiLatch = s.nmiLatch := rfl
@[simp] theorem setFills_lock (v : List Nat) : (s.setFills v).lock = s.lock := rfl
@[simp] theorem setFills_halted (v : List Nat) : (s.setFills v).halted = s.halted := rfl
@[simp] theorem setFills_dec (v : List Nat) : (s.setFills v).dec = s.dec := rfl
@[simp] theorem setFills_life (v : List Nat) : (s.setFills v).life = s.life := rfl
@[simp] theorem setFills_sequences (v : List Nat) : (s.setFills v).sequences = s.sequences := rfl
@[simp] theorem setFills_pins (v : List Nat) : (s.setFills v).pins = s.pins := rfl
@[simp] theorem setFills_biu (v : List Nat) : (s.setFills v).biu = s.biu := rfl
@[simp] theorem setFills_dma (v : List Nat) : (s.setFills v).dma = s.dma := rfl
@[simp] theorem setFills_cycles (v : List Nat) : (s.setFills v).cycles = s.cycles := rfl
@[simp] theorem setFills_record (v : List Nat) : (s.setFills v).record = s.record := rfl
@[simp] theorem setFills_mem (v : List Nat) : (s.setFills v).mem = s.mem := rfl
@[simp] theorem setFills_bus (v : List Nat) : (s.setFills v).bus = s.bus := rfl
@[simp] theorem setFills_devIn (v : List Nat) : (s.setFills v).devIn = s.devIn := rfl
@[simp] theorem setFills_script (v : List Nat) : (s.setFills v).script = s.script := rfl
@[simp] theorem setFills_fills (v : List Nat) : (s.setFills v).fills = v := rfl
@[simp] theorem setFills_stale (v : List Nat) : (s.setFills v).stale = s.stale := rfl
@[simp] theorem setFills_steps (v : List Nat) : (s.setFills v).steps = s.steps := rfl
@[simp] theorem setFills_draws (v : List Nat) : (s.setFills v).draws = s.draws := rfl
@[simp] theorem setFills_cfg (v : List Nat) : (s.setFills v).cfg = s.cfg := rfl

@[simp] theorem setStale_gpr (v : List Word) : (s.setStale v).gpr = s.gpr := rfl
@[simp] theorem setStale_seg (v : List Word) : (s.setStale v).seg = s.seg := rfl
@[simp] theorem setStale_ip (v : List Word) : (s.setStale v).ip = s.ip := rfl
@[simp] theorem setStale_pc (v : List Word) : (s.setStale v).pc = s.pc := rfl
@[simp] theorem setStale_flags (v : List Word) : (s.setStale v).flags = s.flags := rfl
@[simp] theorem setStale_queue (v : List Word) : (s.setStale v).queue = s.queue := rfl
@[simp] theorem setStale_nextIsFirst (v : List Word) : (s.setStale v).nextIsFirst = s.nextIsFirst := rfl
@[simp] theorem setStale_lastEa (v : List Word) : (s.setStale v).lastEa = s.lastEa := rfl
@[simp] theorem setStale_eaOpr (v : List Word) : (s.setStale v).eaOpr = s.eaOpr := rfl
@[simp] theorem setStale_inhibit (v : List Word) : (s.setStale v).inhibit = s.inhibit := rfl
@[simp] theorem setStale_nmiLatch (v : List Word) : (s.setStale v).nmiLatch = s.nmiLatch := rfl
@[simp] theorem setStale_lock (v : List Word) : (s.setStale v).lock = s.lock := rfl
@[simp] theorem setStale_halted (v : List Word) : (s.setStale v).halted = s.halted := rfl
@[simp] theorem setStale_dec (v : List Word) : (s.setStale v).dec = s.dec := rfl
@[simp] theorem setStale_life (v : List Word) : (s.setStale v).life = s.life := rfl
@[simp] theorem setStale_sequences (v : List Word) : (s.setStale v).sequences = s.sequences := rfl
@[simp] theorem setStale_pins (v : List Word) : (s.setStale v).pins = s.pins := rfl
@[simp] theorem setStale_biu (v : List Word) : (s.setStale v).biu = s.biu := rfl
@[simp] theorem setStale_dma (v : List Word) : (s.setStale v).dma = s.dma := rfl
@[simp] theorem setStale_cycles (v : List Word) : (s.setStale v).cycles = s.cycles := rfl
@[simp] theorem setStale_record (v : List Word) : (s.setStale v).record = s.record := rfl
@[simp] theorem setStale_mem (v : List Word) : (s.setStale v).mem = s.mem := rfl
@[simp] theorem setStale_bus (v : List Word) : (s.setStale v).bus = s.bus := rfl
@[simp] theorem setStale_devIn (v : List Word) : (s.setStale v).devIn = s.devIn := rfl
@[simp] theorem setStale_script (v : List Word) : (s.setStale v).script = s.script := rfl
@[simp] theorem setStale_fills (v : List Word) : (s.setStale v).fills = s.fills := rfl
@[simp] theorem setStale_stale (v : List Word) : (s.setStale v).stale = v := rfl
@[simp] theorem setStale_steps (v : List Word) : (s.setStale v).steps = s.steps := rfl
@[simp] theorem setStale_draws (v : List Word) : (s.setStale v).draws = s.draws := rfl
@[simp] theorem setStale_cfg (v : List Word) : (s.setStale v).cfg = s.cfg := rfl

@[simp] theorem setSteps_gpr (v : Nat) : (s.setSteps v).gpr = s.gpr := rfl
@[simp] theorem setSteps_seg (v : Nat) : (s.setSteps v).seg = s.seg := rfl
@[simp] theorem setSteps_ip (v : Nat) : (s.setSteps v).ip = s.ip := rfl
@[simp] theorem setSteps_pc (v : Nat) : (s.setSteps v).pc = s.pc := rfl
@[simp] theorem setSteps_flags (v : Nat) : (s.setSteps v).flags = s.flags := rfl
@[simp] theorem setSteps_queue (v : Nat) : (s.setSteps v).queue = s.queue := rfl
@[simp] theorem setSteps_nextIsFirst (v : Nat) : (s.setSteps v).nextIsFirst = s.nextIsFirst := rfl
@[simp] theorem setSteps_lastEa (v : Nat) : (s.setSteps v).lastEa = s.lastEa := rfl
@[simp] theorem setSteps_eaOpr (v : Nat) : (s.setSteps v).eaOpr = s.eaOpr := rfl
@[simp] theorem setSteps_inhibit (v : Nat) : (s.setSteps v).inhibit = s.inhibit := rfl
@[simp] theorem setSteps_nmiLatch (v : Nat) : (s.setSteps v).nmiLatch = s.nmiLatch := rfl
@[simp] theorem setSteps_lock (v : Nat) : (s.setSteps v).lock = s.lock := rfl
@[simp] theorem setSteps_halted (v : Nat) : (s.setSteps v).halted = s.halted := rfl
@[simp] theorem setSteps_dec (v : Nat) : (s.setSteps v).dec = s.dec := rfl
@[simp] theorem setSteps_life (v : Nat) : (s.setSteps v).life = s.life := rfl
@[simp] theorem setSteps_sequences (v : Nat) : (s.setSteps v).sequences = s.sequences := rfl
@[simp] theorem setSteps_pins (v : Nat) : (s.setSteps v).pins = s.pins := rfl
@[simp] theorem setSteps_biu (v : Nat) : (s.setSteps v).biu = s.biu := rfl
@[simp] theorem setSteps_dma (v : Nat) : (s.setSteps v).dma = s.dma := rfl
@[simp] theorem setSteps_cycles (v : Nat) : (s.setSteps v).cycles = s.cycles := rfl
@[simp] theorem setSteps_record (v : Nat) : (s.setSteps v).record = s.record := rfl
@[simp] theorem setSteps_mem (v : Nat) : (s.setSteps v).mem = s.mem := rfl
@[simp] theorem setSteps_bus (v : Nat) : (s.setSteps v).bus = s.bus := rfl
@[simp] theorem setSteps_devIn (v : Nat) : (s.setSteps v).devIn = s.devIn := rfl
@[simp] theorem setSteps_script (v : Nat) : (s.setSteps v).script = s.script := rfl
@[simp] theorem setSteps_fills (v : Nat) : (s.setSteps v).fills = s.fills := rfl
@[simp] theorem setSteps_stale (v : Nat) : (s.setSteps v).stale = s.stale := rfl
@[simp] theorem setSteps_steps (v : Nat) : (s.setSteps v).steps = v := rfl
@[simp] theorem setSteps_draws (v : Nat) : (s.setSteps v).draws = s.draws := rfl
@[simp] theorem setSteps_cfg (v : Nat) : (s.setSteps v).cfg = s.cfg := rfl

@[simp] theorem setDraws_gpr (v : Nat) : (s.setDraws v).gpr = s.gpr := rfl
@[simp] theorem setDraws_seg (v : Nat) : (s.setDraws v).seg = s.seg := rfl
@[simp] theorem setDraws_ip (v : Nat) : (s.setDraws v).ip = s.ip := rfl
@[simp] theorem setDraws_pc (v : Nat) : (s.setDraws v).pc = s.pc := rfl
@[simp] theorem setDraws_flags (v : Nat) : (s.setDraws v).flags = s.flags := rfl
@[simp] theorem setDraws_queue (v : Nat) : (s.setDraws v).queue = s.queue := rfl
@[simp] theorem setDraws_nextIsFirst (v : Nat) : (s.setDraws v).nextIsFirst = s.nextIsFirst := rfl
@[simp] theorem setDraws_lastEa (v : Nat) : (s.setDraws v).lastEa = s.lastEa := rfl
@[simp] theorem setDraws_eaOpr (v : Nat) : (s.setDraws v).eaOpr = s.eaOpr := rfl
@[simp] theorem setDraws_inhibit (v : Nat) : (s.setDraws v).inhibit = s.inhibit := rfl
@[simp] theorem setDraws_nmiLatch (v : Nat) : (s.setDraws v).nmiLatch = s.nmiLatch := rfl
@[simp] theorem setDraws_lock (v : Nat) : (s.setDraws v).lock = s.lock := rfl
@[simp] theorem setDraws_halted (v : Nat) : (s.setDraws v).halted = s.halted := rfl
@[simp] theorem setDraws_dec (v : Nat) : (s.setDraws v).dec = s.dec := rfl
@[simp] theorem setDraws_life (v : Nat) : (s.setDraws v).life = s.life := rfl
@[simp] theorem setDraws_sequences (v : Nat) : (s.setDraws v).sequences = s.sequences := rfl
@[simp] theorem setDraws_pins (v : Nat) : (s.setDraws v).pins = s.pins := rfl
@[simp] theorem setDraws_biu (v : Nat) : (s.setDraws v).biu = s.biu := rfl
@[simp] theorem setDraws_dma (v : Nat) : (s.setDraws v).dma = s.dma := rfl
@[simp] theorem setDraws_cycles (v : Nat) : (s.setDraws v).cycles = s.cycles := rfl
@[simp] theorem setDraws_record (v : Nat) : (s.setDraws v).record = s.record := rfl
@[simp] theorem setDraws_mem (v : Nat) : (s.setDraws v).mem = s.mem := rfl
@[simp] theorem setDraws_bus (v : Nat) : (s.setDraws v).bus = s.bus := rfl
@[simp] theorem setDraws_devIn (v : Nat) : (s.setDraws v).devIn = s.devIn := rfl
@[simp] theorem setDraws_script (v : Nat) : (s.setDraws v).script = s.script := rfl
@[simp] theorem setDraws_fills (v : Nat) : (s.setDraws v).fills = s.fills := rfl
@[simp] theorem setDraws_stale (v : Nat) : (s.setDraws v).stale = s.stale := rfl
@[simp] theorem setDraws_steps (v : Nat) : (s.setDraws v).steps = s.steps := rfl
@[simp] theorem setDraws_draws (v : Nat) : (s.setDraws v).draws = v := rfl
@[simp] theorem setDraws_cfg (v : Nat) : (s.setDraws v).cfg = s.cfg := rfl

/-! ### Halves of a word -/

@[simp] theorem loByte_wordOf (lo hi : Byte) : loByte (wordOf lo hi) = lo := by
  apply BitVec.eq_of_getLsbD_eq
  intro i h
  simp [loByte, wordOf, h]

@[simp] theorem hiByte_wordOf (lo hi : Byte) : hiByte (wordOf lo hi) = hi := by
  apply BitVec.eq_of_getLsbD_eq
  intro i h
  have h16 : 8 + i < 16 := by omega
  simp [hiByte, wordOf, h16, h]

@[simp] theorem wordOf_halves (w : Word) : wordOf (loByte w) (hiByte w) = w := by
  apply BitVec.eq_of_getLsbD_eq
  intro i h
  by_cases h8 : i < 8
  · simp [loByte, hiByte, wordOf, h, h8]
  · have h1 : 8 + (i - 8) = i := by omega
    have h2 : i - 8 < 8 := by omega
    simp [loByte, hiByte, wordOf, h, h8, h1, h2]

@[simp] theorem loByte_zext16 (b : Byte) : loByte (zext16 b) = b := by simp [loByte, zext16]

@[simp] theorem hiByte_zext16 (b : Byte) : hiByte (zext16 b) = 0 := by
  apply BitVec.eq_of_getLsbD_eq
  intro i h
  simp [hiByte, zext16]

@[simp] theorem setHalf_false (w : Word) (v : Byte) : setHalf false w v = wordOf v (hiByte w) := rfl
@[simp] theorem setHalf_true (w : Word) (v : Byte) : setHalf true w v = wordOf (loByte w) v := rfl

/-! ### Registers -/

@[simp] theorem Gpr.get_set_same (g : Gpr) (r : Reg16) (v : Word) : (g.set r v).get r = v := by cases r <;> rfl

theorem Gpr.get_set_ne (g : Gpr) (r q : Reg16) (v : Word) (h : q ≠ r) : (g.set r v).get q = g.get q := by
  cases r <;> cases q <;> first | rfl | exact absurd rfl h

theorem Gpr.get_set (g : Gpr) (r q : Reg16) (v : Word) : (g.set r v).get q = if q = r then v else g.get q := by
  split
  · next h => subst h; exact Gpr.get_set_same g q v
  · next h => exact Gpr.get_set_ne g r q v h

@[simp] theorem Gpr.set_set (g : Gpr) (r : Reg16) (v w : Word) : (g.set r v).set r w = g.set r w := by cases r <;> rfl

@[simp] theorem Gpr.set_get (g : Gpr) (r : Reg16) : g.set r (g.get r) = g := by cases r <;> rfl

@[simp] theorem Segs.get_set_same (g : Segs) (r : SReg) (v : Word) : (g.set r v).get r = v := by cases r <;> rfl

theorem Segs.get_set_ne (g : Segs) (r q : SReg) (v : Word) (h : q ≠ r) : (g.set r v).get q = g.get q := by
  cases r <;> cases q <;> first | rfl | exact absurd rfl h

@[simp] theorem setR16_gpr (r : Reg16) (v : Word) : (s.setR16 r v).gpr = s.gpr.set r v := rfl
@[simp] theorem setSreg_seg (r : SReg) (v : Word) : (s.setSreg r v).seg = s.seg.set r v := rfl

/-- Reading any 16-bit register after a write of one. -/
theorem setR16_r16 (r q : Reg16) (v : Word) : (s.setR16 r v).r16 q = if q = r then v else s.r16 q :=
  Gpr.get_set s.gpr r q v

@[simp] theorem setR16_r16_same (r : Reg16) (v : Word) : (s.setR16 r v).r16 r = v := Gpr.get_set_same s.gpr r v

theorem setR16_r16_ne (r q : Reg16) (v : Word) (h : q ≠ r) : (s.setR16 r v).r16 q = s.r16 q :=
  Gpr.get_set_ne s.gpr r q v h

@[simp] theorem setSreg_sreg_same (r : SReg) (v : Word) : (s.setSreg r v).sreg r = v := Segs.get_set_same s.seg r v

theorem setSreg_sreg_ne (r q : SReg) (v : Word) (h : q ≠ r) : (s.setSreg r v).sreg q = s.sreg q :=
  Segs.get_set_ne s.seg r q v h

@[simp] theorem setR8_r8_same (r : Reg8) (v : Byte) : (s.setR8 r v).r8 r = v := by
  cases r <;> simp [State.r8, State.setR8, Reg8.isHigh]

/-- A byte write keeps every other byte register (10_state.md R23). -/
theorem setR8_r8_ne (r q : Reg8) (v : Byte) (h : q ≠ r) : (s.setR8 r v).r8 q = s.r8 q := by
  cases r <;> cases q <;>
    first
    | exact absurd rfl h
    | simp [State.r8, State.setR8, Reg8.isHigh, Reg8.parent, setR16_r16]

theorem setR8_r16_ne (r : Reg8) (q : Reg16) (v : Byte) (h : q ≠ r.parent) : (s.setR8 r v).r16 q = s.r16 q :=
  setR16_r16_ne s r.parent q _ h

end Sys2Proof.Machine
end

