-- ==== Sys2Proof/Laws/Ops.lean ====
section
/-! SUPPORT. What each shared operation leaves alone, field by field, and what it does to memory. -/
namespace Sys2Proof.Machine
open Sys2Proof

variable (s : State)

/-! ### The system part under each update -/

@[simp] theorem setGpr_system (v : Gpr) : (s.setGpr v).system = s.system := rfl
@[simp] theorem setSeg_system (v : Segs) : (s.setSeg v).system = { s.system with seg := v } := rfl
@[simp] theorem setIp_system (v : Word) : (s.setIp v).system = s.system := rfl
@[simp] theorem setPc_system (v : Word) : (s.setPc v).system = s.system := rfl
@[simp] theorem setFlags_system (v : Word) : (s.setFlags v).system = s.system := rfl
@[simp] theorem setQueue_system (v : List Byte) : (s.setQueue v).system = s.system := rfl
@[simp] theorem setNextIsFirst_system (v : Bool) : (s.setNextIsFirst v).system = s.system := rfl
@[simp] theorem setLastEa_system (v : Word) : (s.setLastEa v).system = s.system := rfl
@[simp] theorem setEaOpr_system (v : Word) : (s.setEaOpr v).system = s.system := rfl
@[simp] theorem setInhibit_system (v : Bool) : (s.setInhibit v).system = { s.system with inhibit := v } := rfl
@[simp] theorem setNmiLatch_system (v : Bool) : (s.setNmiLatch v).system = { s.system with nmiLatch := v } := rfl
@[simp] theorem setLock_system (v : Bool) : (s.setLock v).system = { s.system with lock := v } := rfl
@[simp] theorem setHalted_system (v : Bool) : (s.setHalted v).system = { s.system with halted := v } := rfl
@[simp] theorem setDec_system (v : DecodeState) : (s.setDec v).system = { s.system with dec := v } := rfl
@[simp] theorem setLife_system (v : Life) : (s.setLife v).system = { s.system with life := v } := rfl
@[simp] theorem setSequences_system (v : List IntSequence) : (s.setSequences v).system = { s.system with sequences := v } := rfl
@[simp] theorem setPins_system (v : Pins) : (s.setPins v).system = { s.system with pins := v } := rfl
@[simp] theorem setDma_system (v : Dma) : (s.setDma v).system = { s.system with dma := v } := rfl
@[simp] theorem setCycles_system (v : Nat) : (s.setCycles v).system = { s.system with cycles := v } := rfl
@[simp] theorem setRecord_system (v : Option CycleRecord) : (s.setRecord v).system = { s.system with record := v } := rfl
@[simp] theorem setMem_system (v : List Host.Cell) : (s.setMem v).system = s.system := rfl
@[simp] theorem setBus_system (v : List BusEvent) : (s.setBus v).system = s.system := rfl
@[simp] theorem setDevIn_system (v : List Byte) : (s.setDevIn v).system = s.system := rfl
@[simp] theorem setScript_system (v : List Event) : (s.setScript v).system = { s.system with script := v } := rfl
@[simp] theorem setFills_system (v : List Nat) : (s.setFills v).system = s.system := rfl
@[simp] theorem setStale_system (v : List Word) : (s.setStale v).system = s.system := rfl
@[simp] theorem setSteps_system (v : Nat) : (s.setSteps v).system = { s.system with steps := v } := rfl
@[simp] theorem setDraws_system (v : Nat) : (s.setDraws v).system = s.system := rfl
@[simp] theorem setBiu_system (v : Biu) : (s.setBiu v).system = { s.system with latches := v.latches } := rfl
@[simp] theorem system_seg : s.system.seg = s.seg := rfl
@[simp] theorem system_inhibit : s.system.inhibit = s.inhibit := rfl
@[simp] theorem system_nmiLatch : s.system.nmiLatch = s.nmiLatch := rfl
@[simp] theorem system_lock : s.system.lock = s.lock := rfl
@[simp] theorem system_halted : s.system.halted = s.halted := rfl
@[simp] theorem system_dec : s.system.dec = s.dec := rfl
@[simp] theorem system_life : s.system.life = s.life := rfl
@[simp] theorem system_sequences : s.system.sequences = s.sequences := rfl
@[simp] theorem system_pins : s.system.pins = s.pins := rfl
@[simp] theorem system_dma : s.system.dma = s.dma := rfl
@[simp] theorem system_cycles : s.system.cycles = s.cycles := rfl
@[simp] theorem system_record : s.system.record = s.record := rfl
@[simp] theorem system_script : s.system.script = s.script := rfl
@[simp] theorem system_steps : s.system.steps = s.steps := rfl
@[simp] theorem system_cfg : s.system.cfg = s.cfg := rfl
@[simp] theorem system_latches : s.system.latches = s.biu.latches := rfl

/-! ### The bus operations other than code fetches, under each update -/

@[simp] theorem setGpr_demands (v : Gpr) : (s.setGpr v).demands = s.demands := rfl
@[simp] theorem setSeg_demands (v : Segs) : (s.setSeg v).demands = s.demands := rfl
@[simp] theorem setIp_demands (v : Word) : (s.setIp v).demands = s.demands := rfl
@[simp] theorem setPc_demands (v : Word) : (s.setPc v).demands = s.demands := rfl
@[simp] theorem setFlags_demands (v : Word) : (s.setFlags v).demands = s.demands := rfl
@[simp] theorem setQueue_demands (v : List Byte) : (s.setQueue v).demands = s.demands := rfl
@[simp] theorem setNextIsFirst_demands (v : Bool) : (s.setNextIsFirst v).demands = s.demands := rfl
@[simp] theorem setLastEa_demands (v : Word) : (s.setLastEa v).demands = s.demands := rfl
@[simp] theorem setEaOpr_demands (v : Word) : (s.setEaOpr v).demands = s.demands := rfl
@[simp] theorem setInhibit_demands (v : Bool) : (s.setInhibit v).demands = s.demands := rfl
@[simp] theorem setNmiLatch_demands (v : Bool) : (s.setNmiLatch v).demands = s.demands := rfl
@[simp] theorem setLock_demands (v : Bool) : (s.setLock v).demands = s.demands := rfl
@[simp] theorem setHalted_demands (v : Bool) : (s.setHalted v).demands = s.demands := rfl
@[simp] theorem setDec_demands (v : DecodeState) : (s.setDec v).demands = s.demands := rfl
@[simp] theorem setLife_demands (v : Life) : (s.setLife v).demands = s.demands := rfl
@[simp] theorem setSequences_demands (v : List IntSequence) : (s.setSequences v).demands = s.demands := rfl
@[simp] theorem setPins_demands (v : Pins) : (s.setPins v).demands = s.demands := rfl
@[simp] theorem setDma_demands (v : Dma) : (s.setDma v).demands = s.demands := rfl
@[simp] theorem setCycles_demands (v : Nat) : (s.setCycles v).demands = s.demands := rfl
@[simp] theorem setRecord_demands (v : Option CycleRecord) : (s.setRecord v).demands = s.demands := rfl
@[simp] theorem setMem_demands (v : List Host.Cell) : (s.setMem v).demands = s.demands := rfl
@[simp] theorem setDevIn_demands (v : List Byte) : (s.setDevIn v).demands = s.demands := rfl
@[simp] theorem setScript_demands (v : List Event) : (s.setScript v).demands = s.demands := rfl
@[simp] theorem setFills_demands (v : List Nat) : (s.setFills v).demands = s.demands := rfl
@[simp] theorem setStale_demands (v : List Word) : (s.setStale v).demands = s.demands := rfl
@[simp] theorem setSteps_demands (v : Nat) : (s.setSteps v).demands = s.demands := rfl
@[simp] theorem setDraws_demands (v : Nat) : (s.setDraws v).demands = s.demands := rfl
@[simp] theorem setBiu_demands (v : Biu) : (s.setBiu v).demands = s.demands := rfl

theorem logBus_demands (e : BusEvent) : (s.logBus e).demands = if e.isFetch then s.demands else e :: s.demands := by
  unfold State.demands State.logBus
  cases h : e.isFetch <;> simp [h, State.setBus]

theorem demands_of_bus {s t : State} (h : t.bus = s.bus) : t.demands = s.demands := by simp [State.demands, h]

/-! ### Compound updates -/

@[simp] theorem setR16_demands (r : Reg16) (v : Word) : (s.setR16 r v).demands = s.demands := rfl
@[simp] theorem setR16_seg (r : Reg16) (v : Word) : (s.setR16 r v).seg = s.seg := rfl
@[simp] theorem setR16_ip (r : Reg16) (v : Word) : (s.setR16 r v).ip = s.ip := rfl
@[simp] theorem setR16_pc (r : Reg16) (v : Word) : (s.setR16 r v).pc = s.pc := rfl
@[simp] theorem setR16_flags (r : Reg16) (v : Word) : (s.setR16 r v).flags = s.flags := rfl
@[simp] theorem setR16_queue (r : Reg16) (v : Word) : (s.setR16 r v).queue = s.queue := rfl
@[simp] theorem setR16_nextIsFirst (r : Reg16) (v : Word) : (s.setR16 r v).nextIsFirst = s.nextIsFirst := rfl
@[simp] theorem setR16_lastEa (r : Reg16) (v : Word) : (s.setR16 r v).lastEa = s.lastEa := rfl
@[simp] theorem setR16_eaOpr (r : Reg16) (v : Word) : (s.setR16 r v).eaOpr = s.eaOpr := rfl
@[simp] theorem setR16_inhibit (r : Reg16) (v : Word) : (s.setR16 r v).inhibit = s.inhibit := rfl
@[simp] theorem setR16_nmiLatch (r : Reg16) (v : Word) : (s.setR16 r v).nmiLatch = s.nmiLatch := rfl
@[simp] theorem setR16_lock (r : Reg16) (v : Word) : (s.setR16 r v).lock = s.lock := rfl
@[simp] theorem setR16_halted (r : Reg16) (v : Word) : (s.setR16 r v).halted = s.halted := rfl
@[simp] theorem setR16_dec (r : Reg16) (v : Word) : (s.setR16 r v).dec = s.dec := rfl
@[simp] theorem setR16_life (r : Reg16) (v : Word) : (s.setR16 r v).life = s.life := rfl
@[simp] theorem setR16_sequences (r : Reg16) (v : Word) : (s.setR16 r v).sequences = s.sequences := rfl
@[simp] theorem setR16_pins (r : Reg16) (v : Word) : (s.setR16 r v).pins = s.pins := rfl
@[simp] theorem setR16_biu (r : Reg16) (v : Word) : (s.setR16 r v).biu = s.biu := rfl
@[simp] theorem setR16_dma (r : Reg16) (v : Word) : (s.setR16 r v).dma = s.dma := rfl
@[simp] theorem setR16_cycles (r : Reg16) (v : Word) : (s.setR16 r v).cycles = s.cycles := rfl
@[simp] theorem setR16_record (r : Reg16) (v : Word) : (s.setR16 r v).record = s.record := rfl
@[simp] theorem setR16_mem (r : Reg16) (v : Word) : (s.setR16 r v).mem = s.mem := rfl
@[simp] theorem setR16_bus (r : Reg16) (v : Word) : (s.setR16 r v).bus = s.bus := rfl
@[simp] theorem setR16_devIn (r : Reg16) (v : Word) : (s.setR16 r v).devIn = s.devIn := rfl
@[simp] theorem setR16_script (r : Reg16) (v : Word) : (s.setR16 r v).script = s.script := rfl
@[simp] theorem setR16_fills (r : Reg16) (v : Word) : (s.setR16 r v).fills = s.fills := rfl
@[simp] theorem setR16_stale (r : Reg16) (v : Word) : (s.setR16 r v).stale = s.stale := rfl
@[simp] theorem setR16_steps (r : Reg16) (v : Word) : (s.setR16 r v).steps = s.steps := rfl
@[simp] theorem setR16_draws (r : Reg16) (v : Word) : (s.setR16 r v).draws = s.draws := rfl
@[simp] theorem setR16_cfg (r : Reg16) (v : Word) : (s.setR16 r v).cfg = s.cfg := rfl
@[simp] theorem setR16_system (r : Reg16) (v : Word) : (s.setR16 r v).system = s.system := rfl

@[simp] theorem setR8_demands (r : Reg8) (v : Byte) : (s.setR8 r v).demands = s.demands := rfl
@[simp] theorem setR8_seg (r : Reg8) (v : Byte) : (s.setR8 r v).seg = s.seg := rfl
@[simp] theorem setR8_ip (r : Reg8) (v : Byte) : (s.setR8 r v).ip = s.ip := rfl
@[simp] theorem setR8_pc (r : Reg8) (v : Byte) : (s.setR8 r v).pc = s.pc := rfl
@[simp] theorem setR8_flags (r : Reg8) (v : Byte) : (s.setR8 r v).flags = s.flags := rfl
@[simp] theorem setR8_queue (r : Reg8) (v : Byte) : (s.setR8 r v).queue = s.queue := rfl
@[simp] theorem setR8_nextIsFirst (r : Reg8) (v : Byte) : (s.setR8 r v).nextIsFirst = s.nextIsFirst := rfl
@[simp] theorem setR8_lastEa (r : Reg8) (v : Byte) : (s.setR8 r v).lastEa = s.lastEa := rfl
@[simp] theorem setR8_eaOpr (r : Reg8) (v : Byte) : (s.setR8 r v).eaOpr = s.eaOpr := rfl
@[simp] theorem setR8_inhibit (r : Reg8) (v : Byte) : (s.setR8 r v).inhibit = s.inhibit := rfl
@[simp] theorem setR8_nmiLatch (r : Reg8) (v : Byte) : (s.setR8 r v).nmiLatch = s.nmiLatch := rfl
@[simp] theorem setR8_lock (r : Reg8) (v : Byte) : (s.setR8 r v).lock = s.lock := rfl
@[simp] theorem setR8_halted (r : Reg8) (v : Byte) : (s.setR8 r v).halted = s.halted := rfl
@[simp] theorem setR8_dec (r : Reg8) (v : Byte) : (s.setR8 r v).dec = s.dec := rfl
@[simp] theorem setR8_life (r : Reg8) (v : Byte) : (s.setR8 r v).life = s.life := rfl
@[simp] theorem setR8_sequences (r : Reg8) (v : Byte) : (s.setR8 r v).sequences = s.sequences := rfl
@[simp] theorem setR8_pins (r : Reg8) (v : Byte) : (s.setR8 r v).pins = s.pins := rfl
@[simp] theorem setR8_biu (r : Reg8) (v : Byte) : (s.setR8 r v).biu = s.biu := rfl
@[simp] theorem setR8_dma (r : Reg8) (v : Byte) : (s.setR8 r v).dma = s.dma := rfl
@[simp] theorem setR8_cycles (r : Reg8) (v : Byte) : (s.setR8 r v).cycles = s.cycles := rfl
@[simp] theorem setR8_record (r : Reg8) (v : Byte) : (s.setR8 r v).record = s.record := rfl
@[simp] theorem setR8_mem (r : Reg8) (v : Byte) : (s.setR8 r v).mem = s.mem := rfl
@[simp] theorem setR8_bus (r : Reg8) (v : Byte) : (s.setR8 r v).bus = s.bus := rfl
@[simp] theorem setR8_devIn (r : Reg8) (v : Byte) : (s.setR8 r v).devIn = s.devIn := rfl
@[simp] theorem setR8_script (r : Reg8) (v : Byte) : (s.setR8 r v).script = s.script := rfl
@[simp] theorem setR8_fills (r : Reg8) (v : Byte) : (s.setR8 r v).fills = s.fills := rfl
@[simp] theorem setR8_stale (r : Reg8) (v : Byte) : (s.setR8 r v).stale = s.stale := rfl
@[simp] theorem setR8_steps (r : Reg8) (v : Byte) : (s.setR8 r v).steps = s.steps := rfl
@[simp] theorem setR8_draws (r : Reg8) (v : Byte) : (s.setR8 r v).draws = s.draws := rfl
@[simp] theorem setR8_cfg (r : Reg8) (v : Byte) : (s.setR8 r v).cfg = s.cfg := rfl
@[simp] theorem setR8_system (r : Reg8) (v : Byte) : (s.setR8 r v).system = s.system := rfl

@[simp] theorem setSreg_demands (r : SReg) (v : Word) : (s.setSreg r v).demands = s.demands := rfl
@[simp] theorem setSreg_gpr (r : SReg) (v : Word) : (s.setSreg r v).gpr = s.gpr := rfl
@[simp] theorem setSreg_ip (r : SReg) (v : Word) : (s.setSreg r v).ip = s.ip := rfl
@[simp] theorem setSreg_pc (r : SReg) (v : Word) : (s.setSreg r v).pc = s.pc := rfl
@[simp] theorem setSreg_flags (r : SReg) (v : Word) : (s.setSreg r v).flags = s.flags := rfl
@[simp] theorem setSreg_queue (r : SReg) (v : Word) : (s.setSreg r v).queue = s.queue := rfl
@[simp] theorem setSreg_nextIsFirst (r : SReg) (v : Word) : (s.setSreg r v).nextIsFirst = s.nextIsFirst := rfl
@[simp] theorem setSreg_lastEa (r : SReg) (v : Word) : (s.setSreg r v).lastEa = s.lastEa := rfl
@[simp] theorem setSreg_eaOpr (r : SReg) (v : Word) : (s.setSreg r v).eaOpr = s.eaOpr := rfl
@[simp] theorem setSreg_inhibit (r : SReg) (v : Word) : (s.setSreg r v).inhibit = s.inhibit := rfl
@[simp] theorem setSreg_nmiLatch (r : SReg) (v : Word) : (s.setSreg r v).nmiLatch = s.nmiLatch := rfl
@[simp] theorem setSreg_lock (r : SReg) (v : Word) : (s.setSreg r v).lock = s.lock := rfl
@[simp] theorem setSreg_halted (r : SReg) (v : Word) : (s.setSreg r v).halted = s.halted := rfl
@[simp] theorem setSreg_dec (r : SReg) (v : Word) : (s.setSreg r v).dec = s.dec := rfl
@[simp] theorem setSreg_life (r : SReg) (v : Word) : (s.setSreg r v).life = s.life := rfl
@[simp] theorem setSreg_sequences (r : SReg) (v : Word) : (s.setSreg r v).sequences = s.sequences := rfl
@[simp] theorem setSreg_pins (r : SReg) (v : Word) : (s.setSreg r v).pins = s.pins := rfl
@[simp] theorem setSreg_biu (r : SReg) (v : Word) : (s.setSreg r v).biu = s.biu := rfl
@[simp] theorem setSreg_dma (r : SReg) (v : Word) : (s.setSreg r v).dma = s.dma := rfl
@[simp] theorem setSreg_cycles (r : SReg) (v : Word) : (s.setSreg r v).cycles = s.cycles := rfl
@[simp] theorem setSreg_record (r : SReg) (v : Word) : (s.setSreg r v).record = s.record := rfl
@[simp] theorem setSreg_mem (r : SReg) (v : Word) : (s.setSreg r v).mem = s.mem := rfl
@[simp] theorem setSreg_bus (r : SReg) (v : Word) : (s.setSreg r v).bus = s.bus := rfl
@[simp] theorem setSreg_devIn (r : SReg) (v : Word) : (s.setSreg r v).devIn = s.devIn := rfl
@[simp] theorem setSreg_script (r : SReg) (v : Word) : (s.setSreg r v).script = s.script := rfl
@[simp] theorem setSreg_fills (r : SReg) (v : Word) : (s.setSreg r v).fills = s.fills := rfl
@[simp] theorem setSreg_stale (r : SReg) (v : Word) : (s.setSreg r v).stale = s.stale := rfl
@[simp] theorem setSreg_steps (r : SReg) (v : Word) : (s.setSreg r v).steps = s.steps := rfl
@[simp] theorem setSreg_draws (r : SReg) (v : Word) : (s.setSreg r v).draws = s.draws := rfl
@[simp] theorem setSreg_cfg (r : SReg) (v : Word) : (s.setSreg r v).cfg = s.cfg := rfl

@[simp] theorem bumpDraws_demands : (s.bumpDraws).demands = s.demands := rfl
@[simp] theorem bumpDraws_gpr : (s.bumpDraws).gpr = s.gpr := rfl
@[simp] theorem bumpDraws_seg : (s.bumpDraws).seg = s.seg := rfl
@[simp] theorem bumpDraws_ip : (s.bumpDraws).ip = s.ip := rfl
@[simp] theorem bumpDraws_pc : (s.bumpDraws).pc = s.pc := rfl
@[simp] theorem bumpDraws_flags : (s.bumpDraws).flags = s.flags := rfl
@[simp] theorem bumpDraws_queue : (s.bumpDraws).queue = s.queue := rfl
@[simp] theorem bumpDraws_nextIsFirst : (s.bumpDraws).nextIsFirst = s.nextIsFirst := rfl
@[simp] theorem bumpDraws_lastEa : (s.bumpDraws).lastEa = s.lastEa := rfl
@[simp] theorem bumpDraws_eaOpr : (s.bumpDraws).eaOpr = s.eaOpr := rfl
@[simp] theorem bumpDraws_inhibit : (s.bumpDraws).inhibit = s.inhibit := rfl
@[simp] theorem bumpDraws_nmiLatch : (s.bumpDraws).nmiLatch = s.nmiLatch := rfl
@[simp] theorem bumpDraws_lock : (s.bumpDraws).lock = s.lock := rfl
@[simp] theorem bumpDraws_halted : (s.bumpDraws).halted = s.halted := rfl
@[simp] theorem bumpDraws_dec : (s.bumpDraws).dec = s.dec := rfl
@[simp] theorem bumpDraws_life : (s.bumpDraws).life = s.life := rfl
@[simp] theorem bumpDraws_sequences : (s.bumpDraws).sequences = s.sequences := rfl
@[simp] theorem bumpDraws_pins : (s.bumpDraws).pins = s.pins := rfl
@[simp] theorem bumpDraws_biu : (s.bumpDraws).biu = s.biu := rfl
@[simp] theorem bumpDraws_dma : (s.bumpDraws).dma = s.dma := rfl
@[simp] theorem bumpDraws_cycles : (s.bumpDraws).cycles = s.cycles := rfl
@[simp] theorem bumpDraws_record : (s.bumpDraws).record = s.record := rfl
@[simp] theorem bumpDraws_mem : (s.bumpDraws).mem = s.mem := rfl
@[simp] theorem bumpDraws_bus : (s.bumpDraws).bus = s.bus := rfl
@[simp] theorem bumpDraws_devIn : (s.bumpDraws).devIn = s.devIn := rfl
@[simp] theorem bumpDraws_script : (s.bumpDraws).script = s.script := rfl
@[simp] theorem bumpDraws_fills : (s.bumpDraws).fills = s.fills := rfl
@[simp] theorem bumpDraws_stale : (s.bumpDraws).stale = s.stale := rfl
@[simp] theorem bumpDraws_steps : (s.bumpDraws).steps = s.steps := rfl
@[simp] theorem bumpDraws_cfg : (s.bumpDraws).cfg = s.cfg := rfl
@[simp] theorem bumpDraws_system : (s.bumpDraws).system = s.system := rfl

@[simp] theorem havocFlags_demands (m : Word) : (s.havocFlags m).demands = s.demands := rfl
@[simp] theorem havocFlags_gpr (m : Word) : (s.havocFlags m).gpr = s.gpr := rfl
@[simp] theorem havocFlags_seg (m : Word) : (s.havocFlags m).seg = s.seg := rfl
@[simp] theorem havocFlags_ip (m : Word) : (s.havocFlags m).ip = s.ip := rfl
@[simp] theorem havocFlags_pc (m : Word) : (s.havocFlags m).pc = s.pc := rfl
@[simp] theorem havocFlags_queue (m : Word) : (s.havocFlags m).queue = s.queue := rfl
@[simp] theorem havocFlags_nextIsFirst (m : Word) : (s.havocFlags m).nextIsFirst = s.nextIsFirst := rfl
@[simp] theorem havocFlags_lastEa (m : Word) : (s.havocFlags m).lastEa = s.lastEa := rfl
@[simp] theorem havocFlags_eaOpr (m : Word) : (s.havocFlags m).eaOpr = s.eaOpr := rfl
@[simp] theorem havocFlags_inhibit (m : Word) : (s.havocFlags m).inhibit = s.inhibit := rfl
@[simp] theorem havocFlags_nmiLatch (m : Word) : (s.havocFlags m).nmiLatch = s.nmiLatch := rfl
@[simp] theorem havocFlags_lock (m : Word) : (s.havocFlags m).lock = s.lock := rfl
@[simp] theorem havocFlags_halted (m : Word) : (s.havocFlags m).halted = s.halted := rfl
@[simp] theorem havocFlags_dec (m : Word) : (s.havocFlags m).dec = s.dec := rfl
@[simp] theorem havocFlags_life (m : Word) : (s.havocFlags m).life = s.life := rfl
@[simp] theorem havocFlags_sequences (m : Word) : (s.havocFlags m).sequences = s.sequences := rfl
@[simp] theorem havocFlags_pins (m : Word) : (s.havocFlags m).pins = s.pins := rfl
@[simp] theorem havocFlags_biu (m : Word) : (s.havocFlags m).biu = s.biu := rfl
@[simp] theorem havocFlags_dma (m : Word) : (s.havocFlags m).dma = s.dma := rfl
@[simp] theorem havocFlags_cycles (m : Word) : (s.havocFlags m).cycles = s.cycles := rfl
@[simp] theorem havocFlags_record (m : Word) : (s.havocFlags m).record = s.record := rfl
@[simp] theorem havocFlags_mem (m : Word) : (s.havocFlags m).mem = s.mem := rfl
@[simp] theorem havocFlags_bus (m : Word) : (s.havocFlags m).bus = s.bus := rfl
@[simp] theorem havocFlags_devIn (m : Word) : (s.havocFlags m).devIn = s.devIn := rfl
@[simp] theorem havocFlags_script (m : Word) : (s.havocFlags m).script = s.script := rfl
@[simp] theorem havocFlags_fills (m : Word) : (s.havocFlags m).fills = s.fills := rfl
@[simp] theorem havocFlags_stale (m : Word) : (s.havocFlags m).stale = s.stale := rfl
@[simp] theorem havocFlags_steps (m : Word) : (s.havocFlags m).steps = s.steps := rfl
@[simp] theorem havocFlags_cfg (m : Word) : (s.havocFlags m).cfg = s.cfg := rfl
@[simp] theorem havocFlags_system (m : Word) : (s.havocFlags m).system = s.system := rfl

@[simp] theorem logBus_gpr (e : BusEvent) : (s.logBus e).gpr = s.gpr := rfl
@[simp] theorem logBus_seg (e : BusEvent) : (s.logBus e).seg = s.seg := rfl
@[simp] theorem logBus_ip (e : BusEvent) : (s.logBus e).ip = s.ip := rfl
@[simp] theorem logBus_pc (e : BusEvent) : (s.logBus e).pc = s.pc := rfl
@[simp] theorem logBus_flags (e : BusEvent) : (s.logBus e).flags = s.flags := rfl
@[simp] theorem logBus_queue (e : BusEvent) : (s.logBus e).queue = s.queue := rfl
@[simp] theorem logBus_nextIsFirst (e : BusEvent) : (s.logBus e).nextIsFirst = s.nextIsFirst := rfl
@[simp] theorem logBus_lastEa (e : BusEvent) : (s.logBus e).lastEa = s.lastEa := rfl
@[simp] theorem logBus_eaOpr (e : BusEvent) : (s.logBus e).eaOpr = s.eaOpr := rfl
@[simp] theorem logBus_inhibit (e : BusEvent) : (s.logBus e).inhibit = s.inhibit := rfl
@[simp] theorem logBus_nmiLatch (e : BusEvent) : (s.logBus e).nmiLatch = s.nmiLatch := rfl
@[simp] theorem logBus_lock (e : BusEvent) : (s.logBus e).lock = s.lock := rfl
@[simp] theorem logBus_halted (e : BusEvent) : (s.logBus e).halted = s.halted := rfl
@[simp] theorem logBus_dec (e : BusEvent) : (s.logBus e).dec = s.dec := rfl
@[simp] theorem logBus_life (e : BusEvent) : (s.logBus e).life = s.life := rfl
@[simp] theorem logBus_sequences (e : BusEvent) : (s.logBus e).sequences = s.sequences := rfl
@[simp] theorem logBus_pins (e : BusEvent) : (s.logBus e).pins = s.pins := rfl
@[simp] theorem logBus_biu (e : BusEvent) : (s.logBus e).biu = s.biu := rfl
@[simp] theorem logBus_dma (e : BusEvent) : (s.logBus e).dma = s.dma := rfl
@[simp] theorem logBus_cycles (e : BusEvent) : (s.logBus e).cycles = s.cycles := rfl
@[simp] theorem logBus_record (e : BusEvent) : (s.logBus e).record = s.record := rfl
@[simp] theorem logBus_mem (e : BusEvent) : (s.logBus e).mem = s.mem := rfl
@[simp] theorem logBus_devIn (e : BusEvent) : (s.logBus e).devIn = s.devIn := rfl
@[simp] theorem logBus_script (e : BusEvent) : (s.logBus e).script = s.script := rfl
@[simp] theorem logBus_fills (e : BusEvent) : (s.logBus e).fills = s.fills := rfl
@[simp] theorem logBus_stale (e : BusEvent) : (s.logBus e).stale = s.stale := rfl
@[simp] theorem logBus_steps (e : BusEvent) : (s.logBus e).steps = s.steps := rfl
@[simp] theorem logBus_draws (e : BusEvent) : (s.logBus e).draws = s.draws := rfl
@[simp] theorem logBus_cfg (e : BusEvent) : (s.logBus e).cfg = s.cfg := rfl
@[simp] theorem logBus_system (e : BusEvent) : (s.logBus e).system = s.system := rfl

@[simp] theorem setSreg_system (r : SReg) (v : Word) : (s.setSreg r v).system = { s.system with seg := s.seg.set r v } := rfl
@[simp] theorem havocFlags_flags (m : Word) : (s.havocFlags m).flags = putFlags m s.undefinedFlags s.flags := rfl

/-! ### Code fetches: what they leave alone -/

/-- Nothing but prefetching has happened: the queue, PC, the fetch and bus state, the schedule of fills and the count of free values
may have moved, and code fetches may have been seen on the bus. -/
structure Fetched (s t : State) : Prop where
  gpr : t.gpr = s.gpr
  ip : t.ip = s.ip
  flags : t.flags = s.flags
  lastEa : t.lastEa = s.lastEa
  eaOpr : t.eaOpr = s.eaOpr
  nextIsFirst : t.nextIsFirst = s.nextIsFirst
  stale : t.stale = s.stale
  system : t.system = s.system
  mem : t.mem = s.mem
  devIn : t.devIn = s.devIn
  bus : ∃ l, t.bus = l ++ s.bus ∧ ∀ e ∈ l, e.isFetch = true

theorem Fetched.refl : Fetched s s := ⟨rfl, rfl, rfl, rfl, rfl, rfl, rfl, rfl, rfl, rfl, [], rfl, by simp⟩

theorem Fetched.trans {s t u : State} (h : Fetched s t) (g : Fetched t u) : Fetched s u where
  gpr := g.gpr.trans h.gpr
  ip := g.ip.trans h.ip
  flags := g.flags.trans h.flags
  lastEa := g.lastEa.trans h.lastEa
  eaOpr := g.eaOpr.trans h.eaOpr
  nextIsFirst := g.nextIsFirst.trans h.nextIsFirst
  stale := g.stale.trans h.stale
  system := g.system.trans h.system
  mem := g.mem.trans h.mem
  devIn := g.devIn.trans h.devIn
  bus := by
    obtain ⟨l, e, hl⟩ := h.bus
    obtain ⟨k, e', hk⟩ := g.bus
    refine ⟨k ++ l, by rw [e', e, List.append_assoc], fun x hx => ?_⟩
    exact (List.mem_append.mp hx).elim (hk x) (hl x)

theorem Fetched.demands {s t : State} (h : Fetched s t) : t.demands = s.demands := by
  obtain ⟨l, e, hl⟩ := h.bus
  unfold State.demands
  rw [e, List.filter_append, List.filter_eq_nil_iff.mpr fun x hx => by simp [hl x hx]]
  rfl

theorem Fetched.cfg {s t : State} (h : Fetched s t) : t.cfg = s.cfg := congrArg System.cfg h.system
theorem Fetched.seg {s t : State} (h : Fetched s t) : t.seg = s.seg := congrArg System.seg h.system

/-- A bus interface unit that keeps its latches, beside the queue, PC and the count of free values. -/
theorem fetched_setBiu {b : Biu} (h : b.latches = s.biu.latches) : Fetched s (s.setBiu b) :=
  ⟨rfl, rfl, rfl, rfl, rfl, rfl, rfl, by rw [setBiu_system, h]; rfl, rfl, rfl, [], rfl, by simp⟩

theorem fetched_setQueue (q : List Byte) : Fetched s (s.setQueue q) := ⟨rfl, rfl, rfl, rfl, rfl, rfl, rfl, rfl, rfl, rfl, [], rfl, by simp⟩
theorem fetched_setPc (v : Word) : Fetched s (s.setPc v) := ⟨rfl, rfl, rfl, rfl, rfl, rfl, rfl, rfl, rfl, rfl, [], rfl, by simp⟩
theorem fetched_bumpDraws : Fetched s s.bumpDraws := ⟨rfl, rfl, rfl, rfl, rfl, rfl, rfl, rfl, rfl, rfl, [], rfl, by simp⟩
theorem fetched_setFills (l : List Nat) : Fetched s (s.setFills l) := ⟨rfl, rfl, rfl, rfl, rfl, rfl, rfl, rfl, rfl, rfl, [], rfl, by simp⟩
theorem fetched_logFetch (a : BitVec 20) (wide : Bool) (w : Word) : Fetched s (s.logBus (.codeFetch a wide w)) :=
  ⟨rfl, rfl, rfl, rfl, rfl, rfl, rfl, rfl, rfl, rfl, [.codeFetch a wide w], rfl, by simp [BusEvent.isFetch]⟩

@[simp] theorem setFetchState_latches (b : Biu) (f : FetchState) : ({ b with fetchState := f } : Biu).latches = b.latches := rfl

@[simp] theorem setQueueRead_latches (b : Biu) (f : FetchState) (r : Bool) :
    ({ b with fetchState := f, queueRead := r } : Biu).latches = b.latches := rfl

@[simp] theorem toIdle_latches (b : Biu) : b.toIdle.latches = b.latches := rfl

@[simp] theorem dropAddressCycle_latches (b : Biu) : b.dropAddressCycle.latches = b.latches := by
  unfold Biu.dropAddressCycle
  dsimp only
  split <;> rfl

@[simp] theorem dropPrepared_latches (b : Biu) : b.dropPrepared.latches = b.latches := by
  unfold Biu.dropPrepared
  split
  · exact dropAddressCycle_latches b
  · rfl

@[simp] theorem discardFetch_latches (b : Biu) : b.discardFetch.latches = b.latches := by
  unfold Biu.discardFetch
  split <;> rfl

@[simp] theorem leaveInit_latches (b : Biu) : b.leaveInit.latches = b.latches := rfl

theorem setFetch_fetched (f : FetchState) : Fetched s (s.setFetch f) := fetched_setBiu s rfl

theorem syncFetch_fetched : Fetched s s.syncFetch := setFetch_fetched s _

theorem pushBytes_fetched (bs : List Byte) : Fetched s (s.pushBytes bs) :=
  ((fetched_setQueue s _).trans (fetched_setPc _ _)).trans (syncFetch_fetched _)

theorem fetchNow_fetched (wide : Bool) : Fetched s (s.fetchNow wide) :=
  ((fetched_setBiu s (b := s.biu.dropPrepared.leaveInit) (dropPrepared_latches s.biu)).trans (fetched_logFetch _ _ _ _)).trans (pushBytes_fetched _ _)

theorem endFetch_fetched (c : BusCycle) (w : Word) : Fetched s (s.endFetch c w) := by
  unfold State.endFetch
  dsimp only
  split
  · exact fetched_setBiu s rfl
  · exact (fetched_setBiu s (b := s.biu.endFetch) rfl).trans (pushBytes_fetched _ _)

theorem completeCycle_fetched : Fetched s s.completeCycle := by
  unfold State.completeCycle
  split
  · exact Fetched.refl s
  · split
    · split
      · exact endFetch_fetched s _ _
      · exact (fetched_logFetch s _ _ _).trans (endFetch_fetched _ _ _)
    · exact Fetched.refl s

theorem completeFetch_fetched : Fetched s s.completeFetch := by
  unfold State.completeFetch
  dsimp only
  split
  · exact (completeCycle_fetched s).trans (fetchNow_fetched _ _)
  · exact completeCycle_fetched s

theorem fillOnce_fetched : Fetched s s.fillOnce := by
  unfold State.fillOnce
  split
  · exact fetchNow_fetched s _
  · exact Fetched.refl s

theorem fillMany_fetched (n : Nat) : Fetched s (State.fillMany n s) := by
  induction n generalizing s with
  | zero => exact Fetched.refl s
  | succ n ih => exact (fillOnce_fetched s).trans (ih _)

theorem elapseDelay_fetched : Fetched s s.elapseDelay := by
  unfold State.elapseDelay
  split
  · exact (setFetch_fetched s _).trans (syncFetch_fetched _)
  all_goals exact Fetched.refl s

theorem fillBy_fetched (n : Nat) : Fetched s (State.fillBy n s) := by
  cases n with
  | zero => exact Fetched.refl s
  | succ n => exact ((completeFetch_fetched s).trans (elapseDelay_fetched _)).trans (fillMany_fetched _ _)

theorem prefetch_fetched : Fetched s s.prefetch := by
  unfold State.prefetch
  split
  · exact Fetched.refl s
  · exact (fetched_setFills s _).trans (fillBy_fetched _ _)

theorem fetchAhead_fetched : Fetched s s.fetchAhead := by
  unfold State.fetchAhead
  split
  · exact fetchNow_fetched s _
  · exact Fetched.refl s

theorem fetchThrough_fetched (n k : Nat) : Fetched s (State.fetchThrough n k s) := by
  induction n generalizing s with
  | zero => exact Fetched.refl s
  | succ n ih =>
    unfold State.fetchThrough
    split
    · exact Fetched.refl s
    · exact (fetchAhead_fetched s).trans (ih _)

theorem fetchUpTo_fetched (a : BitVec 20) : Fetched s (s.fetchUpTo a) := by
  unfold State.fetchUpTo
  split
  · exact ((completeFetch_fetched s).trans (elapseDelay_fetched _)).trans (fetchThrough_fetched _ _ _)
  · exact Fetched.refl s

theorem drawOld_fetched (a : BitVec 20) : Fetched s (s.drawOld a).2 := by
  unfold State.drawOld
  split
  · split
    · exact Fetched.refl s
    · exact fetched_bumpDraws s
  · exact Fetched.refl s

theorem await_fetched : Fetched s s.await := by
  unfold State.await
  split
  · exact Fetched.refl s
  · dsimp only
    split
    · exact completeFetch_fetched s
    · exact ((completeFetch_fetched s).trans ((setFetch_fetched _ _).trans (fetched_setPc _ _))).trans (fetchNow_fetched _ _)


/-! ### Code fetches, field by field -/

@[simp] theorem prefetch_gpr : (s.prefetch).gpr = s.gpr := (prefetch_fetched s).gpr
@[simp] theorem prefetch_ip : (s.prefetch).ip = s.ip := (prefetch_fetched s).ip
@[simp] theorem prefetch_flags : (s.prefetch).flags = s.flags := (prefetch_fetched s).flags
@[simp] theorem prefetch_lastEa : (s.prefetch).lastEa = s.lastEa := (prefetch_fetched s).lastEa
@[simp] theorem prefetch_eaOpr : (s.prefetch).eaOpr = s.eaOpr := (prefetch_fetched s).eaOpr
@[simp] theorem prefetch_nextIsFirst : (s.prefetch).nextIsFirst = s.nextIsFirst := (prefetch_fetched s).nextIsFirst
@[simp] theorem prefetch_stale : (s.prefetch).stale = s.stale := (prefetch_fetched s).stale
@[simp] theorem prefetch_system : (s.prefetch).system = s.system := (prefetch_fetched s).system
@[simp] theorem prefetch_mem : (s.prefetch).mem = s.mem := (prefetch_fetched s).mem
@[simp] theorem prefetch_devIn : (s.prefetch).devIn = s.devIn := (prefetch_fetched s).devIn
@[simp] theorem prefetch_demands : (s.prefetch).demands = s.demands := (prefetch_fetched s).demands
@[simp] theorem prefetch_steps : (s.prefetch).steps = s.steps := congrArg System.steps (prefetch_system s)
@[simp] theorem prefetch_seg : (s.prefetch).seg = s.seg := congrArg System.seg (prefetch_system s)
@[simp] theorem prefetch_dec : (s.prefetch).dec = s.dec := congrArg System.dec (prefetch_system s)
@[simp] theorem prefetch_cfg : (s.prefetch).cfg = s.cfg := congrArg System.cfg (prefetch_system s)
@[simp] theorem prefetch_life : (s.prefetch).life = s.life := congrArg System.life (prefetch_system s)
@[simp] theorem prefetch_halted : (s.prefetch).halted = s.halted := congrArg System.halted (prefetch_system s)
@[simp] theorem prefetch_pins : (s.prefetch).pins = s.pins := congrArg System.pins (prefetch_system s)
@[simp] theorem prefetch_inhibit : (s.prefetch).inhibit = s.inhibit := congrArg System.inhibit (prefetch_system s)
@[simp] theorem prefetch_nmiLatch : (s.prefetch).nmiLatch = s.nmiLatch := congrArg System.nmiLatch (prefetch_system s)
@[simp] theorem prefetch_lock : (s.prefetch).lock = s.lock := congrArg System.lock (prefetch_system s)

@[simp] theorem fetchUpTo_gpr (a : BitVec 20) : (s.fetchUpTo a).gpr = s.gpr := (fetchUpTo_fetched s a).gpr
@[simp] theorem fetchUpTo_ip (a : BitVec 20) : (s.fetchUpTo a).ip = s.ip := (fetchUpTo_fetched s a).ip
@[simp] theorem fetchUpTo_flags (a : BitVec 20) : (s.fetchUpTo a).flags = s.flags := (fetchUpTo_fetched s a).flags
@[simp] theorem fetchUpTo_lastEa (a : BitVec 20) : (s.fetchUpTo a).lastEa = s.lastEa := (fetchUpTo_fetched s a).lastEa
@[simp] theorem fetchUpTo_eaOpr (a : BitVec 20) : (s.fetchUpTo a).eaOpr = s.eaOpr := (fetchUpTo_fetched s a).eaOpr
@[simp] theorem fetchUpTo_nextIsFirst (a : BitVec 20) : (s.fetchUpTo a).nextIsFirst = s.nextIsFirst := (fetchUpTo_fetched s a).nextIsFirst
@[simp] theorem fetchUpTo_stale (a : BitVec 20) : (s.fetchUpTo a).stale = s.stale := (fetchUpTo_fetched s a).stale
@[simp] theorem fetchUpTo_system (a : BitVec 20) : (s.fetchUpTo a).system = s.system := (fetchUpTo_fetched s a).system
@[simp] theorem fetchUpTo_mem (a : BitVec 20) : (s.fetchUpTo a).mem = s.mem := (fetchUpTo_fetched s a).mem
@[simp] theorem fetchUpTo_devIn (a : BitVec 20) : (s.fetchUpTo a).devIn = s.devIn := (fetchUpTo_fetched s a).devIn
@[simp] theorem fetchUpTo_demands (a : BitVec 20) : (s.fetchUpTo a).demands = s.demands := (fetchUpTo_fetched s a).demands
@[simp] theorem fetchUpTo_steps (a : BitVec 20) : (s.fetchUpTo a).steps = s.steps := congrArg System.steps (fetchUpTo_system s a)
@[simp] theorem fetchUpTo_seg (a : BitVec 20) : (s.fetchUpTo a).seg = s.seg := congrArg System.seg (fetchUpTo_system s a)
@[simp] theorem fetchUpTo_dec (a : BitVec 20) : (s.fetchUpTo a).dec = s.dec := congrArg System.dec (fetchUpTo_system s a)
@[simp] theorem fetchUpTo_cfg (a : BitVec 20) : (s.fetchUpTo a).cfg = s.cfg := congrArg System.cfg (fetchUpTo_system s a)
@[simp] theorem fetchUpTo_life (a : BitVec 20) : (s.fetchUpTo a).life = s.life := congrArg System.life (fetchUpTo_system s a)
@[simp] theorem fetchUpTo_halted (a : BitVec 20) : (s.fetchUpTo a).halted = s.halted := congrArg System.halted (fetchUpTo_system s a)
@[simp] theorem fetchUpTo_pins (a : BitVec 20) : (s.fetchUpTo a).pins = s.pins := congrArg System.pins (fetchUpTo_system s a)
@[simp] theorem fetchUpTo_inhibit (a : BitVec 20) : (s.fetchUpTo a).inhibit = s.inhibit := congrArg System.inhibit (fetchUpTo_system s a)
@[simp] theorem fetchUpTo_nmiLatch (a : BitVec 20) : (s.fetchUpTo a).nmiLatch = s.nmiLatch := congrArg System.nmiLatch (fetchUpTo_system s a)
@[simp] theorem fetchUpTo_lock (a : BitVec 20) : (s.fetchUpTo a).lock = s.lock := congrArg System.lock (fetchUpTo_system s a)

@[simp] theorem drawOld_gpr (a : BitVec 20) : ((s.drawOld a).2).gpr = s.gpr := (drawOld_fetched s a).gpr
@[simp] theorem drawOld_ip (a : BitVec 20) : ((s.drawOld a).2).ip = s.ip := (drawOld_fetched s a).ip
@[simp] theorem drawOld_flags (a : BitVec 20) : ((s.drawOld a).2).flags = s.flags := (drawOld_fetched s a).flags
@[simp] theorem drawOld_lastEa (a : BitVec 20) : ((s.drawOld a).2).lastEa = s.lastEa := (drawOld_fetched s a).lastEa
@[simp] theorem drawOld_eaOpr (a : BitVec 20) : ((s.drawOld a).2).eaOpr = s.eaOpr := (drawOld_fetched s a).eaOpr
@[simp] theorem drawOld_nextIsFirst (a : BitVec 20) : ((s.drawOld a).2).nextIsFirst = s.nextIsFirst := (drawOld_fetched s a).nextIsFirst
@[simp] theorem drawOld_stale (a : BitVec 20) : ((s.drawOld a).2).stale = s.stale := (drawOld_fetched s a).stale
@[simp] theorem drawOld_system (a : BitVec 20) : ((s.drawOld a).2).system = s.system := (drawOld_fetched s a).system
@[simp] theorem drawOld_mem (a : BitVec 20) : ((s.drawOld a).2).mem = s.mem := (drawOld_fetched s a).mem
@[simp] theorem drawOld_devIn (a : BitVec 20) : ((s.drawOld a).2).devIn = s.devIn := (drawOld_fetched s a).devIn
@[simp] theorem drawOld_demands (a : BitVec 20) : ((s.drawOld a).2).demands = s.demands := (drawOld_fetched s a).demands
@[simp] theorem drawOld_steps (a : BitVec 20) : ((s.drawOld a).2).steps = s.steps := congrArg System.steps (drawOld_system s a)
@[simp] theorem drawOld_seg (a : BitVec 20) : ((s.drawOld a).2).seg = s.seg := congrArg System.seg (drawOld_system s a)
@[simp] theorem drawOld_dec (a : BitVec 20) : ((s.drawOld a).2).dec = s.dec := congrArg System.dec (drawOld_system s a)
@[simp] theorem drawOld_cfg (a : BitVec 20) : ((s.drawOld a).2).cfg = s.cfg := congrArg System.cfg (drawOld_system s a)
@[simp] theorem drawOld_life (a : BitVec 20) : ((s.drawOld a).2).life = s.life := congrArg System.life (drawOld_system s a)
@[simp] theorem drawOld_halted (a : BitVec 20) : ((s.drawOld a).2).halted = s.halted := congrArg System.halted (drawOld_system s a)
@[simp] theorem drawOld_pins (a : BitVec 20) : ((s.drawOld a).2).pins = s.pins := congrArg System.pins (drawOld_system s a)
@[simp] theorem drawOld_inhibit (a : BitVec 20) : ((s.drawOld a).2).inhibit = s.inhibit := congrArg System.inhibit (drawOld_system s a)
@[simp] theorem drawOld_nmiLatch (a : BitVec 20) : ((s.drawOld a).2).nmiLatch = s.nmiLatch := congrArg System.nmiLatch (drawOld_system s a)
@[simp] theorem drawOld_lock (a : BitVec 20) : ((s.drawOld a).2).lock = s.lock := congrArg System.lock (drawOld_system s a)

@[simp] theorem await_gpr : (s.await).gpr = s.gpr := (await_fetched s).gpr
@[simp] theorem await_ip : (s.await).ip = s.ip := (await_fetched s).ip
@[simp] theorem await_flags : (s.await).flags = s.flags := (await_fetched s).flags
@[simp] theorem await_lastEa : (s.await).lastEa = s.lastEa := (await_fetched s).lastEa
@[simp] theorem await_eaOpr : (s.await).eaOpr = s.eaOpr := (await_fetched s).eaOpr
@[simp] theorem await_nextIsFirst : (s.await).nextIsFirst = s.nextIsFirst := (await_fetched s).nextIsFirst
@[simp] theorem await_stale : (s.await).stale = s.stale := (await_fetched s).stale
@[simp] theorem await_system : (s.await).system = s.system := (await_fetched s).system
@[simp] theorem await_mem : (s.await).mem = s.mem := (await_fetched s).mem
@[simp] theorem await_devIn : (s.await).devIn = s.devIn := (await_fetched s).devIn
@[simp] theorem await_demands : (s.await).demands = s.demands := (await_fetched s).demands
@[simp] theorem await_steps : (s.await).steps = s.steps := congrArg System.steps (await_system s)
@[simp] theorem await_seg : (s.await).seg = s.seg := congrArg System.seg (await_system s)
@[simp] theorem await_dec : (s.await).dec = s.dec := congrArg System.dec (await_system s)
@[simp] theorem await_cfg : (s.await).cfg = s.cfg := congrArg System.cfg (await_system s)
@[simp] theorem await_life : (s.await).life = s.life := congrArg System.life (await_system s)
@[simp] theorem await_halted : (s.await).halted = s.halted := congrArg System.halted (await_system s)
@[simp] theorem await_pins : (s.await).pins = s.pins := congrArg System.pins (await_system s)
@[simp] theorem await_inhibit : (s.await).inhibit = s.inhibit := congrArg System.inhibit (await_system s)
@[simp] theorem await_nmiLatch : (s.await).nmiLatch = s.nmiLatch := congrArg System.nmiLatch (await_system s)
@[simp] theorem await_lock : (s.await).lock = s.lock := congrArg System.lock (await_system s)

@[simp] theorem completeFetch_gpr : (s.completeFetch).gpr = s.gpr := (completeFetch_fetched s).gpr
@[simp] theorem completeFetch_ip : (s.completeFetch).ip = s.ip := (completeFetch_fetched s).ip
@[simp] theorem completeFetch_flags : (s.completeFetch).flags = s.flags := (completeFetch_fetched s).flags
@[simp] theorem completeFetch_lastEa : (s.completeFetch).lastEa = s.lastEa := (completeFetch_fetched s).lastEa
@[simp] theorem completeFetch_eaOpr : (s.completeFetch).eaOpr = s.eaOpr := (completeFetch_fetched s).eaOpr
@[simp] theorem completeFetch_nextIsFirst : (s.completeFetch).nextIsFirst = s.nextIsFirst := (completeFetch_fetched s).nextIsFirst
@[simp] theorem completeFetch_stale : (s.completeFetch).stale = s.stale := (completeFetch_fetched s).stale
@[simp] theorem completeFetch_system : (s.completeFetch).system = s.system := (completeFetch_fetched s).system
@[simp] theorem completeFetch_mem : (s.completeFetch).mem = s.mem := (completeFetch_fetched s).mem
@[simp] theorem completeFetch_devIn : (s.completeFetch).devIn = s.devIn := (completeFetch_fetched s).devIn
@[simp] theorem completeFetch_demands : (s.completeFetch).demands = s.demands := (completeFetch_fetched s).demands
@[simp] theorem completeFetch_steps : (s.completeFetch).steps = s.steps := congrArg System.steps (completeFetch_system s)
@[simp] theorem completeFetch_seg : (s.completeFetch).seg = s.seg := congrArg System.seg (completeFetch_system s)
@[simp] theorem completeFetch_dec : (s.completeFetch).dec = s.dec := congrArg System.dec (completeFetch_system s)
@[simp] theorem completeFetch_cfg : (s.completeFetch).cfg = s.cfg := congrArg System.cfg (completeFetch_system s)
@[simp] theorem completeFetch_life : (s.completeFetch).life = s.life := congrArg System.life (completeFetch_system s)
@[simp] theorem completeFetch_halted : (s.completeFetch).halted = s.halted := congrArg System.halted (completeFetch_system s)
@[simp] theorem completeFetch_pins : (s.completeFetch).pins = s.pins := congrArg System.pins (completeFetch_system s)
@[simp] theorem completeFetch_inhibit : (s.completeFetch).inhibit = s.inhibit := congrArg System.inhibit (completeFetch_system s)
@[simp] theorem completeFetch_nmiLatch : (s.completeFetch).nmiLatch = s.nmiLatch := congrArg System.nmiLatch (completeFetch_system s)
@[simp] theorem completeFetch_lock : (s.completeFetch).lock = s.lock := congrArg System.lock (completeFetch_system s)

@[simp] theorem prefetch_dma : s.prefetch.dma = s.dma := congrArg System.dma (prefetch_system s)
@[simp] theorem prefetch_cycles : s.prefetch.cycles = s.cycles := congrArg System.cycles (prefetch_system s)
@[simp] theorem prefetch_record : s.prefetch.record = s.record := congrArg System.record (prefetch_system s)
@[simp] theorem prefetch_script : s.prefetch.script = s.script := congrArg System.script (prefetch_system s)
@[simp] theorem prefetch_sequences : s.prefetch.sequences = s.sequences := congrArg System.sequences (prefetch_system s)
@[simp] theorem completeFetch_dma : s.completeFetch.dma = s.dma := congrArg System.dma (completeFetch_system s)
@[simp] theorem completeFetch_cycles : s.completeFetch.cycles = s.cycles := congrArg System.cycles (completeFetch_system s)
@[simp] theorem completeFetch_record : s.completeFetch.record = s.record := congrArg System.record (completeFetch_system s)
@[simp] theorem completeFetch_script : s.completeFetch.script = s.script := congrArg System.script (completeFetch_system s)
@[simp] theorem completeFetch_sequences : s.completeFetch.sequences = s.sequences := congrArg System.sequences (completeFetch_system s)

/-! ### Reads -/

@[simp] theorem takeDevice_gpr : (s.takeDevice.2).gpr = s.gpr := by
  unfold State.takeDevice; split <;> rfl
@[simp] theorem takeDevice_ip : (s.takeDevice.2).ip = s.ip := by
  unfold State.takeDevice; split <;> rfl
@[simp] theorem takeDevice_flags : (s.takeDevice.2).flags = s.flags := by
  unfold State.takeDevice; split <;> rfl
@[simp] theorem takeDevice_lastEa : (s.takeDevice.2).lastEa = s.lastEa := by
  unfold State.takeDevice; split <;> rfl
@[simp] theorem takeDevice_eaOpr : (s.takeDevice.2).eaOpr = s.eaOpr := by
  unfold State.takeDevice; split <;> rfl
@[simp] theorem takeDevice_nextIsFirst : (s.takeDevice.2).nextIsFirst = s.nextIsFirst := by
  unfold State.takeDevice; split <;> rfl
@[simp] theorem takeDevice_stale : (s.takeDevice.2).stale = s.stale := by
  unfold State.takeDevice; split <;> rfl
@[simp] theorem takeDevice_system : (s.takeDevice.2).system = s.system := by
  unfold State.takeDevice; split <;> rfl
@[simp] theorem takeDevice_mem : (s.takeDevice.2).mem = s.mem := by
  unfold State.takeDevice; split <;> rfl
@[simp] theorem takeDevice_pc : (s.takeDevice.2).pc = s.pc := by
  unfold State.takeDevice; split <;> rfl
@[simp] theorem takeDevice_queue : (s.takeDevice.2).queue = s.queue := by
  unfold State.takeDevice; split <;> rfl
@[simp] theorem takeDevice_biu : (s.takeDevice.2).biu = s.biu := by
  unfold State.takeDevice; split <;> rfl
@[simp] theorem takeDevice_fills : (s.takeDevice.2).fills = s.fills := by
  unfold State.takeDevice; split <;> rfl
@[simp] theorem takeDevice_steps : (s.takeDevice.2).steps = s.steps := congrArg System.steps (takeDevice_system s)
@[simp] theorem takeDevice_seg : (s.takeDevice.2).seg = s.seg := congrArg System.seg (takeDevice_system s)
@[simp] theorem takeDevice_dec : (s.takeDevice.2).dec = s.dec := congrArg System.dec (takeDevice_system s)
@[simp] theorem takeDevice_cfg : (s.takeDevice.2).cfg = s.cfg := congrArg System.cfg (takeDevice_system s)
@[simp] theorem takeDevice_life : (s.takeDevice.2).life = s.life := congrArg System.life (takeDevice_system s)
@[simp] theorem takeDevice_halted : (s.takeDevice.2).halted = s.halted := congrArg System.halted (takeDevice_system s)
@[simp] theorem takeDevice_pins : (s.takeDevice.2).pins = s.pins := congrArg System.pins (takeDevice_system s)
@[simp] theorem takeDevice_inhibit : (s.takeDevice.2).inhibit = s.inhibit := congrArg System.inhibit (takeDevice_system s)
@[simp] theorem takeDevice_nmiLatch : (s.takeDevice.2).nmiLatch = s.nmiLatch := congrArg System.nmiLatch (takeDevice_system s)
@[simp] theorem takeDevice_lock : (s.takeDevice.2).lock = s.lock := congrArg System.lock (takeDevice_system s)

@[simp] theorem fetchData_gpr (a : BitVec 20) : ((s.fetchData a).2).gpr = s.gpr := by
  unfold State.fetchData; split <;> first | rfl | exact takeDevice_gpr s
@[simp] theorem fetchData_ip (a : BitVec 20) : ((s.fetchData a).2).ip = s.ip := by
  unfold State.fetchData; split <;> first | rfl | exact takeDevice_ip s
@[simp] theorem fetchData_flags (a : BitVec 20) : ((s.fetchData a).2).flags = s.flags := by
  unfold State.fetchData; split <;> first | rfl | exact takeDevice_flags s
@[simp] theorem fetchData_lastEa (a : BitVec 20) : ((s.fetchData a).2).lastEa = s.lastEa := by
  unfold State.fetchData; split <;> first | rfl | exact takeDevice_lastEa s
@[simp] theorem fetchData_eaOpr (a : BitVec 20) : ((s.fetchData a).2).eaOpr = s.eaOpr := by
  unfold State.fetchData; split <;> first | rfl | exact takeDevice_eaOpr s
@[simp] theorem fetchData_nextIsFirst (a : BitVec 20) : ((s.fetchData a).2).nextIsFirst = s.nextIsFirst := by
  unfold State.fetchData; split <;> first | rfl | exact takeDevice_nextIsFirst s
@[simp] theorem fetchData_stale (a : BitVec 20) : ((s.fetchData a).2).stale = s.stale := by
  unfold State.fetchData; split <;> first | rfl | exact takeDevice_stale s
@[simp] theorem fetchData_system (a : BitVec 20) : ((s.fetchData a).2).system = s.system := by
  unfold State.fetchData; split <;> first | rfl | exact takeDevice_system s
@[simp] theorem fetchData_mem (a : BitVec 20) : ((s.fetchData a).2).mem = s.mem := by
  unfold State.fetchData; split <;> first | rfl | exact takeDevice_mem s
@[simp] theorem fetchData_pc (a : BitVec 20) : ((s.fetchData a).2).pc = s.pc := by
  unfold State.fetchData; split <;> first | rfl | exact takeDevice_pc s
@[simp] theorem fetchData_queue (a : BitVec 20) : ((s.fetchData a).2).queue = s.queue := by
  unfold State.fetchData; split <;> first | rfl | exact takeDevice_queue s
@[simp] theorem fetchData_biu (a : BitVec 20) : ((s.fetchData a).2).biu = s.biu := by
  unfold State.fetchData; split <;> first | rfl | exact takeDevice_biu s
@[simp] theorem fetchData_fills (a : BitVec 20) : ((s.fetchData a).2).fills = s.fills := by
  unfold State.fetchData; split <;> first | rfl | exact takeDevice_fills s
@[simp] theorem fetchData_steps (a : BitVec 20) : ((s.fetchData a).2).steps = s.steps := congrArg System.steps (fetchData_system s a)
@[simp] theorem fetchData_seg (a : BitVec 20) : ((s.fetchData a).2).seg = s.seg := congrArg System.seg (fetchData_system s a)
@[simp] theorem fetchData_dec (a : BitVec 20) : ((s.fetchData a).2).dec = s.dec := congrArg System.dec (fetchData_system s a)
@[simp] theorem fetchData_cfg (a : BitVec 20) : ((s.fetchData a).2).cfg = s.cfg := congrArg System.cfg (fetchData_system s a)
@[simp] theorem fetchData_life (a : BitVec 20) : ((s.fetchData a).2).life = s.life := congrArg System.life (fetchData_system s a)
@[simp] theorem fetchData_halted (a : BitVec 20) : ((s.fetchData a).2).halted = s.halted := congrArg System.halted (fetchData_system s a)
@[simp] theorem fetchData_pins (a : BitVec 20) : ((s.fetchData a).2).pins = s.pins := congrArg System.pins (fetchData_system s a)
@[simp] theorem fetchData_inhibit (a : BitVec 20) : ((s.fetchData a).2).inhibit = s.inhibit := congrArg System.inhibit (fetchData_system s a)
@[simp] theorem fetchData_nmiLatch (a : BitVec 20) : ((s.fetchData a).2).nmiLatch = s.nmiLatch := congrArg System.nmiLatch (fetchData_system s a)
@[simp] theorem fetchData_lock (a : BitVec 20) : ((s.fetchData a).2).lock = s.lock := congrArg System.lock (fetchData_system s a)

@[simp] theorem readByte_gpr (acc : Access) (sv off : Word) : ((readByte acc sv off s).2).gpr = s.gpr := by
  simp [readByte]
@[simp] theorem readByte_ip (acc : Access) (sv off : Word) : ((readByte acc sv off s).2).ip = s.ip := by
  simp [readByte]
@[simp] theorem readByte_flags (acc : Access) (sv off : Word) : ((readByte acc sv off s).2).flags = s.flags := by
  simp [readByte]
@[simp] theorem readByte_lastEa (acc : Access) (sv off : Word) : ((readByte acc sv off s).2).lastEa = s.lastEa := by
  simp [readByte]
@[simp] theorem readByte_eaOpr (acc : Access) (sv off : Word) : ((readByte acc sv off s).2).eaOpr = s.eaOpr := by
  simp [readByte]
@[simp] theorem readByte_nextIsFirst (acc : Access) (sv off : Word) : ((readByte acc sv off s).2).nextIsFirst = s.nextIsFirst := by
  simp [readByte]
@[simp] theorem readByte_stale (acc : Access) (sv off : Word) : ((readByte acc sv off s).2).stale = s.stale := by
  simp [readByte]
@[simp] theorem readByte_system (acc : Access) (sv off : Word) : ((readByte acc sv off s).2).system = s.system := by
  simp [readByte]
@[simp] theorem readByte_mem (acc : Access) (sv off : Word) : ((readByte acc sv off s).2).mem = s.mem := by
  simp [readByte]
@[simp] theorem readByte_steps (acc : Access) (sv off : Word) : ((readByte acc sv off s).2).steps = s.steps := congrArg System.steps (readByte_system s acc sv off)
@[simp] theorem readByte_seg (acc : Access) (sv off : Word) : ((readByte acc sv off s).2).seg = s.seg := congrArg System.seg (readByte_system s acc sv off)
@[simp] theorem readByte_dec (acc : Access) (sv off : Word) : ((readByte acc sv off s).2).dec = s.dec := congrArg System.dec (readByte_system s acc sv off)
@[simp] theorem readByte_cfg (acc : Access) (sv off : Word) : ((readByte acc sv off s).2).cfg = s.cfg := congrArg System.cfg (readByte_system s acc sv off)
@[simp] theorem readByte_life (acc : Access) (sv off : Word) : ((readByte acc sv off s).2).life = s.life := congrArg System.life (readByte_system s acc sv off)
@[simp] theorem readByte_halted (acc : Access) (sv off : Word) : ((readByte acc sv off s).2).halted = s.halted := congrArg System.halted (readByte_system s acc sv off)
@[simp] theorem readByte_pins (acc : Access) (sv off : Word) : ((readByte acc sv off s).2).pins = s.pins := congrArg System.pins (readByte_system s acc sv off)
@[simp] theorem readByte_inhibit (acc : Access) (sv off : Word) : ((readByte acc sv off s).2).inhibit = s.inhibit := congrArg System.inhibit (readByte_system s acc sv off)
@[simp] theorem readByte_nmiLatch (acc : Access) (sv off : Word) : ((readByte acc sv off s).2).nmiLatch = s.nmiLatch := congrArg System.nmiLatch (readByte_system s acc sv off)
@[simp] theorem readByte_lock (acc : Access) (sv off : Word) : ((readByte acc sv off s).2).lock = s.lock := congrArg System.lock (readByte_system s acc sv off)

@[simp] theorem readWord_gpr (acc : Access) (sv off : Word) : ((readWord acc sv off s).2).gpr = s.gpr := by
  unfold readWord; split <;> simp
@[simp] theorem readWord_ip (acc : Access) (sv off : Word) : ((readWord acc sv off s).2).ip = s.ip := by
  unfold readWord; split <;> simp
@[simp] theorem readWord_flags (acc : Access) (sv off : Word) : ((readWord acc sv off s).2).flags = s.flags := by
  unfold readWord; split <;> simp
@[simp] theorem readWord_lastEa (acc : Access) (sv off : Word) : ((readWord acc sv off s).2).lastEa = s.lastEa := by
  unfold readWord; split <;> simp
@[simp] theorem readWord_eaOpr (acc : Access) (sv off : Word) : ((readWord acc sv off s).2).eaOpr = s.eaOpr := by
  unfold readWord; split <;> simp
@[simp] theorem readWord_nextIsFirst (acc : Access) (sv off : Word) : ((readWord acc sv off s).2).nextIsFirst = s.nextIsFirst := by
  unfold readWord; split <;> simp
@[simp] theorem readWord_stale (acc : Access) (sv off : Word) : ((readWord acc sv off s).2).stale = s.stale := by
  unfold readWord; split <;> simp
@[simp] theorem readWord_system (acc : Access) (sv off : Word) : ((readWord acc sv off s).2).system = s.system := by
  unfold readWord; split <;> simp
@[simp] theorem readWord_mem (acc : Access) (sv off : Word) : ((readWord acc sv off s).2).mem = s.mem := by
  unfold readWord; split <;> simp
@[simp] theorem readWord_steps (acc : Access) (sv off : Word) : ((readWord acc sv off s).2).steps = s.steps := congrArg System.steps (readWord_system s acc sv off)
@[simp] theorem readWord_seg (acc : Access) (sv off : Word) : ((readWord acc sv off s).2).seg = s.seg := congrArg System.seg (readWord_system s acc sv off)
@[simp] theorem readWord_dec (acc : Access) (sv off : Word) : ((readWord acc sv off s).2).dec = s.dec := congrArg System.dec (readWord_system s acc sv off)
@[simp] theorem readWord_cfg (acc : Access) (sv off : Word) : ((readWord acc sv off s).2).cfg = s.cfg := congrArg System.cfg (readWord_system s acc sv off)
@[simp] theorem readWord_life (acc : Access) (sv off : Word) : ((readWord acc sv off s).2).life = s.life := congrArg System.life (readWord_system s acc sv off)
@[simp] theorem readWord_halted (acc : Access) (sv off : Word) : ((readWord acc sv off s).2).halted = s.halted := congrArg System.halted (readWord_system s acc sv off)
@[simp] theorem readWord_pins (acc : Access) (sv off : Word) : ((readWord acc sv off s).2).pins = s.pins := congrArg System.pins (readWord_system s acc sv off)
@[simp] theorem readWord_inhibit (acc : Access) (sv off : Word) : ((readWord acc sv off s).2).inhibit = s.inhibit := congrArg System.inhibit (readWord_system s acc sv off)
@[simp] theorem readWord_nmiLatch (acc : Access) (sv off : Word) : ((readWord acc sv off s).2).nmiLatch = s.nmiLatch := congrArg System.nmiLatch (readWord_system s acc sv off)
@[simp] theorem readWord_lock (acc : Access) (sv off : Word) : ((readWord acc sv off s).2).lock = s.lock := congrArg System.lock (readWord_system s acc sv off)

@[simp] theorem ioReadByte_gpr (port : Word) : ((ioReadByte port s).2).gpr = s.gpr := by
  simp [ioReadByte]
@[simp] theorem ioReadByte_ip (port : Word) : ((ioReadByte port s).2).ip = s.ip := by
  simp [ioReadByte]
@[simp] theorem ioReadByte_flags (port : Word) : ((ioReadByte port s).2).flags = s.flags := by
  simp [ioReadByte]
@[simp] theorem ioReadByte_lastEa (port : Word) : ((ioReadByte port s).2).lastEa = s.lastEa := by
  simp [ioReadByte]
@[simp] theorem ioReadByte_eaOpr (port : Word) : ((ioReadByte port s).2).eaOpr = s.eaOpr := by
  simp [ioReadByte]
@[simp] theorem ioReadByte_nextIsFirst (port : Word) : ((ioReadByte port s).2).nextIsFirst = s.nextIsFirst := by
  simp [ioReadByte]
@[simp] theorem ioReadByte_stale (port : Word) : ((ioReadByte port s).2).stale = s.stale := by
  simp [ioReadByte]
@[simp] theorem ioReadByte_system (port : Word) : ((ioReadByte port s).2).system = s.system := by
  simp [ioReadByte]
@[simp] theorem ioReadByte_mem (port : Word) : ((ioReadByte port s).2).mem = s.mem := by
  simp [ioReadByte]
@[simp] theorem ioReadByte_steps (port : Word) : ((ioReadByte port s).2).steps = s.steps := congrArg System.steps (ioReadByte_system s port)
@[simp] theorem ioReadByte_seg (port : Word) : ((ioReadByte port s).2).seg = s.seg := congrArg System.seg (ioReadByte_system s port)
@[simp] theorem ioReadByte_dec (port : Word) : ((ioReadByte port s).2).dec = s.dec := congrArg System.dec (ioReadByte_system s port)
@[simp] theorem ioReadByte_cfg (port : Word) : ((ioReadByte port s).2).cfg = s.cfg := congrArg System.cfg (ioReadByte_system s port)
@[simp] theorem ioReadByte_life (port : Word) : ((ioReadByte port s).2).life = s.life := congrArg System.life (ioReadByte_system s port)
@[simp] theorem ioReadByte_halted (port : Word) : ((ioReadByte port s).2).halted = s.halted := congrArg System.halted (ioReadByte_system s port)
@[simp] theorem ioReadByte_pins (port : Word) : ((ioReadByte port s).2).pins = s.pins := congrArg System.pins (ioReadByte_system s port)
@[simp] theorem ioReadByte_inhibit (port : Word) : ((ioReadByte port s).2).inhibit = s.inhibit := congrArg System.inhibit (ioReadByte_system s port)
@[simp] theorem ioReadByte_nmiLatch (port : Word) : ((ioReadByte port s).2).nmiLatch = s.nmiLatch := congrArg System.nmiLatch (ioReadByte_system s port)
@[simp] theorem ioReadByte_lock (port : Word) : ((ioReadByte port s).2).lock = s.lock := congrArg System.lock (ioReadByte_system s port)

@[simp] theorem ioReadWord_gpr (port : Word) : ((ioReadWord port s).2).gpr = s.gpr := by
  simp [ioReadWord]
@[simp] theorem ioReadWord_ip (port : Word) : ((ioReadWord port s).2).ip = s.ip := by
  simp [ioReadWord]
@[simp] theorem ioReadWord_flags (port : Word) : ((ioReadWord port s).2).flags = s.flags := by
  simp [ioReadWord]
@[simp] theorem ioReadWord_lastEa (port : Word) : ((ioReadWord port s).2).lastEa = s.lastEa := by
  simp [ioReadWord]
@[simp] theorem ioReadWord_eaOpr (port : Word) : ((ioReadWord port s).2).eaOpr = s.eaOpr := by
  simp [ioReadWord]
@[simp] theorem ioReadWord_nextIsFirst (port : Word) : ((ioReadWord port s).2).nextIsFirst = s.nextIsFirst := by
  simp [ioReadWord]
@[simp] theorem ioReadWord_stale (port : Word) : ((ioReadWord port s).2).stale = s.stale := by
  simp [ioReadWord]
@[simp] theorem ioReadWord_system (port : Word) : ((ioReadWord port s).2).system = s.system := by
  simp [ioReadWord]
@[simp] theorem ioReadWord_mem (port : Word) : ((ioReadWord port s).2).mem = s.mem := by
  simp [ioReadWord]
@[simp] theorem ioReadWord_steps (port : Word) : ((ioReadWord port s).2).steps = s.steps := congrArg System.steps (ioReadWord_system s port)
@[simp] theorem ioReadWord_seg (port : Word) : ((ioReadWord port s).2).seg = s.seg := congrArg System.seg (ioReadWord_system s port)
@[simp] theorem ioReadWord_dec (port : Word) : ((ioReadWord port s).2).dec = s.dec := congrArg System.dec (ioReadWord_system s port)
@[simp] theorem ioReadWord_cfg (port : Word) : ((ioReadWord port s).2).cfg = s.cfg := congrArg System.cfg (ioReadWord_system s port)
@[simp] theorem ioReadWord_life (port : Word) : ((ioReadWord port s).2).life = s.life := congrArg System.life (ioReadWord_system s port)
@[simp] theorem ioReadWord_halted (port : Word) : ((ioReadWord port s).2).halted = s.halted := congrArg System.halted (ioReadWord_system s port)
@[simp] theorem ioReadWord_pins (port : Word) : ((ioReadWord port s).2).pins = s.pins := congrArg System.pins (ioReadWord_system s port)
@[simp] theorem ioReadWord_inhibit (port : Word) : ((ioReadWord port s).2).inhibit = s.inhibit := congrArg System.inhibit (ioReadWord_system s port)
@[simp] theorem ioReadWord_nmiLatch (port : Word) : ((ioReadWord port s).2).nmiLatch = s.nmiLatch := congrArg System.nmiLatch (ioReadWord_system s port)
@[simp] theorem ioReadWord_lock (port : Word) : ((ioReadWord port s).2).lock = s.lock := congrArg System.lock (ioReadWord_system s port)

/-! ### Writes -/

@[simp] theorem ioWriteByte_gpr (port : Word) (v : Byte) : (ioWriteByte port v s).gpr = s.gpr := by
  simp [ioWriteByte]
@[simp] theorem ioWriteByte_ip (port : Word) (v : Byte) : (ioWriteByte port v s).ip = s.ip := by
  simp [ioWriteByte]
@[simp] theorem ioWriteByte_flags (port : Word) (v : Byte) : (ioWriteByte port v s).flags = s.flags := by
  simp [ioWriteByte]
@[simp] theorem ioWriteByte_lastEa (port : Word) (v : Byte) : (ioWriteByte port v s).lastEa = s.lastEa := by
  simp [ioWriteByte]
@[simp] theorem ioWriteByte_eaOpr (port : Word) (v : Byte) : (ioWriteByte port v s).eaOpr = s.eaOpr := by
  simp [ioWriteByte]
@[simp] theorem ioWriteByte_nextIsFirst (port : Word) (v : Byte) : (ioWriteByte port v s).nextIsFirst = s.nextIsFirst := by
  simp [ioWriteByte]
@[simp] theorem ioWriteByte_stale (port : Word) (v : Byte) : (ioWriteByte port v s).stale = s.stale := by
  simp [ioWriteByte]
@[simp] theorem ioWriteByte_system (port : Word) (v : Byte) : (ioWriteByte port v s).system = s.system := by
  simp [ioWriteByte]
@[simp] theorem ioWriteByte_mem (port : Word) (v : Byte) : (ioWriteByte port v s).mem = s.mem := by
  simp [ioWriteByte]
@[simp] theorem ioWriteByte_devIn (port : Word) (v : Byte) : (ioWriteByte port v s).devIn = s.devIn := by
  simp [ioWriteByte]
@[simp] theorem ioWriteByte_steps (port : Word) (v : Byte) : (ioWriteByte port v s).steps = s.steps := congrArg System.steps (ioWriteByte_system s port v)
@[simp] theorem ioWriteByte_seg (port : Word) (v : Byte) : (ioWriteByte port v s).seg = s.seg := congrArg System.seg (ioWriteByte_system s port v)
@[simp] theorem ioWriteByte_dec (port : Word) (v : Byte) : (ioWriteByte port v s).dec = s.dec := congrArg System.dec (ioWriteByte_system s port v)
@[simp] theorem ioWriteByte_cfg (port : Word) (v : Byte) : (ioWriteByte port v s).cfg = s.cfg := congrArg System.cfg (ioWriteByte_system s port v)
@[simp] theorem ioWriteByte_life (port : Word) (v : Byte) : (ioWriteByte port v s).life = s.life := congrArg System.life (ioWriteByte_system s port v)
@[simp] theorem ioWriteByte_halted (port : Word) (v : Byte) : (ioWriteByte port v s).halted = s.halted := congrArg System.halted (ioWriteByte_system s port v)
@[simp] theorem ioWriteByte_pins (port : Word) (v : Byte) : (ioWriteByte port v s).pins = s.pins := congrArg System.pins (ioWriteByte_system s port v)
@[simp] theorem ioWriteByte_inhibit (port : Word) (v : Byte) : (ioWriteByte port v s).inhibit = s.inhibit := congrArg System.inhibit (ioWriteByte_system s port v)
@[simp] theorem ioWriteByte_nmiLatch (port : Word) (v : Byte) : (ioWriteByte port v s).nmiLatch = s.nmiLatch := congrArg System.nmiLatch (ioWriteByte_system s port v)
@[simp] theorem ioWriteByte_lock (port : Word) (v : Byte) : (ioWriteByte port v s).lock = s.lock := congrArg System.lock (ioWriteByte_system s port v)

@[simp] theorem ioWriteWord_gpr (port : Word) (v : Word) : (ioWriteWord port v s).gpr = s.gpr := by
  simp [ioWriteWord]
@[simp] theorem ioWriteWord_ip (port : Word) (v : Word) : (ioWriteWord port v s).ip = s.ip := by
  simp [ioWriteWord]
@[simp] theorem ioWriteWord_flags (port : Word) (v : Word) : (ioWriteWord port v s).flags = s.flags := by
  simp [ioWriteWord]
@[simp] theorem ioWriteWord_lastEa (port : Word) (v : Word) : (ioWriteWord port v s).lastEa = s.lastEa := by
  simp [ioWriteWord]
@[simp] theorem ioWriteWord_eaOpr (port : Word) (v : Word) : (ioWriteWord port v s).eaOpr = s.eaOpr := by
  simp [ioWriteWord]
@[simp] theorem ioWriteWord_nextIsFirst (port : Word) (v : Word) : (ioWriteWord port v s).nextIsFirst = s.nextIsFirst := by
  simp [ioWriteWord]
@[simp] theorem ioWriteWord_stale (port : Word) (v : Word) : (ioWriteWord port v s).stale = s.stale := by
  simp [ioWriteWord]
@[simp] theorem ioWriteWord_system (port : Word) (v : Word) : (ioWriteWord port v s).system = s.system := by
  simp [ioWriteWord]
@[simp] theorem ioWriteWord_mem (port : Word) (v : Word) : (ioWriteWord port v s).mem = s.mem := by
  simp [ioWriteWord]
@[simp] theorem ioWriteWord_devIn (port : Word) (v : Word) : (ioWriteWord port v s).devIn = s.devIn := by
  simp [ioWriteWord]
@[simp] theorem ioWriteWord_steps (port : Word) (v : Word) : (ioWriteWord port v s).steps = s.steps := congrArg System.steps (ioWriteWord_system s port v)
@[simp] theorem ioWriteWord_seg (port : Word) (v : Word) : (ioWriteWord port v s).seg = s.seg := congrArg System.seg (ioWriteWord_system s port v)
@[simp] theorem ioWriteWord_dec (port : Word) (v : Word) : (ioWriteWord port v s).dec = s.dec := congrArg System.dec (ioWriteWord_system s port v)
@[simp] theorem ioWriteWord_cfg (port : Word) (v : Word) : (ioWriteWord port v s).cfg = s.cfg := congrArg System.cfg (ioWriteWord_system s port v)
@[simp] theorem ioWriteWord_life (port : Word) (v : Word) : (ioWriteWord port v s).life = s.life := congrArg System.life (ioWriteWord_system s port v)
@[simp] theorem ioWriteWord_halted (port : Word) (v : Word) : (ioWriteWord port v s).halted = s.halted := congrArg System.halted (ioWriteWord_system s port v)
@[simp] theorem ioWriteWord_pins (port : Word) (v : Word) : (ioWriteWord port v s).pins = s.pins := congrArg System.pins (ioWriteWord_system s port v)
@[simp] theorem ioWriteWord_inhibit (port : Word) (v : Word) : (ioWriteWord port v s).inhibit = s.inhibit := congrArg System.inhibit (ioWriteWord_system s port v)
@[simp] theorem ioWriteWord_nmiLatch (port : Word) (v : Word) : (ioWriteWord port v s).nmiLatch = s.nmiLatch := congrArg System.nmiLatch (ioWriteWord_system s port v)
@[simp] theorem ioWriteWord_lock (port : Word) (v : Word) : (ioWriteWord port v s).lock = s.lock := congrArg System.lock (ioWriteWord_system s port v)

@[simp] theorem storeData_gpr (a : BitVec 20) (v : Byte) : (s.storeData a v).gpr = s.gpr := by
  unfold State.storeData; split <;> rfl
@[simp] theorem storeData_ip (a : BitVec 20) (v : Byte) : (s.storeData a v).ip = s.ip := by
  unfold State.storeData; split <;> rfl
@[simp] theorem storeData_flags (a : BitVec 20) (v : Byte) : (s.storeData a v).flags = s.flags := by
  unfold State.storeData; split <;> rfl
@[simp] theorem storeData_lastEa (a : BitVec 20) (v : Byte) : (s.storeData a v).lastEa = s.lastEa := by
  unfold State.storeData; split <;> rfl
@[simp] theorem storeData_eaOpr (a : BitVec 20) (v : Byte) : (s.storeData a v).eaOpr = s.eaOpr := by
  unfold State.storeData; split <;> rfl
@[simp] theorem storeData_nextIsFirst (a : BitVec 20) (v : Byte) : (s.storeData a v).nextIsFirst = s.nextIsFirst := by
  unfold State.storeData; split <;> rfl
@[simp] theorem storeData_stale (a : BitVec 20) (v : Byte) : (s.storeData a v).stale = s.stale := by
  unfold State.storeData; split <;> rfl
@[simp] theorem storeData_system (a : BitVec 20) (v : Byte) : (s.storeData a v).system = s.system := by
  unfold State.storeData; split <;> rfl
@[simp] theorem storeData_pc (a : BitVec 20) (v : Byte) : (s.storeData a v).pc = s.pc := by
  unfold State.storeData; split <;> rfl
@[simp] theorem storeData_queue (a : BitVec 20) (v : Byte) : (s.storeData a v).queue = s.queue := by
  unfold State.storeData; split <;> rfl
@[simp] theorem storeData_biu (a : BitVec 20) (v : Byte) : (s.storeData a v).biu = s.biu := by
  unfold State.storeData; split <;> rfl
@[simp] theorem storeData_bus (a : BitVec 20) (v : Byte) : (s.storeData a v).bus = s.bus := by
  unfold State.storeData; split <;> rfl
@[simp] theorem storeData_fills (a : BitVec 20) (v : Byte) : (s.storeData a v).fills = s.fills := by
  unfold State.storeData; split <;> rfl
@[simp] theorem storeData_devIn (a : BitVec 20) (v : Byte) : (s.storeData a v).devIn = s.devIn := by
  unfold State.storeData; split <;> rfl
@[simp] theorem storeData_draws (a : BitVec 20) (v : Byte) : (s.storeData a v).draws = s.draws := by
  unfold State.storeData; split <;> rfl
@[simp] theorem storeData_demands (a : BitVec 20) (v : Byte) : (s.storeData a v).demands = s.demands := by
  unfold State.storeData; split <;> rfl
@[simp] theorem storeData_steps (a : BitVec 20) (v : Byte) : (s.storeData a v).steps = s.steps := congrArg System.steps (storeData_system s a v)
@[simp] theorem storeData_seg (a : BitVec 20) (v : Byte) : (s.storeData a v).seg = s.seg := congrArg System.seg (storeData_system s a v)
@[simp] theorem storeData_dec (a : BitVec 20) (v : Byte) : (s.storeData a v).dec = s.dec := congrArg System.dec (storeData_system s a v)
@[simp] theorem storeData_cfg (a : BitVec 20) (v : Byte) : (s.storeData a v).cfg = s.cfg := congrArg System.cfg (storeData_system s a v)
@[simp] theorem storeData_life (a : BitVec 20) (v : Byte) : (s.storeData a v).life = s.life := congrArg System.life (storeData_system s a v)
@[simp] theorem storeData_halted (a : BitVec 20) (v : Byte) : (s.storeData a v).halted = s.halted := congrArg System.halted (storeData_system s a v)
@[simp] theorem storeData_pins (a : BitVec 20) (v : Byte) : (s.storeData a v).pins = s.pins := congrArg System.pins (storeData_system s a v)
@[simp] theorem storeData_inhibit (a : BitVec 20) (v : Byte) : (s.storeData a v).inhibit = s.inhibit := congrArg System.inhibit (storeData_system s a v)
@[simp] theorem storeData_nmiLatch (a : BitVec 20) (v : Byte) : (s.storeData a v).nmiLatch = s.nmiLatch := congrArg System.nmiLatch (storeData_system s a v)
@[simp] theorem storeData_lock (a : BitVec 20) (v : Byte) : (s.storeData a v).lock = s.lock := congrArg System.lock (storeData_system s a v)

@[simp] theorem storeAfter_gpr (old : Bool) (a : BitVec 20) (v : Byte) : (s.storeAfter old a v).gpr = s.gpr := by
  cases old <;> simp [State.storeAfter]
@[simp] theorem storeAfter_ip (old : Bool) (a : BitVec 20) (v : Byte) : (s.storeAfter old a v).ip = s.ip := by
  cases old <;> simp [State.storeAfter]
@[simp] theorem storeAfter_flags (old : Bool) (a : BitVec 20) (v : Byte) : (s.storeAfter old a v).flags = s.flags := by
  cases old <;> simp [State.storeAfter]
@[simp] theorem storeAfter_lastEa (old : Bool) (a : BitVec 20) (v : Byte) : (s.storeAfter old a v).lastEa = s.lastEa := by
  cases old <;> simp [State.storeAfter]
@[simp] theorem storeAfter_eaOpr (old : Bool) (a : BitVec 20) (v : Byte) : (s.storeAfter old a v).eaOpr = s.eaOpr := by
  cases old <;> simp [State.storeAfter]
@[simp] theorem storeAfter_nextIsFirst (old : Bool) (a : BitVec 20) (v : Byte) : (s.storeAfter old a v).nextIsFirst = s.nextIsFirst := by
  cases old <;> simp [State.storeAfter]
@[simp] theorem storeAfter_stale (old : Bool) (a : BitVec 20) (v : Byte) : (s.storeAfter old a v).stale = s.stale := by
  cases old <;> simp [State.storeAfter]
@[simp] theorem storeAfter_system (old : Bool) (a : BitVec 20) (v : Byte) : (s.storeAfter old a v).system = s.system := by
  cases old <;> simp [State.storeAfter]
@[simp] theorem storeAfter_devIn (old : Bool) (a : BitVec 20) (v : Byte) : (s.storeAfter old a v).devIn = s.devIn := by
  cases old <;> simp [State.storeAfter]
@[simp] theorem storeAfter_demands (old : Bool) (a : BitVec 20) (v : Byte) : (s.storeAfter old a v).demands = s.demands := by
  cases old <;> simp [State.storeAfter]
@[simp] theorem storeAfter_steps (old : Bool) (a : BitVec 20) (v : Byte) : (s.storeAfter old a v).steps = s.steps := congrArg System.steps (storeAfter_system s old a v)
@[simp] theorem storeAfter_seg (old : Bool) (a : BitVec 20) (v : Byte) : (s.storeAfter old a v).seg = s.seg := congrArg System.seg (storeAfter_system s old a v)
@[simp] theorem storeAfter_dec (old : Bool) (a : BitVec 20) (v : Byte) : (s.storeAfter old a v).dec = s.dec := congrArg System.dec (storeAfter_system s old a v)
@[simp] theorem storeAfter_cfg (old : Bool) (a : BitVec 20) (v : Byte) : (s.storeAfter old a v).cfg = s.cfg := congrArg System.cfg (storeAfter_system s old a v)
@[simp] theorem storeAfter_life (old : Bool) (a : BitVec 20) (v : Byte) : (s.storeAfter old a v).life = s.life := congrArg System.life (storeAfter_system s old a v)
@[simp] theorem storeAfter_halted (old : Bool) (a : BitVec 20) (v : Byte) : (s.storeAfter old a v).halted = s.halted := congrArg System.halted (storeAfter_system s old a v)
@[simp] theorem storeAfter_pins (old : Bool) (a : BitVec 20) (v : Byte) : (s.storeAfter old a v).pins = s.pins := congrArg System.pins (storeAfter_system s old a v)
@[simp] theorem storeAfter_inhibit (old : Bool) (a : BitVec 20) (v : Byte) : (s.storeAfter old a v).inhibit = s.inhibit := congrArg System.inhibit (storeAfter_system s old a v)
@[simp] theorem storeAfter_nmiLatch (old : Bool) (a : BitVec 20) (v : Byte) : (s.storeAfter old a v).nmiLatch = s.nmiLatch := congrArg System.nmiLatch (storeAfter_system s old a v)
@[simp] theorem storeAfter_lock (old : Bool) (a : BitVec 20) (v : Byte) : (s.storeAfter old a v).lock = s.lock := congrArg System.lock (storeAfter_system s old a v)

@[simp] theorem storePair_gpr (a b : BitVec 20) (v w : Byte) : (s.storePair a b v w).gpr = s.gpr := by
  unfold State.storePair; dsimp only; split <;> simp
@[simp] theorem storePair_ip (a b : BitVec 20) (v w : Byte) : (s.storePair a b v w).ip = s.ip := by
  unfold State.storePair; dsimp only; split <;> simp
@[simp] theorem storePair_flags (a b : BitVec 20) (v w : Byte) : (s.storePair a b v w).flags = s.flags := by
  unfold State.storePair; dsimp only; split <;> simp
@[simp] theorem storePair_lastEa (a b : BitVec 20) (v w : Byte) : (s.storePair a b v w).lastEa = s.lastEa := by
  unfold State.storePair; dsimp only; split <;> simp
@[simp] theorem storePair_eaOpr (a b : BitVec 20) (v w : Byte) : (s.storePair a b v w).eaOpr = s.eaOpr := by
  unfold State.storePair; dsimp only; split <;> simp
@[simp] theorem storePair_nextIsFirst (a b : BitVec 20) (v w : Byte) : (s.storePair a b v w).nextIsFirst = s.nextIsFirst := by
  unfold State.storePair; dsimp only; split <;> simp
@[simp] theorem storePair_stale (a b : BitVec 20) (v w : Byte) : (s.storePair a b v w).stale = s.stale := by
  unfold State.storePair; dsimp only; split <;> simp
@[simp] theorem storePair_system (a b : BitVec 20) (v w : Byte) : (s.storePair a b v w).system = s.system := by
  unfold State.storePair; dsimp only; split <;> simp
@[simp] theorem storePair_devIn (a b : BitVec 20) (v w : Byte) : (s.storePair a b v w).devIn = s.devIn := by
  unfold State.storePair; dsimp only; split <;> simp
@[simp] theorem storePair_demands (a b : BitVec 20) (v w : Byte) : (s.storePair a b v w).demands = s.demands := by
  unfold State.storePair; dsimp only; split <;> simp
@[simp] theorem storePair_steps (a b : BitVec 20) (v w : Byte) : (s.storePair a b v w).steps = s.steps := congrArg System.steps (storePair_system s a b v w)
@[simp] theorem storePair_seg (a b : BitVec 20) (v w : Byte) : (s.storePair a b v w).seg = s.seg := congrArg System.seg (storePair_system s a b v w)
@[simp] theorem storePair_dec (a b : BitVec 20) (v w : Byte) : (s.storePair a b v w).dec = s.dec := congrArg System.dec (storePair_system s a b v w)
@[simp] theorem storePair_cfg (a b : BitVec 20) (v w : Byte) : (s.storePair a b v w).cfg = s.cfg := congrArg System.cfg (storePair_system s a b v w)
@[simp] theorem storePair_life (a b : BitVec 20) (v w : Byte) : (s.storePair a b v w).life = s.life := congrArg System.life (storePair_system s a b v w)
@[simp] theorem storePair_halted (a b : BitVec 20) (v w : Byte) : (s.storePair a b v w).halted = s.halted := congrArg System.halted (storePair_system s a b v w)
@[simp] theorem storePair_pins (a b : BitVec 20) (v w : Byte) : (s.storePair a b v w).pins = s.pins := congrArg System.pins (storePair_system s a b v w)
@[simp] theorem storePair_inhibit (a b : BitVec 20) (v w : Byte) : (s.storePair a b v w).inhibit = s.inhibit := congrArg System.inhibit (storePair_system s a b v w)
@[simp] theorem storePair_nmiLatch (a b : BitVec 20) (v w : Byte) : (s.storePair a b v w).nmiLatch = s.nmiLatch := congrArg System.nmiLatch (storePair_system s a b v w)
@[simp] theorem storePair_lock (a b : BitVec 20) (v w : Byte) : (s.storePair a b v w).lock = s.lock := congrArg System.lock (storePair_system s a b v w)

@[simp] theorem writeByte_gpr (acc : Access) (sv off : Word) (v : Byte) : (writeByte acc sv off v s).gpr = s.gpr := by
  simp [writeByte]
@[simp] theorem writeByte_ip (acc : Access) (sv off : Word) (v : Byte) : (writeByte acc sv off v s).ip = s.ip := by
  simp [writeByte]
@[simp] theorem writeByte_flags (acc : Access) (sv off : Word) (v : Byte) : (writeByte acc sv off v s).flags = s.flags := by
  simp [writeByte]
@[simp] theorem writeByte_lastEa (acc : Access) (sv off : Word) (v : Byte) : (writeByte acc sv off v s).lastEa = s.lastEa := by
  simp [writeByte]
@[simp] theorem writeByte_eaOpr (acc : Access) (sv off : Word) (v : Byte) : (writeByte acc sv off v s).eaOpr = s.eaOpr := by
  simp [writeByte]
@[simp] theorem writeByte_nextIsFirst (acc : Access) (sv off : Word) (v : Byte) : (writeByte acc sv off v s).nextIsFirst = s.nextIsFirst := by
  simp [writeByte]
@[simp] theorem writeByte_stale (acc : Access) (sv off : Word) (v : Byte) : (writeByte acc sv off v s).stale = s.stale := by
  simp [writeByte]
@[simp] theorem writeByte_system (acc : Access) (sv off : Word) (v : Byte) : (writeByte acc sv off v s).system = s.system := by
  simp [writeByte]
@[simp] theorem writeByte_devIn (acc : Access) (sv off : Word) (v : Byte) : (writeByte acc sv off v s).devIn = s.devIn := by
  simp [writeByte]
@[simp] theorem writeByte_steps (acc : Access) (sv off : Word) (v : Byte) : (writeByte acc sv off v s).steps = s.steps := congrArg System.steps (writeByte_system s acc sv off v)
@[simp] theorem writeByte_seg (acc : Access) (sv off : Word) (v : Byte) : (writeByte acc sv off v s).seg = s.seg := congrArg System.seg (writeByte_system s acc sv off v)
@[simp] theorem writeByte_dec (acc : Access) (sv off : Word) (v : Byte) : (writeByte acc sv off v s).dec = s.dec := congrArg System.dec (writeByte_system s acc sv off v)
@[simp] theorem writeByte_cfg (acc : Access) (sv off : Word) (v : Byte) : (writeByte acc sv off v s).cfg = s.cfg := congrArg System.cfg (writeByte_system s acc sv off v)
@[simp] theorem writeByte_life (acc : Access) (sv off : Word) (v : Byte) : (writeByte acc sv off v s).life = s.life := congrArg System.life (writeByte_system s acc sv off v)
@[simp] theorem writeByte_halted (acc : Access) (sv off : Word) (v : Byte) : (writeByte acc sv off v s).halted = s.halted := congrArg System.halted (writeByte_system s acc sv off v)
@[simp] theorem writeByte_pins (acc : Access) (sv off : Word) (v : Byte) : (writeByte acc sv off v s).pins = s.pins := congrArg System.pins (writeByte_system s acc sv off v)
@[simp] theorem writeByte_inhibit (acc : Access) (sv off : Word) (v : Byte) : (writeByte acc sv off v s).inhibit = s.inhibit := congrArg System.inhibit (writeByte_system s acc sv off v)
@[simp] theorem writeByte_nmiLatch (acc : Access) (sv off : Word) (v : Byte) : (writeByte acc sv off v s).nmiLatch = s.nmiLatch := congrArg System.nmiLatch (writeByte_system s acc sv off v)
@[simp] theorem writeByte_lock (acc : Access) (sv off : Word) (v : Byte) : (writeByte acc sv off v s).lock = s.lock := congrArg System.lock (writeByte_system s acc sv off v)

@[simp] theorem writeWord_gpr (acc : Access) (sv off v : Word) : (writeWord acc sv off v s).gpr = s.gpr := by
  unfold writeWord; split <;> simp
@[simp] theorem writeWord_ip (acc : Access) (sv off v : Word) : (writeWord acc sv off v s).ip = s.ip := by
  unfold writeWord; split <;> simp
@[simp] theorem writeWord_flags (acc : Access) (sv off v : Word) : (writeWord acc sv off v s).flags = s.flags := by
  unfold writeWord; split <;> simp
@[simp] theorem writeWord_lastEa (acc : Access) (sv off v : Word) : (writeWord acc sv off v s).lastEa = s.lastEa := by
  unfold writeWord; split <;> simp
@[simp] theorem writeWord_eaOpr (acc : Access) (sv off v : Word) : (writeWord acc sv off v s).eaOpr = s.eaOpr := by
  unfold writeWord; split <;> simp
@[simp] theorem writeWord_nextIsFirst (acc : Access) (sv off v : Word) : (writeWord acc sv off v s).nextIsFirst = s.nextIsFirst := by
  unfold writeWord; split <;> simp
@[simp] theorem writeWord_stale (acc : Access) (sv off v : Word) : (writeWord acc sv off v s).stale = s.stale := by
  unfold writeWord; split <;> simp
@[simp] theorem writeWord_system (acc : Access) (sv off v : Word) : (writeWord acc sv off v s).system = s.system := by
  unfold writeWord; split <;> simp
@[simp] theorem writeWord_devIn (acc : Access) (sv off v : Word) : (writeWord acc sv off v s).devIn = s.devIn := by
  unfold writeWord; split <;> simp
@[simp] theorem writeWord_steps (acc : Access) (sv off v : Word) : (writeWord acc sv off v s).steps = s.steps := congrArg System.steps (writeWord_system s acc sv off v)
@[simp] theorem writeWord_seg (acc : Access) (sv off v : Word) : (writeWord acc sv off v s).seg = s.seg := congrArg System.seg (writeWord_system s acc sv off v)
@[simp] theorem writeWord_dec (acc : Access) (sv off v : Word) : (writeWord acc sv off v s).dec = s.dec := congrArg System.dec (writeWord_system s acc sv off v)
@[simp] theorem writeWord_cfg (acc : Access) (sv off v : Word) : (writeWord acc sv off v s).cfg = s.cfg := congrArg System.cfg (writeWord_system s acc sv off v)
@[simp] theorem writeWord_life (acc : Access) (sv off v : Word) : (writeWord acc sv off v s).life = s.life := congrArg System.life (writeWord_system s acc sv off v)
@[simp] theorem writeWord_halted (acc : Access) (sv off v : Word) : (writeWord acc sv off v s).halted = s.halted := congrArg System.halted (writeWord_system s acc sv off v)
@[simp] theorem writeWord_pins (acc : Access) (sv off v : Word) : (writeWord acc sv off v s).pins = s.pins := congrArg System.pins (writeWord_system s acc sv off v)
@[simp] theorem writeWord_inhibit (acc : Access) (sv off v : Word) : (writeWord acc sv off v s).inhibit = s.inhibit := congrArg System.inhibit (writeWord_system s acc sv off v)
@[simp] theorem writeWord_nmiLatch (acc : Access) (sv off v : Word) : (writeWord acc sv off v s).nmiLatch = s.nmiLatch := congrArg System.nmiLatch (writeWord_system s acc sv off v)
@[simp] theorem writeWord_lock (acc : Access) (sv off v : Word) : (writeWord acc sv off v s).lock = s.lock := congrArg System.lock (writeWord_system s acc sv off v)

@[simp] theorem push16_ip (v : Word) : (push16 v s).ip = s.ip := by
  simp [push16]
@[simp] theorem push16_flags (v : Word) : (push16 v s).flags = s.flags := by
  simp [push16]
@[simp] theorem push16_lastEa (v : Word) : (push16 v s).lastEa = s.lastEa := by
  simp [push16]
@[simp] theorem push16_eaOpr (v : Word) : (push16 v s).eaOpr = s.eaOpr := by
  simp [push16]
@[simp] theorem push16_nextIsFirst (v : Word) : (push16 v s).nextIsFirst = s.nextIsFirst := by
  simp [push16]
@[simp] theorem push16_stale (v : Word) : (push16 v s).stale = s.stale := by
  simp [push16]
@[simp] theorem push16_system (v : Word) : (push16 v s).system = s.system := by
  simp [push16]
@[simp] theorem push16_devIn (v : Word) : (push16 v s).devIn = s.devIn := by
  simp [push16]
@[simp] theorem push16_steps (v : Word) : (push16 v s).steps = s.steps := congrArg System.steps (push16_system s v)
@[simp] theorem push16_seg (v : Word) : (push16 v s).seg = s.seg := congrArg System.seg (push16_system s v)
@[simp] theorem push16_dec (v : Word) : (push16 v s).dec = s.dec := congrArg System.dec (push16_system s v)
@[simp] theorem push16_cfg (v : Word) : (push16 v s).cfg = s.cfg := congrArg System.cfg (push16_system s v)
@[simp] theorem push16_life (v : Word) : (push16 v s).life = s.life := congrArg System.life (push16_system s v)
@[simp] theorem push16_halted (v : Word) : (push16 v s).halted = s.halted := congrArg System.halted (push16_system s v)
@[simp] theorem push16_pins (v : Word) : (push16 v s).pins = s.pins := congrArg System.pins (push16_system s v)
@[simp] theorem push16_inhibit (v : Word) : (push16 v s).inhibit = s.inhibit := congrArg System.inhibit (push16_system s v)
@[simp] theorem push16_nmiLatch (v : Word) : (push16 v s).nmiLatch = s.nmiLatch := congrArg System.nmiLatch (push16_system s v)
@[simp] theorem push16_lock (v : Word) : (push16 v s).lock = s.lock := congrArg System.lock (push16_system s v)

@[simp] theorem pop16_ip : ((pop16 s).2).ip = s.ip := by
  simp [pop16]
@[simp] theorem pop16_flags : ((pop16 s).2).flags = s.flags := by
  simp [pop16]
@[simp] theorem pop16_lastEa : ((pop16 s).2).lastEa = s.lastEa := by
  simp [pop16]
@[simp] theorem pop16_eaOpr : ((pop16 s).2).eaOpr = s.eaOpr := by
  simp [pop16]
@[simp] theorem pop16_nextIsFirst : ((pop16 s).2).nextIsFirst = s.nextIsFirst := by
  simp [pop16]
@[simp] theorem pop16_stale : ((pop16 s).2).stale = s.stale := by
  simp [pop16]
@[simp] theorem pop16_system : ((pop16 s).2).system = s.system := by
  simp [pop16]
@[simp] theorem pop16_mem : ((pop16 s).2).mem = s.mem := by
  simp [pop16]
@[simp] theorem pop16_steps : ((pop16 s).2).steps = s.steps := congrArg System.steps (pop16_system s)
@[simp] theorem pop16_seg : ((pop16 s).2).seg = s.seg := congrArg System.seg (pop16_system s)
@[simp] theorem pop16_dec : ((pop16 s).2).dec = s.dec := congrArg System.dec (pop16_system s)
@[simp] theorem pop16_cfg : ((pop16 s).2).cfg = s.cfg := congrArg System.cfg (pop16_system s)
@[simp] theorem pop16_life : ((pop16 s).2).life = s.life := congrArg System.life (pop16_system s)
@[simp] theorem pop16_halted : ((pop16 s).2).halted = s.halted := congrArg System.halted (pop16_system s)
@[simp] theorem pop16_pins : ((pop16 s).2).pins = s.pins := congrArg System.pins (pop16_system s)
@[simp] theorem pop16_inhibit : ((pop16 s).2).inhibit = s.inhibit := congrArg System.inhibit (pop16_system s)
@[simp] theorem pop16_nmiLatch : ((pop16 s).2).nmiLatch = s.nmiLatch := congrArg System.nmiLatch (pop16_system s)
@[simp] theorem pop16_lock : ((pop16 s).2).lock = s.lock := congrArg System.lock (pop16_system s)

@[simp] theorem flush_gpr : (s.flush).gpr = s.gpr := rfl
@[simp] theorem flush_ip : (s.flush).ip = s.ip := rfl
@[simp] theorem flush_flags : (s.flush).flags = s.flags := rfl
@[simp] theorem flush_lastEa : (s.flush).lastEa = s.lastEa := rfl
@[simp] theorem flush_eaOpr : (s.flush).eaOpr = s.eaOpr := rfl
@[simp] theorem flush_system : (s.flush).system = s.system := by
  simp [State.flush]; rfl
@[simp] theorem flush_mem : (s.flush).mem = s.mem := rfl
@[simp] theorem flush_bus : (s.flush).bus = s.bus := rfl
@[simp] theorem flush_devIn : (s.flush).devIn = s.devIn := rfl
@[simp] theorem flush_fills : (s.flush).fills = s.fills := rfl
@[simp] theorem flush_draws : (s.flush).draws = s.draws := rfl
@[simp] theorem flush_steps : (s.flush).steps = s.steps := congrArg System.steps (flush_system s)
@[simp] theorem flush_seg : (s.flush).seg = s.seg := congrArg System.seg (flush_system s)
@[simp] theorem flush_dec : (s.flush).dec = s.dec := congrArg System.dec (flush_system s)
@[simp] theorem flush_cfg : (s.flush).cfg = s.cfg := congrArg System.cfg (flush_system s)
@[simp] theorem flush_life : (s.flush).life = s.life := congrArg System.life (flush_system s)
@[simp] theorem flush_halted : (s.flush).halted = s.halted := congrArg System.halted (flush_system s)
@[simp] theorem flush_pins : (s.flush).pins = s.pins := congrArg System.pins (flush_system s)
@[simp] theorem flush_inhibit : (s.flush).inhibit = s.inhibit := congrArg System.inhibit (flush_system s)
@[simp] theorem flush_nmiLatch : (s.flush).nmiLatch = s.nmiLatch := congrArg System.nmiLatch (flush_system s)
@[simp] theorem flush_lock : (s.flush).lock = s.lock := congrArg System.lock (flush_system s)

/-! ### Bytes of memory -/

theorem byteAt_of_mem {s t : State} (h : t.mem = s.mem) (a : BitVec 20) : t.byteAt a = s.byteAt a := by
  simp [State.byteAt, h]

theorem kindAt_of_cfg {s t : State} (h : t.cfg = s.cfg) (a : BitVec 20) : t.kindAt a = s.kindAt a := by
  simp [State.kindAt, h]

/-- A store to RAM is read back; a store anywhere leaves every other byte alone (20_memory.md R76, R77, R79). -/
theorem storeData_byteAt_ne (a b : BitVec 20) (v : Byte) (h : b ≠ a) : (s.storeData a v).byteAt b = s.byteAt b := by
  have hn : b.toNat ≠ a.toNat := fun e => h (BitVec.eq_of_toNat_eq e)
  unfold State.storeData
  split
  · exact memRead_memWrite_ne s.mem a.toNat b.toNat v hn
  · rfl
  · rfl
  · rfl

theorem storeData_byteAt_same (a : BitVec 20) (v : Byte) (hw : Memory.wf s.mem = true) (h : s.isRam a) :
    (s.storeData a v).byteAt a = v := by
  unfold State.storeData
  rw [show s.kindAt a = .ram from h]
  exact memRead_memWrite_same hw a.toNat v

theorem storeData_wf (a : BitVec 20) (v : Byte) (hw : Memory.wf s.mem = true) : Memory.wf (s.storeData a v).mem = true := by
  unfold State.storeData
  split
  · exact memWrite_wf hw a.toNat v
  · exact hw
  · exact hw
  · exact hw

theorem storeData_small (a : BitVec 20) (v : Byte) (hs : ∀ c ∈ s.mem, c.1 < 2 ^ 20) :
    ∀ c ∈ (s.storeData a v).mem, c.1 < 2 ^ 20 := by
  unfold State.storeData
  split
  · intro c hc
    rcases memWrite_mem hc with h | h
    · exact hs c h
    · rw [h]; exact a.isLt
  · exact hs
  · exact hs
  · exact hs

/-- What comes before a store changes neither memory nor the map. -/
theorem storeAfter_before (old : Bool) (a : BitVec 20) : ∀ u, u = (if old then s.fetchUpTo a else s) → u.mem = s.mem ∧ u.cfg = s.cfg := by
  intro u hu
  cases old <;> subst hu <;> simp

theorem storeAfter_byteAt_ne (old : Bool) (a b : BitVec 20) (v : Byte) (h : b ≠ a) :
    (s.storeAfter old a v).byteAt b = s.byteAt b :=
  (storeData_byteAt_ne _ a b v h).trans (byteAt_of_mem (storeAfter_before s old a _ rfl).1 b)

theorem storeAfter_byteAt_same (old : Bool) (a : BitVec 20) (v : Byte) (hw : Memory.wf s.mem = true) (h : s.isRam a) :
    (s.storeAfter old a v).byteAt a = v :=
  storeData_byteAt_same _ a v (by rw [(storeAfter_before s old a _ rfl).1]; exact hw)
    ((kindAt_of_cfg (storeAfter_before s old a _ rfl).2 a).trans h)

theorem storeAfter_wf (old : Bool) (a : BitVec 20) (v : Byte) (hw : Memory.wf s.mem = true) :
    Memory.wf (s.storeAfter old a v).mem = true :=
  storeData_wf _ a v (by rw [(storeAfter_before s old a _ rfl).1]; exact hw)

theorem storeAfter_small (old : Bool) (a : BitVec 20) (v : Byte) (hs : ∀ c ∈ s.mem, c.1 < 2 ^ 20) :
    ∀ c ∈ (s.storeAfter old a v).mem, c.1 < 2 ^ 20 :=
  storeData_small _ a v (by rw [(storeAfter_before s old a _ rfl).1]; exact hs)

/-- The two stores of `storePair`, in one order or the other, from a state with the same memory and map. -/
theorem storePair_cases (a b : BitVec 20) (v w : Byte) : ∃ u : State, u.mem = s.mem ∧ u.cfg = s.cfg ∧
    ((∃ o p, s.storePair a b v w = (u.storeAfter o b w).storeAfter p a v) ∨
      (∃ o p, s.storePair a b v w = (u.storeAfter o a v).storeAfter p b w)) := by
  refine ⟨(State.drawOld b (State.drawOld a s).2).2, by simp, by simp, ?_⟩
  unfold State.storePair
  dsimp only
  split
  · exact .inl ⟨_, _, rfl⟩
  · exact .inr ⟨_, _, rfl⟩

theorem storePair_byteAt_ne (a b c : BitVec 20) (v w : Byte) (ha : c ≠ a) (hb : c ≠ b) :
    (s.storePair a b v w).byteAt c = s.byteAt c := by
  obtain ⟨u, hm, -, ⟨o, p, e⟩ | ⟨o, p, e⟩⟩ := storePair_cases s a b v w <;>
    rw [e, storeAfter_byteAt_ne _ _ _ _ _ (by assumption), storeAfter_byteAt_ne _ _ _ _ _ (by assumption), byteAt_of_mem hm]

theorem storePair_byteAt (a b : BitVec 20) (v w : Byte) (hab : a ≠ b) (hw : Memory.wf s.mem = true) :
    (s.isRam a → (s.storePair a b v w).byteAt a = v) ∧ (s.isRam b → (s.storePair a b v w).byteAt b = w) := by
  obtain ⟨u, hm, hc, h⟩ := storePair_cases s a b v w
  have hu : Memory.wf u.mem = true := by rw [hm]; exact hw
  have hr : ∀ x, s.isRam x → u.isRam x := fun x hx => (kindAt_of_cfg hc x).trans hx
  have hr1 : ∀ o x y z, s.isRam x → (u.storeAfter o y z).isRam x := fun o x y z hx =>
    (kindAt_of_cfg (by simp) x).trans (hr x hx)
  rcases h with ⟨o, p, e⟩ | ⟨o, p, e⟩ <;> rw [e]
  · refine ⟨fun h => storeAfter_byteAt_same _ _ _ _ (storeAfter_wf _ _ _ _ hu) (hr1 _ _ _ _ h), fun h => ?_⟩
    rw [storeAfter_byteAt_ne _ _ _ _ _ hab.symm, storeAfter_byteAt_same _ _ _ _ hu (hr b h)]
  · refine ⟨fun h => ?_, fun h => storeAfter_byteAt_same _ _ _ _ (storeAfter_wf _ _ _ _ hu) (hr1 _ _ _ _ h)⟩
    rw [storeAfter_byteAt_ne _ _ _ _ _ hab, storeAfter_byteAt_same _ _ _ _ hu (hr a h)]

theorem storePair_wf (a b : BitVec 20) (v w : Byte) (hw : Memory.wf s.mem = true) :
    Memory.wf (s.storePair a b v w).mem = true := by
  obtain ⟨u, hm, -, ⟨o, p, e⟩ | ⟨o, p, e⟩⟩ := storePair_cases s a b v w <;>
    exact e ▸ storeAfter_wf _ _ _ _ (storeAfter_wf _ _ _ _ (by rw [hm]; exact hw))

theorem storePair_small (a b : BitVec 20) (v w : Byte) (hs : ∀ c ∈ s.mem, c.1 < 2 ^ 20) :
    ∀ c ∈ (s.storePair a b v w).mem, c.1 < 2 ^ 20 := by
  obtain ⟨u, hm, -, ⟨o, p, e⟩ | ⟨o, p, e⟩⟩ := storePair_cases s a b v w <;>
    exact e ▸ storeAfter_small _ _ _ _ (storeAfter_small _ _ _ _ (by rw [hm]; exact hs))

/-- `MemWrite` of a byte: the byte at its address, and no other (20_memory.md R81). -/
theorem writeByte_byteAt_ne (acc : Access) (sv off : Word) (v : Byte) (b : BitVec 20) (h : b ≠ lin sv off) :
    (writeByte acc sv off v s).byteAt b = s.byteAt b :=
  (storeAfter_byteAt_ne _ _ _ _ v h).trans (byteAt_of_mem (by simp) b)

theorem writeByte_byteAt_same (acc : Access) (sv off : Word) (v : Byte) (hw : Memory.wf s.mem = true)
    (h : s.isRam (lin sv off)) : (writeByte acc sv off v s).byteAt (lin sv off) = v :=
  storeAfter_byteAt_same _ _ _ v (by simpa using hw) ((kindAt_of_cfg (by simp) _).trans h)

theorem writeByte_wf (acc : Access) (sv off : Word) (v : Byte) (hw : Memory.wf s.mem = true) :
    Memory.wf (writeByte acc sv off v s).mem = true :=
  storeAfter_wf _ _ _ v (by simpa using hw)

theorem writeByte_small (acc : Access) (sv off : Word) (v : Byte) (hs : ∀ c ∈ s.mem, c.1 < 2 ^ 20) :
    ∀ c ∈ (writeByte acc sv off v s).mem, c.1 < 2 ^ 20 :=
  storeAfter_small _ _ _ v (by simpa using hs)

/-- `MemWrite` of a word: the two bytes at its addresses, and no other (20_memory.md R81). -/
theorem writeWord_byteAt_ne (acc : Access) (sv off v : Word) (b : BitVec 20) (h : b ≠ lin sv off)
    (h1 : b ≠ lin sv (off + 1)) : (writeWord acc sv off v s).byteAt b = s.byteAt b := by
  unfold writeWord
  split
  · exact (storePair_byteAt_ne _ _ _ b _ _ h h1).trans (byteAt_of_mem (prefetch_mem s) b)
  · rw [writeByte_byteAt_ne _ _ _ _ _ b h1, writeByte_byteAt_ne _ _ _ _ _ b h]

theorem writeWord_byteAt_high (acc : Access) (sv off v : Word) (hw : Memory.wf s.mem = true)
    (h : s.isRam (lin sv (off + 1))) : (writeWord acc sv off v s).byteAt (lin sv (off + 1)) = hiByte v := by
  unfold writeWord
  split
  · exact (storePair_byteAt _ _ _ _ _ (lin_succ_ne sv off).symm (by simpa using hw)).2 ((kindAt_of_cfg (prefetch_cfg s) _).trans h)
  · exact writeByte_byteAt_same _ _ _ _ _ (writeByte_wf _ _ _ _ _ hw)
      ((kindAt_of_cfg (writeByte_cfg _ _ _ _ _) _).trans h)

theorem writeWord_byteAt_low (acc : Access) (sv off v : Word) (hw : Memory.wf s.mem = true)
    (h : s.isRam (lin sv off)) : (writeWord acc sv off v s).byteAt (lin sv off) = loByte v := by
  unfold writeWord
  split
  · exact (storePair_byteAt _ _ _ _ _ (lin_succ_ne sv off).symm (by simpa using hw)).1 ((kindAt_of_cfg (prefetch_cfg s) _).trans h)
  · rw [writeByte_byteAt_ne _ _ _ _ _ _ (lin_succ_ne sv off).symm]
    exact writeByte_byteAt_same _ _ _ _ _ hw h

theorem writeWord_wf (acc : Access) (sv off v : Word) (hw : Memory.wf s.mem = true) :
    Memory.wf (writeWord acc sv off v s).mem = true := by
  unfold writeWord
  split
  · exact storePair_wf _ _ _ _ _ (by simpa using hw)
  · exact writeByte_wf _ _ _ _ _ (writeByte_wf _ _ _ _ _ hw)

theorem writeWord_small (acc : Access) (sv off v : Word) (hs : ∀ c ∈ s.mem, c.1 < 2 ^ 20) :
    ∀ c ∈ (writeWord acc sv off v s).mem, c.1 < 2 ^ 20 := by
  unfold writeWord
  split
  · exact storePair_small _ _ _ _ _ (by simpa using hs)
  · exact writeByte_small _ _ _ _ _ (writeByte_small _ _ _ _ _ hs)

/-! ### What the bus shows beside code fetches (20_memory.md R88, R90) -/

theorem writeByte_demands (acc : Access) (sv off : Word) (v : Byte) :
    (writeByte acc sv off v s).demands = .memWrite acc (lin sv off) false (zext16 v) :: s.demands := by
  simp [writeByte, logBus_demands, BusEvent.isFetch]

/-- A word is written in one bus operation or in two (20_memory.md R82). -/
theorem writeWord_demands (acc : Access) (sv off v : Word) : (writeWord acc sv off v s).demands =
    if s.oneCycle (lin sv off) then .memWrite acc (lin sv off) true v :: s.demands
    else .memWrite acc (lin sv (off + 1)) false (zext16 (hiByte v)) ::
      .memWrite acc (lin sv off) false (zext16 (loByte v)) :: s.demands := by
  unfold writeWord
  split
  · simp [logBus_demands, BusEvent.isFetch]
  · rw [writeByte_demands, writeByte_demands]

/-! ### Values that reads return (20_memory.md R80) -/

theorem fetchData_ram (a : BitVec 20) (h : s.isRam a) : (s.fetchData a).1 = s.byteAt a := by
  unfold State.fetchData
  rw [show s.kindAt a = .ram from h]
  rfl

theorem readByte_ram (acc : Access) (sv off : Word) (h : s.isRam (lin sv off)) :
    (readByte acc sv off s).1 = s.byteAt (lin sv off) :=
  (fetchData_ram s.prefetch _ ((kindAt_of_cfg (prefetch_cfg s) _).trans h)).trans (byteAt_of_mem (prefetch_mem s) _)

theorem readWord_ram (acc : Access) (sv off : Word) (h : s.isRam (lin sv off)) (h1 : s.isRam (lin sv (off + 1))) :
    (readWord acc sv off s).1 = wordOf (s.byteAt (lin sv off)) (s.byteAt (lin sv (off + 1))) := by
  unfold readWord
  split
  · have e := fetchData_ram (s.prefetch.fetchData (lin sv off)).2 (lin sv (off + 1))
      ((kindAt_of_cfg (by simp) _).trans h1)
    rw [byteAt_of_mem (s := s) (by simp)] at e
    show wordOf (s.prefetch.fetchData (lin sv off)).1 _ = _
    rw [e]
    congr 1
    exact readByte_ram s acc sv off h
  · have e := readByte_ram (readByte acc sv off s).2 acc sv (off + 1)
      ((kindAt_of_cfg (readByte_cfg s acc sv off) _).trans h1)
    rw [byteAt_of_mem (readByte_mem s acc sv off)] at e
    show wordOf (readByte acc sv off s).1 _ = _
    rw [e, readByte_ram s acc sv off h]

/-! ### The invariant -/

/-- The one value of `ADDR_BITS`. -/
@[simp] theorem addrBits_bits (a : AddrBits) : a.bits = 20 := by cases a; rfl

/-- Memory lists addresses of the 20-bit space only. -/
theorem State.Inv.small {s : State} (h : s.Inv) : ∀ c ∈ s.mem, c.1 < 2 ^ 20 := by
  simpa using h.memSmall

/-- The invariant looks at seven fields only. -/
theorem State.Inv.congr {s t : State} (h : s.Inv) (hm : t.mem = s.mem) (hf : t.flags = s.flags) (hq : t.queue = s.queue)
    (hi : t.ip = s.ip) (hp : t.pc = s.pc) (hc : t.cfg = s.cfg) (hb : t.biu = s.biu) : t.Inv where
  memWf := by rw [hm]; exact h.memWf
  memSmall := by rw [hm, hc]; exact h.memSmall
  flags := by rw [hf]; exact h.flags
  queueFits := by
    have := h.queueFits
    simpa only [State.owed, State.busWidth, State.capacity, hq, hb, hc] using this
  pcAhead := by rw [hp, hi, hq]; exact h.pcAhead

/-- Memory and flags may change as long as they stay in form. -/
theorem State.Inv.ofParts {s t : State} (h : s.Inv) (hw : Memory.wf t.mem = true) (hs : ∀ c ∈ t.mem, c.1 < 2 ^ 20)
    (hf : flagsPinned t.flags = true) (hq : t.queue = s.queue) (hi : t.ip = s.ip) (hp : t.pc = s.pc) (hc : t.cfg = s.cfg)
    (hb : t.biu = s.biu) : t.Inv where
  memWf := hw
  memSmall := by simpa using hs
  flags := hf
  queueFits := by
    have := h.queueFits
    simpa only [State.owed, State.busWidth, State.capacity, hq, hb, hc] using this
  pcAhead := by rw [hp, hi, hq]; exact h.pcAhead

/-- The bus interface unit may change as long as no more bytes are on their way. -/
theorem setBiu_inv (h : s.Inv) (b : Biu) (hf : b.inFlight ≤ s.biu.inFlight) (hp : b.prep = .fetch → s.biu.prep = .fetch) :
    (s.setBiu b).Inv where
  memWf := h.memWf
  memSmall := h.memSmall
  flags := h.flags
  queueFits := by
    have hq : s.queue.length + (s.biu.inFlight + if s.biu.prep = .fetch then s.busWidth else 0) ≤ s.capacity := h.queueFits
    show s.queue.length + (b.inFlight + if b.prep = .fetch then s.busWidth else 0) ≤ s.capacity
    by_cases hb : b.prep = .fetch
    · rw [if_pos hb]
      rw [if_pos (hp hb)] at hq
      omega
    · rw [if_neg hb]
      omega
  pcAhead := h.pcAhead

theorem setFlags_inv (h : s.Inv) (f : Word) (hf : flagsPinned f = true) : (s.setFlags f).Inv :=
  h.ofParts h.memWf h.small hf rfl rfl rfl rfl rfl

theorem logBus_inv (h : s.Inv) (e : BusEvent) : (s.logBus e).Inv := h.congr rfl rfl rfl rfl rfl rfl rfl

theorem takeDevice_inv (h : s.Inv) : s.takeDevice.2.Inv :=
  h.congr (by simp) (by simp) (by simp) (by simp) (by simp) (by simp) (by simp)

theorem fetchData_inv (h : s.Inv) (a : BitVec 20) : (s.fetchData a).2.Inv :=
  h.congr (by simp) (by simp) (by simp) (by simp) (by simp) (by simp) (by simp)

theorem storeData_inv (h : s.Inv) (a : BitVec 20) (v : Byte) : (s.storeData a v).Inv :=
  h.ofParts (storeData_wf s a v h.memWf) (storeData_small s a v h.small) (by simpa using h.flags) (by simp) (by simp)
    (by simp) (by simp) (by simp)

/-! ### Code fetches keep the invariant -/

@[simp] theorem setFetchState_inFlight (b : Biu) (f : FetchState) : ({ b with fetchState := f } : Biu).inFlight = b.inFlight := rfl

@[simp] theorem setQueueRead_inFlight (b : Biu) (f : FetchState) (r : Bool) :
    ({ b with fetchState := f, queueRead := r } : Biu).inFlight = b.inFlight := rfl

theorem setFetch_inv (h : s.Inv) (f : FetchState) : (s.setFetch f).Inv := setBiu_inv s h _ (Nat.le_refl _) id

theorem bumpDraws_inv (h : s.Inv) : s.bumpDraws.Inv := h.congr rfl rfl rfl rfl rfl rfl rfl

theorem toIdle_inFlight (b : Biu) : b.toIdle.inFlight = 0 := by
  unfold Biu.inFlight Biu.toIdle
  split <;> simp

theorem dropAddressCycle_inFlight (b : Biu) : b.dropAddressCycle.inFlight ≤ b.inFlight := by
  unfold Biu.dropAddressCycle
  dsimp only
  split
  · rw [toIdle_inFlight]; exact Nat.zero_le _
  · exact Nat.le_refl _

theorem dropAddressCycle_prep (b : Biu) : b.dropAddressCycle.prep = .idle := by
  unfold Biu.dropAddressCycle
  dsimp only
  split <;> rfl

theorem dropPrepared_inFlight (b : Biu) : b.dropPrepared.inFlight ≤ b.inFlight := by
  unfold Biu.dropPrepared
  split
  · exact dropAddressCycle_inFlight b
  · exact Nat.le_refl _

theorem dropPrepared_prep (b : Biu) : b.dropPrepared.prep ≠ .fetch := by
  unfold Biu.dropPrepared
  split
  · rw [dropAddressCycle_prep]; decide
  · assumption

theorem dropPrepared_inv (h : s.Inv) : (s.setBiu s.biu.dropPrepared).Inv :=
  setBiu_inv s h _ (dropPrepared_inFlight _) fun e => absurd e (dropPrepared_prep _)

theorem busBytes_length (wide high : Bool) (w : Word) : (busBytes wide high w).length = if wide then 2 else 1 := by
  cases wide <;> rfl

/-- Bytes for which there is room go to the queue, and PC passes them (21_prefetch_queue.md R112). -/
theorem pushBytes_inv (h : s.Inv) (bs : List Byte) (hr : s.queue.length + s.owed + bs.length ≤ s.capacity) :
    (s.pushBytes bs).Inv := by
  refine setFetch_inv ((s.setQueue (s.queue ++ bs)).setPc (s.pc + BitVec.ofNat 16 bs.length))
    ⟨h.memWf, h.memSmall, h.flags, ?_, ?_⟩ _
  · show (s.queue ++ bs).length + s.owed ≤ s.capacity
    rw [List.length_append]
    omega
  · show s.pc + BitVec.ofNat 16 bs.length = s.ip + BitVec.ofNat 16 (s.queue ++ bs).length
    rw [List.length_append, h.pcAhead, BitVec.add_assoc, BitVec.ofNat_add]

/-- A fetch for which there is room beside the one in flight. -/
theorem fetchNow_inv (h : s.Inv) (wide : Bool) (hr : s.queue.length + s.biu.inFlight + (if wide then 2 else 1) ≤ s.capacity) :
    (s.fetchNow wide).Inv := by
  unfold State.fetchNow
  dsimp only
  refine pushBytes_inv _ (logBus_inv _ (setBiu_inv s h s.biu.dropPrepared.leaveInit (dropPrepared_inFlight _)
    fun e => absurd e (dropPrepared_prep _)) _) _ ?_
  have hd := dropPrepared_inFlight s.biu
  rw [busBytes_length]
  show s.queue.length + (s.biu.dropPrepared.inFlight + if s.biu.dropPrepared.prep = .fetch then s.busWidth else 0) + _ ≤ s.capacity
  rw [if_neg (dropPrepared_prep _)]
  omega

theorem busWidth_le : s.busWidth ≤ 2 := by
  unfold State.busWidth
  split <;> omega

theorem capacity_ge : 4 ≤ s.capacity := by
  unfold State.capacity
  split <;> omega

theorem fetchWide_le : (if s.fetchWide then 2 else 1) ≤ s.busWidth := by
  unfold State.fetchWide
  have : 1 ≤ s.busWidth := by unfold State.busWidth; split <;> omega
  split
  · next h =>
    simp only [Bool.and_eq_true, beq_iff_eq] at h
    omega
  · exact this

theorem fetchInT1_iff (b : Biu) : b.fetchInT1 = true ↔ b.tState = .t1 ∧ b.prep = .fetch := by
  simp [Biu.fetchInT1]

theorem roomFor_iff (n : Nat) : s.roomFor n = true ↔ s.queue.length + s.biu.inFlight + n ≤ s.capacity := by
  simp [State.roomFor]

theorem endFetch_inv (h : s.Inv) (c : BusCycle) (w : Word) (hc : s.biu.cycle = some c) (hb : s.biu.busState = .codeFetch) :
    (s.endFetch c w).Inv := by
  have h0 : s.biu.endFetch.inFlight = 0 := rfl
  have h1 : (s.setBiu s.biu.endFetch).Inv := setBiu_inv s h _ (Nat.zero_le _) id
  unfold State.endFetch
  dsimp only
  split
  · exact h1
  · next hd =>
    have hq : s.queue.length + (s.biu.inFlight + if s.biu.prep = .fetch then s.busWidth else 0) ≤ s.capacity := h.queueFits
    have hi : s.biu.inFlight = if c.wide then 2 else 1 := by
      unfold Biu.inFlight
      rw [hc]
      simp [hb, hd]
    refine pushBytes_inv _ h1 _ ?_
    rw [busBytes_length]
    show s.queue.length + (0 + if s.biu.prep = .fetch then s.busWidth else 0) + _ ≤ s.capacity
    omega

theorem completeCycle_inv (h : s.Inv) : s.completeCycle.Inv := by
  unfold State.completeCycle
  split
  · exact h
  · next c hc =>
    split
    · next hb =>
      split
      · exact endFetch_inv s h c _ hc hb
      · exact endFetch_inv _ (logBus_inv s h _) c _ hc hb
    · exact h

/-- After it no code fetch is in `T2` to `T4`. -/
theorem completeCycle_inFlight : s.completeCycle.biu.inFlight = 0 := by
  have he : ∀ (t : State) c w, (t.endFetch c w).biu.inFlight = 0 := by
    intro t c w
    unfold State.endFetch
    dsimp only
    split <;> rfl
  unfold State.completeCycle
  split
  · next hc => unfold Biu.inFlight; rw [hc]
  · next c hc =>
    split
    · split <;> exact he _ _ _
    · next hb => unfold Biu.inFlight; rw [hc]; simp [hb]

/-- The room for a prepared fetch has been kept (22_biu_tstate_engine.md R151). -/
theorem completeFetch_inv (h : s.Inv) : s.completeFetch.Inv := by
  have h1 := completeCycle_inv s h
  unfold State.completeFetch
  dsimp only
  split
  · next hp =>
    have hp : s.completeCycle.biu.prep = .fetch := (fetchInT1_iff _ |>.mp hp).2
    have hq : s.completeCycle.queue.length + (s.completeCycle.biu.inFlight +
        if s.completeCycle.biu.prep = .fetch then s.completeCycle.busWidth else 0) ≤ s.completeCycle.capacity := h1.queueFits
    have := fetchWide_le s.completeCycle
    rw [if_pos hp] at hq
    exact fetchNow_inv _ h1 _ (by omega)
  · exact h1

/-- After it no code fetch is on the bus. -/
theorem completeFetch_inFlight : s.completeFetch.biu.inFlight = 0 := by
  have h1 := completeCycle_inFlight s
  unfold State.completeFetch
  dsimp only
  split
  · have := dropPrepared_inFlight s.completeCycle.biu
    show s.completeCycle.biu.dropPrepared.inFlight = 0
    omega
  · exact h1

/-- Nor has the engine come to the `T1` of one. -/
theorem completeFetch_fetchInT1 : s.completeFetch.biu.fetchInT1 = false := by
  unfold State.completeFetch
  dsimp only
  split
  · exact Bool.eq_false_iff.mpr fun e => dropPrepared_prep s.completeCycle.biu (fetchInT1_iff _ |>.mp e).2
  · next hp => exact Bool.eq_false_iff.mpr hp

/-- Where no code fetch is in `T1` to `T4` there is none to complete. -/
theorem completeFetch_eq (hc : s.biu.cycle = none) (ht : s.biu.fetchInT1 = false) : s.completeFetch = s := by
  have e : s.completeCycle = s := by unfold State.completeCycle; rw [hc]
  unfold State.completeFetch
  dsimp only
  rw [e, ht]
  rfl

theorem fillOnce_inv (h : s.Inv) : s.fillOnce.Inv := by
  unfold State.fillOnce
  split
  · next hr =>
    have := (roomFor_iff s _).mp hr.2
    have := fetchWide_le s
    exact fetchNow_inv s h _ (by omega)
  · exact h

theorem fillMany_inv (h : s.Inv) (n : Nat) : (State.fillMany n s).Inv := by
  induction n generalizing s with
  | zero => exact h
  | succ n ih => exact ih s.fillOnce (fillOnce_inv s h)

theorem elapseDelay_inv (h : s.Inv) : s.elapseDelay.Inv := by
  unfold State.elapseDelay
  split
  · exact setFetch_inv _ (setFetch_inv s h _) _
  all_goals exact h

theorem fillBy_inv (h : s.Inv) (n : Nat) : (State.fillBy n s).Inv := by
  cases n with
  | zero => exact h
  | succ n => exact fillMany_inv _ (elapseDelay_inv _ (completeFetch_inv s h)) _

theorem prefetch_inv (h : s.Inv) : s.prefetch.Inv := by
  unfold State.prefetch
  split
  · exact h
  · refine fillBy_inv _ ?_ _
    exact h.congr rfl rfl rfl rfl rfl rfl rfl

/-! ### Reads and ports keep the invariant -/

theorem readByte_inv (h : s.Inv) (acc : Access) (sv off : Word) : (readByte acc sv off s).2.Inv :=
  logBus_inv _ (fetchData_inv _ (prefetch_inv s h) _) _

theorem readWord_inv (h : s.Inv) (acc : Access) (sv off : Word) : (readWord acc sv off s).2.Inv := by
  unfold readWord
  split
  · exact logBus_inv _ (fetchData_inv _ (fetchData_inv _ (prefetch_inv s h) _) _) _
  · exact readByte_inv _ (readByte_inv s h acc sv off) acc sv (off + 1)

theorem ioReadByte_inv (h : s.Inv) (port : Word) : (ioReadByte port s).2.Inv :=
  logBus_inv _ (takeDevice_inv _ (prefetch_inv s h)) _

theorem ioReadWord_inv (h : s.Inv) (port : Word) : (ioReadWord port s).2.Inv :=
  ioReadByte_inv _ (ioReadByte_inv s h port) (port + 1)

theorem ioWriteByte_inv (h : s.Inv) (port : Word) (v : Byte) : (ioWriteByte port v s).Inv :=
  logBus_inv _ (prefetch_inv s h) _

theorem ioWriteWord_inv (h : s.Inv) (port v : Word) : (ioWriteWord port v s).Inv :=
  ioWriteByte_inv _ (ioWriteByte_inv s h port (loByte v)) (port + 1) (hiByte v)

/-! ### The prefetcher and the store -/

theorem fetchAhead_inv (h : s.Inv) : s.fetchAhead.Inv := by
  unfold State.fetchAhead
  split
  · next hr =>
    have h1 := (roomFor_iff s _).mp hr.2
    refine fetchNow_inv s h _ ?_
    by_cases hb : s.roomFor s.busWidth = true
    · have := (roomFor_iff s _).mp hb
      have := fetchWide_le s
      rw [hb, Bool.and_true]
      omega
    · rw [Bool.not_eq_true] at hb
      rw [hb, Bool.and_false]
      exact h1
  · exact h

theorem fetchThrough_inv (h : s.Inv) (n k : Nat) : (State.fetchThrough n k s).Inv := by
  induction n generalizing s with
  | zero => exact h
  | succ n ih =>
    unfold State.fetchThrough
    split
    · exact h
    · exact ih _ (fetchAhead_inv s h)

theorem fetchUpTo_inv (h : s.Inv) (a : BitVec 20) : (s.fetchUpTo a).Inv := by
  unfold State.fetchUpTo
  split
  · exact fetchThrough_inv _ (elapseDelay_inv _ (completeFetch_inv s h)) _ _
  · exact h

theorem drawOld_inv (h : s.Inv) (a : BitVec 20) : (s.drawOld a).2.Inv := by
  unfold State.drawOld
  split
  · split
    · exact h
    · exact bumpDraws_inv s h
  · exact h

/-- The wait for a byte keeps the invariant, and ends with a byte in the queue. -/
theorem await_inv (h : s.Inv) : s.await.Inv ∧ s.await.queue ≠ [] := by
  have hc := completeFetch_inv s h
  unfold State.await
  split
  · next e => exact ⟨h, by rw [e]; simp⟩
  · dsimp only
    split
    · next e => exact ⟨hc, by rw [e]; simp⟩
    · next e =>
      have hpc : s.completeFetch.pc = s.completeFetch.ip := by rw [hc.pcAhead, e]; simp
      have h2 : ((s.completeFetch.setFetch s.completeFetch.biu.fetchState.resumed).setPc s.completeFetch.ip).Inv :=
        (setFetch_inv s.completeFetch hc s.completeFetch.biu.fetchState.resumed).congr rfl rfl rfl rfl hpc.symm rfl rfl
      have h0 : ((s.completeFetch.setFetch s.completeFetch.biu.fetchState.resumed).setPc s.completeFetch.ip).biu.inFlight = 0 :=
        completeFetch_inFlight s
      have hq : ((s.completeFetch.setFetch s.completeFetch.biu.fetchState.resumed).setPc s.completeFetch.ip).queue = [] := e
      generalize ((s.completeFetch.setFetch s.completeFetch.biu.fetchState.resumed).setPc s.completeFetch.ip) = u at *
      constructor
      · refine fetchNow_inv u h2 _ ?_
        have := fetchWide_le u
        have := busWidth_le u
        have := capacity_ge u
        rw [hq, h0]
        show 0 + 0 + _ ≤ _
        omega
      · show u.queue ++ busBytes _ _ _ ≠ []
        cases u.fetchWide <;> simp [busBytes, wordBytes]

/-- A pop takes one byte off a queue that has one (21_prefetch_queue.md R115). -/
theorem popByte_inv (h : s.Inv) (hq : s.queue ≠ []) : s.popByte.Inv := by
  refine setFetch_inv ((((s.setQueue s.queue.tail).setIp (s.ip + 1)).setNextIsFirst false).setBiu
    { s.biu with queueRead := false }) ⟨h.memWf, h.memSmall, h.flags, ?_, ?_⟩ _
  · have := h.queueFits
    show s.queue.tail.length + s.owed ≤ s.capacity
    rw [List.length_tail]
    omega
  · show s.pc = s.ip + 1 + BitVec.ofNat 16 s.queue.tail.length
    rw [h.pcAhead]
    cases e : s.queue with
    | nil => exact absurd e hq
    | cons b q =>
      rw [List.length_cons, List.tail_cons, BitVec.ofNat_add, BitVec.add_assoc]
      congr 1
      exact BitVec.add_comm _ _

/-- `QueueByte()`: the byte leaves the queue, and IP passes it (21_prefetch_queue.md R115). -/
theorem takeByte_inv (h : s.Inv) : (takeByte s).Inv :=
  popByte_inv s.await (await_inv s h).1 (await_inv s h).2

@[simp] theorem takeBytes_zero : takeBytes 0 s = s := rfl

theorem takeBytes_inv (h : s.Inv) (n : Nat) : (takeBytes n s).Inv := by
  induction n generalizing s with
  | zero => exact h
  | succ n ih => exact ih _ (takeByte_inv s h)

theorem setDec_inv (h : s.Inv) (d : DecodeState) : (s.setDec d).Inv := h.congr rfl rfl rfl rfl rfl rfl rfl

theorem consume_inv (h : s.Inv) (n : Nat) (i : Instr) : (consume n i s).Inv :=
  takeBytes_inv _ (setDec_inv s h _) _

/-- What taking the bytes of an instruction leaves alone, and what it leaves in IP (21_prefetch_queue.md R115, R116). -/
structure Taken (n : Nat) (s t : State) : Prop where
  gpr : t.gpr = s.gpr
  ip : t.ip = s.ip + BitVec.ofNat 16 n
  flags : t.flags = s.flags
  lastEa : t.lastEa = s.lastEa
  eaOpr : t.eaOpr = s.eaOpr
  stale : t.stale = s.stale
  system : t.system = s.system
  mem : t.mem = s.mem
  devIn : t.devIn = s.devIn
  bus : ∃ l, t.bus = l ++ s.bus ∧ ∀ e ∈ l, e.isFetch = true

/-- No read of the queue is left waiting by one that has its byte (21_prefetch_queue.md R116). -/
@[simp] theorem takeByte_queueRead : (takeByte s).biu.queueRead = false := rfl

theorem takeByte_taken : Taken 1 s (takeByte s) := by
  have h := await_fetched s
  refine ⟨h.gpr, ?_, h.flags, h.lastEa, h.eaOpr, h.stale, h.system, h.mem, h.devIn, h.bus⟩
  show s.await.ip + 1 = _
  rw [h.ip]
  rfl

theorem takeBytes_queueRead (n : Nat) : (takeBytes (n + 1) s).biu.queueRead = false := by
  induction n generalizing s with
  | zero => rfl
  | succ n ih => exact ih (takeByte s)

theorem takeBytes_taken (n : Nat) : Taken n s (takeBytes n s) := by
  induction n generalizing s with
  | zero => exact ⟨rfl, (BitVec.add_zero _).symm, rfl, rfl, rfl, rfl, rfl, rfl, rfl, [], rfl, by simp⟩
  | succ n ih =>
    have h := takeByte_taken s
    have g := ih (takeByte s)
    refine ⟨g.gpr.trans h.gpr, ?_, g.flags.trans h.flags, g.lastEa.trans h.lastEa, g.eaOpr.trans h.eaOpr,
      g.stale.trans h.stale, g.system.trans h.system, g.mem.trans h.mem, g.devIn.trans h.devIn, ?_⟩
    · show (takeBytes n (takeByte s)).ip = _
      rw [g.ip, h.ip, BitVec.add_assoc, ← BitVec.ofNat_add, Nat.add_comm]
    · obtain ⟨l, e, hl⟩ := h.bus
      obtain ⟨k, e', hk⟩ := g.bus
      refine ⟨k ++ l, ?_, fun x hx => (List.mem_append.mp hx).elim (hk x) (hl x)⟩
      show (takeBytes n (takeByte s)).bus = _
      rw [e', e, List.append_assoc]

/-! ### Writes and transfers keep the invariant -/

theorem storeAfter_inv (h : s.Inv) (old : Bool) (a : BitVec 20) (v : Byte) : (s.storeAfter old a v).Inv := by
  refine storeData_inv _ ?_ a v
  cases old
  · exact h
  · exact fetchUpTo_inv s h a

theorem storePair_inv (h : s.Inv) (a b : BitVec 20) (v w : Byte) : (s.storePair a b v w).Inv := by
  have h2 := drawOld_inv _ (drawOld_inv s h a) b
  unfold State.storePair
  dsimp only
  split <;> exact storeAfter_inv _ (storeAfter_inv _ h2 _ _ _) _ _ _

theorem writeByte_inv (h : s.Inv) (acc : Access) (sv off : Word) (v : Byte) : (writeByte acc sv off v s).Inv :=
  logBus_inv _ (storeAfter_inv _ (drawOld_inv _ (prefetch_inv s h) _) _ _ v) _

theorem writeWord_inv (h : s.Inv) (acc : Access) (sv off v : Word) : (writeWord acc sv off v s).Inv := by
  unfold writeWord
  split
  · exact logBus_inv _ (storePair_inv _ (prefetch_inv s h) _ _ _ _) _
  · exact writeByte_inv _ (writeByte_inv s h _ _ _ _) _ _ _ _

theorem push16_inv (h : s.Inv) (v : Word) : (push16 v s).Inv :=
  writeWord_inv (s.setR16 .sp (s.r16 .sp - 2)) (h.congr rfl rfl rfl rfl rfl rfl rfl) _ _ _ _

theorem pop16_inv (h : s.Inv) : (pop16 s).2.Inv :=
  (readWord_inv s h .ss s.seg.ss (s.r16 .sp)).congr rfl rfl rfl rfl rfl rfl rfl

theorem discardFetch_inFlight (b : Biu) : b.discardFetch.inFlight = 0 := by
  unfold Biu.discardFetch
  split
  · unfold Biu.inFlight
    cases b.cycle <;> simp
  · next h =>
    unfold Biu.inFlight
    split <;> simp [h]

/-- After a flush PC is IP, the queue is empty, and nothing in flight will be pushed (21_prefetch_queue.md R117). -/
theorem flush_inv (hw : Memory.wf s.mem = true) (hs : ∀ c ∈ s.mem, c.1 < 2 ^ 20) (hf : flagsPinned s.flags = true) :
    s.flush.Inv := by
  refine ⟨hw, hs, hf, ?_, ?_⟩
  · have h0 : s.flush.biu.inFlight = 0 := discardFetch_inFlight s.biu
    have h1 := busWidth_le s.flush
    have h2 := capacity_ge s.flush
    show 0 + (s.flush.biu.inFlight + if s.flush.biu.prep = .fetch then s.flush.busWidth else 0) ≤ s.flush.capacity
    split <;> omega
  · show s.ip = s.ip + BitVec.ofNat 16 0
    simp

theorem nearTransfer_inv (h : s.Inv) (t : Word) : (nearTransfer t s).Inv :=
  have g := prefetch_inv s h
  flush_inv (s.prefetch.setIp t) g.memWf g.small g.flags

theorem farTransfer_inv (h : s.Inv) (sv t : Word) : (farTransfer sv t s).Inv :=
  have g := prefetch_inv s h
  flush_inv ((s.prefetch.setSreg .cs sv).setIp t) g.memWf g.small g.flags

/-! ### Queue and PC between two flushes (21_prefetch_queue.md R112, R121) -/

/-- The queue has kept its bytes and taken some at its end, and PC has passed those. -/
def Grown (s t : State) : Prop := ∃ l, t.queue = s.queue ++ l ∧ t.pc = s.pc + BitVec.ofNat 16 l.length

theorem Grown.of_eq {s t : State} (hq : t.queue = s.queue) (hp : t.pc = s.pc) : Grown s t := ⟨[], by simp [hq], by simp [hp]⟩

theorem Grown.trans {s t u : State} (h : Grown s t) (g : Grown t u) : Grown s u := by
  obtain ⟨l, hq, hp⟩ := h
  obtain ⟨k, gq, gp⟩ := g
  exact ⟨l ++ k, by rw [gq, hq, List.append_assoc], by rw [gp, hp, List.length_append, BitVec.ofNat_add, BitVec.add_assoc]⟩

theorem pushBytes_grown (bs : List Byte) : Grown s (s.pushBytes bs) := ⟨bs, rfl, rfl⟩

theorem fetchNow_grown (wide : Bool) : Grown s (s.fetchNow wide) := ⟨_, rfl, rfl⟩

theorem endFetch_grown (c : BusCycle) (w : Word) : Grown s (s.endFetch c w) := by
  unfold State.endFetch
  dsimp only
  split
  · exact .of_eq rfl rfl
  · exact ⟨_, rfl, rfl⟩

theorem completeCycle_grown : Grown s s.completeCycle := by
  unfold State.completeCycle
  split
  · exact .of_eq rfl rfl
  · split
    · split
      · exact endFetch_grown s _ _
      · exact (Grown.of_eq rfl rfl).trans (endFetch_grown (s.logBus _) _ _)
    · exact .of_eq rfl rfl

theorem completeFetch_grown : Grown s s.completeFetch := by
  unfold State.completeFetch
  dsimp only
  split
  · exact (completeCycle_grown s).trans (fetchNow_grown _ _)
  · exact completeCycle_grown s

theorem fillOnce_grown : Grown s s.fillOnce := by
  unfold State.fillOnce
  split
  · exact fetchNow_grown s _
  · exact .of_eq rfl rfl

theorem fillMany_grown (n : Nat) : Grown s (State.fillMany n s) := by
  induction n generalizing s with
  | zero => exact .of_eq rfl rfl
  | succ n ih => exact (fillOnce_grown s).trans (ih _)

theorem elapseDelay_grown : Grown s s.elapseDelay := by
  unfold State.elapseDelay
  split <;> exact .of_eq rfl rfl

theorem fillBy_grown (n : Nat) : Grown s (State.fillBy n s) := by
  cases n with
  | zero => exact .of_eq rfl rfl
  | succ n => exact ((completeFetch_grown s).trans (elapseDelay_grown _)).trans (fillMany_grown _ _)

theorem prefetch_grown : Grown s s.prefetch := by
  unfold State.prefetch
  split
  · exact .of_eq rfl rfl
  · exact (Grown.of_eq rfl rfl).trans (fillBy_grown (s.setFills _) _)

/-- With the schedule used up nothing is fetched. -/
@[simp] theorem prefetch_nil (h : s.fills = []) : s.prefetch = s := by
  unfold State.prefetch
  rw [h]

theorem fetchAhead_grown : Grown s s.fetchAhead := by
  unfold State.fetchAhead
  split
  · exact fetchNow_grown s _
  · exact .of_eq rfl rfl

theorem fetchThrough_grown (n k : Nat) : Grown s (State.fetchThrough n k s) := by
  induction n generalizing s with
  | zero => exact .of_eq rfl rfl
  | succ n ih =>
    unfold State.fetchThrough
    split
    · exact .of_eq rfl rfl
    · exact (fetchAhead_grown s).trans (ih _)

theorem fetchUpTo_grown (a : BitVec 20) : Grown s (s.fetchUpTo a) := by
  unfold State.fetchUpTo
  split
  · exact ((completeFetch_grown s).trans (elapseDelay_grown _)).trans (fetchThrough_grown _ _ _)
  · exact .of_eq rfl rfl

theorem drawOld_grown (a : BitVec 20) : Grown s (s.drawOld a).2 := by
  unfold State.drawOld
  split
  · split <;> exact .of_eq rfl rfl
  · exact .of_eq rfl rfl

theorem storeAfter_grown (old : Bool) (a : BitVec 20) (v : Byte) : Grown s (s.storeAfter old a v) := by
  unfold State.storeAfter
  cases old
  · exact .of_eq (storeData_queue _ _ _) (storeData_pc _ _ _)
  · exact (fetchUpTo_grown s a).trans (.of_eq (storeData_queue _ _ _) (storeData_pc _ _ _))

theorem storePair_grown (a b : BitVec 20) (v w : Byte) : Grown s (s.storePair a b v w) := by
  have h := (drawOld_grown s a).trans (drawOld_grown _ b)
  unfold State.storePair
  dsimp only
  split <;> exact (h.trans (storeAfter_grown _ _ _ _)).trans (storeAfter_grown _ _ _ _)

theorem takeDevice_grown : Grown s s.takeDevice.2 := .of_eq (by simp) (by simp)

theorem fetchData_grown (a : BitVec 20) : Grown s (s.fetchData a).2 := .of_eq (by simp) (by simp)

theorem logBus_grown (e : BusEvent) : Grown s (s.logBus e) := .of_eq rfl rfl

theorem readByte_grown (acc : Access) (sv off : Word) : Grown s (readByte acc sv off s).2 :=
  ((prefetch_grown s).trans (fetchData_grown _ _)).trans (logBus_grown _ _)

theorem readWord_grown (acc : Access) (sv off : Word) : Grown s (readWord acc sv off s).2 := by
  unfold readWord
  split
  · exact (((prefetch_grown s).trans (fetchData_grown _ _)).trans (fetchData_grown _ _)).trans (logBus_grown _ _)
  · exact (readByte_grown s acc sv off).trans (readByte_grown _ acc sv (off + 1))

theorem writeByte_grown (acc : Access) (sv off : Word) (v : Byte) : Grown s (writeByte acc sv off v s) :=
  (((prefetch_grown s).trans (drawOld_grown _ _)).trans (storeAfter_grown _ _ _ _)).trans (logBus_grown _ _)

theorem writeWord_grown (acc : Access) (sv off v : Word) : Grown s (writeWord acc sv off v s) := by
  unfold writeWord
  split
  · exact ((prefetch_grown s).trans (storePair_grown _ _ _ _ _)).trans (logBus_grown _ _)
  · exact (writeByte_grown s acc sv off _).trans (writeByte_grown _ acc sv (off + 1) _)

theorem ioReadByte_grown (port : Word) : Grown s (ioReadByte port s).2 :=
  ((prefetch_grown s).trans (takeDevice_grown _)).trans (logBus_grown _ _)

theorem ioReadWord_grown (port : Word) : Grown s (ioReadWord port s).2 :=
  (ioReadByte_grown s port).trans (ioReadByte_grown _ (port + 1))

theorem ioWriteByte_grown (port : Word) (v : Byte) : Grown s (ioWriteByte port v s) := (prefetch_grown s).trans (logBus_grown _ _)

theorem ioWriteWord_grown (port v : Word) : Grown s (ioWriteWord port v s) :=
  (ioWriteByte_grown s port _).trans (ioWriteByte_grown _ (port + 1) _)

theorem push16_grown (v : Word) : Grown s (push16 v s) :=
  (Grown.of_eq (t := s.setR16 .sp (s.r16 .sp - 2)) rfl rfl).trans (writeWord_grown _ _ _ _ _)

theorem pop16_grown : Grown s (pop16 s).2 := (readWord_grown s .ss s.seg.ss (s.r16 .sp)).trans (.of_eq rfl rfl)

end Sys2Proof.Machine
end

