-- ==== Sys2Proof/Laws/Operands.lean ====
section
/-! SUPPORT. What loading, storing and modifying an operand does, in the terms of the statements. -/
namespace Sys2Proof.Machine
open Sys2Proof

variable (s : State)

/-! ### Registers and memory, from states that agree on them -/

theorem r16_of_gpr {s t : State} (h : t.gpr = s.gpr) (r : Reg16) : t.r16 r = s.r16 r := by simp [State.r16, h]

theorem r8_of_gpr {s t : State} (h : t.gpr = s.gpr) (r : Reg8) : t.r8 r = s.r8 r := by simp [State.r8, State.r16, h]

theorem memKept_of_mem {s t : State} (h : t.mem = s.mem) : MemKept s t := fun a => byteAt_of_mem h a

theorem setR8_written {s u : State} (r : Reg8) (v : Byte) (hg : u.gpr = s.gpr) : Reg8Written r v s (u.setR8 r v) := by
  refine ⟨setR8_r8_same u r v, fun q hq => ?_, fun q hq => ?_⟩
  · rw [setR8_r8_ne u r q v hq, r8_of_gpr hg]
  · rw [setR8_r16_ne u r q v (by simpa using hq), r16_of_gpr hg]

theorem setR16_written {s u : State} (r : Reg16) (v : Word) (hg : u.gpr = s.gpr) : Reg16Written r v s (u.setR16 r v) := by
  refine ⟨setR16_r16_same u r v, fun q hq => ?_⟩
  rw [setR16_r16_ne u r q v (by simpa using hq), r16_of_gpr hg]

theorem writeByte_stored {s u : State} (acc : Access) (sv off : Word) (v : Byte) (hm : u.mem = s.mem) (hc : u.cfg = s.cfg) :
    MemByte sv off v s (writeByte acc sv off v u) := by
  refine ⟨fun a ha => ?_, fun hw hr => ?_⟩
  · rw [writeByte_byteAt_ne u acc sv off v a (by simpa using ha), byteAt_of_mem hm]
  · exact writeByte_byteAt_same u acc sv off v (by rw [hm]; exact hw) ((kindAt_of_cfg hc _).trans hr)

theorem writeWord_stored {s u : State} (acc : Access) (sv off v : Word) (hm : u.mem = s.mem) (hc : u.cfg = s.cfg) :
    MemWord sv off v s (writeWord acc sv off v u) := by
  refine ⟨fun a ha => ?_, fun hw hr => ?_, fun hw hr => ?_⟩
  · simp only [List.mem_cons, List.not_mem_nil, or_false, not_or] at ha
    rw [writeWord_byteAt_ne u acc sv off v a ha.1 ha.2, byteAt_of_mem hm]
  · exact writeWord_byteAt_low u acc sv off v (by rw [hm]; exact hw) ((kindAt_of_cfg hc _).trans hr)
  · exact writeWord_byteAt_high u acc sv off v (by rw [hm]; exact hw) ((kindAt_of_cfg hc _).trans hr)

/-! ### Byte operands -/

@[simp] theorem resolve8_gpr (rm : RM8) : (resolve8 rm s).2.gpr = s.gpr := by cases rm <;> rfl
@[simp] theorem resolve8_ip (rm : RM8) : (resolve8 rm s).2.ip = s.ip := by cases rm <;> rfl
@[simp] theorem resolve8_flags (rm : RM8) : (resolve8 rm s).2.flags = s.flags := by cases rm <;> rfl
@[simp] theorem resolve8_eaOpr (rm : RM8) : (resolve8 rm s).2.eaOpr = s.eaOpr := by cases rm <;> rfl
@[simp] theorem resolve8_nextIsFirst (rm : RM8) : (resolve8 rm s).2.nextIsFirst = s.nextIsFirst := by cases rm <;> rfl
@[simp] theorem resolve8_stale (rm : RM8) : (resolve8 rm s).2.stale = s.stale := by cases rm <;> rfl
@[simp] theorem resolve8_system (rm : RM8) : (resolve8 rm s).2.system = s.system := by cases rm <;> rfl
@[simp] theorem resolve8_mem (rm : RM8) : (resolve8 rm s).2.mem = s.mem := by cases rm <;> rfl
@[simp] theorem resolve8_pc (rm : RM8) : (resolve8 rm s).2.pc = s.pc := by cases rm <;> rfl
@[simp] theorem resolve8_queue (rm : RM8) : (resolve8 rm s).2.queue = s.queue := by cases rm <;> rfl
@[simp] theorem resolve8_biu (rm : RM8) : (resolve8 rm s).2.biu = s.biu := by cases rm <;> rfl
@[simp] theorem resolve8_fills (rm : RM8) : (resolve8 rm s).2.fills = s.fills := by cases rm <;> rfl
@[simp] theorem resolve8_devIn (rm : RM8) : (resolve8 rm s).2.devIn = s.devIn := by cases rm <;> rfl
@[simp] theorem resolve8_draws (rm : RM8) : (resolve8 rm s).2.draws = s.draws := by cases rm <;> rfl
@[simp] theorem resolve8_bus (rm : RM8) : (resolve8 rm s).2.bus = s.bus := by cases rm <;> rfl
@[simp] theorem resolve8_steps (rm : RM8) : (resolve8 rm s).2.steps = s.steps := by cases rm <;> rfl
@[simp] theorem resolve8_seg (rm : RM8) : (resolve8 rm s).2.seg = s.seg := by cases rm <;> rfl
@[simp] theorem resolve8_dec (rm : RM8) : (resolve8 rm s).2.dec = s.dec := by cases rm <;> rfl
@[simp] theorem resolve8_cfg (rm : RM8) : (resolve8 rm s).2.cfg = s.cfg := by cases rm <;> rfl
@[simp] theorem resolve8_life (rm : RM8) : (resolve8 rm s).2.life = s.life := by cases rm <;> rfl
@[simp] theorem resolve8_halted (rm : RM8) : (resolve8 rm s).2.halted = s.halted := by cases rm <;> rfl
@[simp] theorem resolve8_pins (rm : RM8) : (resolve8 rm s).2.pins = s.pins := by cases rm <;> rfl
@[simp] theorem resolve8_inhibit (rm : RM8) : (resolve8 rm s).2.inhibit = s.inhibit := by cases rm <;> rfl
@[simp] theorem resolve8_nmiLatch (rm : RM8) : (resolve8 rm s).2.nmiLatch = s.nmiLatch := by cases rm <;> rfl
@[simp] theorem resolve8_lock (rm : RM8) : (resolve8 rm s).2.lock = s.lock := by cases rm <;> rfl

@[simp] theorem readPlace8_gpr (p : Place8) : (readPlace8 p s).2.gpr = s.gpr := by
  cases p with
  | reg r => rfl
  | mem acc sv off => exact readByte_gpr s acc sv off
@[simp] theorem readPlace8_ip (p : Place8) : (readPlace8 p s).2.ip = s.ip := by
  cases p with
  | reg r => rfl
  | mem acc sv off => exact readByte_ip s acc sv off
@[simp] theorem readPlace8_flags (p : Place8) : (readPlace8 p s).2.flags = s.flags := by
  cases p with
  | reg r => rfl
  | mem acc sv off => exact readByte_flags s acc sv off
@[simp] theorem readPlace8_lastEa (p : Place8) : (readPlace8 p s).2.lastEa = s.lastEa := by
  cases p with
  | reg r => rfl
  | mem acc sv off => exact readByte_lastEa s acc sv off
@[simp] theorem readPlace8_nextIsFirst (p : Place8) : (readPlace8 p s).2.nextIsFirst = s.nextIsFirst := by
  cases p with
  | reg r => rfl
  | mem acc sv off => exact readByte_nextIsFirst s acc sv off
@[simp] theorem readPlace8_stale (p : Place8) : (readPlace8 p s).2.stale = s.stale := by
  cases p with
  | reg r => rfl
  | mem acc sv off => exact readByte_stale s acc sv off
@[simp] theorem readPlace8_system (p : Place8) : (readPlace8 p s).2.system = s.system := by
  cases p with
  | reg r => rfl
  | mem acc sv off => exact readByte_system s acc sv off
@[simp] theorem readPlace8_mem (p : Place8) : (readPlace8 p s).2.mem = s.mem := by
  cases p with
  | reg r => rfl
  | mem acc sv off => exact readByte_mem s acc sv off
@[simp] theorem readPlace8_steps (p : Place8) : (readPlace8 p s).2.steps = s.steps := by
  cases p with
  | reg r => rfl
  | mem acc sv off => exact readByte_steps s acc sv off
@[simp] theorem readPlace8_seg (p : Place8) : (readPlace8 p s).2.seg = s.seg := by
  cases p with
  | reg r => rfl
  | mem acc sv off => exact readByte_seg s acc sv off
@[simp] theorem readPlace8_dec (p : Place8) : (readPlace8 p s).2.dec = s.dec := by
  cases p with
  | reg r => rfl
  | mem acc sv off => exact readByte_dec s acc sv off
@[simp] theorem readPlace8_cfg (p : Place8) : (readPlace8 p s).2.cfg = s.cfg := by
  cases p with
  | reg r => rfl
  | mem acc sv off => exact readByte_cfg s acc sv off
@[simp] theorem readPlace8_life (p : Place8) : (readPlace8 p s).2.life = s.life := by
  cases p with
  | reg r => rfl
  | mem acc sv off => exact readByte_life s acc sv off
@[simp] theorem readPlace8_halted (p : Place8) : (readPlace8 p s).2.halted = s.halted := by
  cases p with
  | reg r => rfl
  | mem acc sv off => exact readByte_halted s acc sv off
@[simp] theorem readPlace8_pins (p : Place8) : (readPlace8 p s).2.pins = s.pins := by
  cases p with
  | reg r => rfl
  | mem acc sv off => exact readByte_pins s acc sv off
@[simp] theorem readPlace8_inhibit (p : Place8) : (readPlace8 p s).2.inhibit = s.inhibit := by
  cases p with
  | reg r => rfl
  | mem acc sv off => exact readByte_inhibit s acc sv off
@[simp] theorem readPlace8_nmiLatch (p : Place8) : (readPlace8 p s).2.nmiLatch = s.nmiLatch := by
  cases p with
  | reg r => rfl
  | mem acc sv off => exact readByte_nmiLatch s acc sv off
@[simp] theorem readPlace8_lock (p : Place8) : (readPlace8 p s).2.lock = s.lock := by
  cases p with
  | reg r => rfl
  | mem acc sv off => exact readByte_lock s acc sv off

@[simp] theorem writePlace8_ip (p : Place8) (v : Byte) : (writePlace8 p v s).ip = s.ip := by
  cases p with
  | reg r => rfl
  | mem acc sv off => exact writeByte_ip s acc sv off v
@[simp] theorem writePlace8_flags (p : Place8) (v : Byte) : (writePlace8 p v s).flags = s.flags := by
  cases p with
  | reg r => rfl
  | mem acc sv off => exact writeByte_flags s acc sv off v
@[simp] theorem writePlace8_lastEa (p : Place8) (v : Byte) : (writePlace8 p v s).lastEa = s.lastEa := by
  cases p with
  | reg r => rfl
  | mem acc sv off => exact writeByte_lastEa s acc sv off v
@[simp] theorem writePlace8_eaOpr (p : Place8) (v : Byte) : (writePlace8 p v s).eaOpr = s.eaOpr := by
  cases p with
  | reg r => rfl
  | mem acc sv off => exact writeByte_eaOpr s acc sv off v
@[simp] theorem writePlace8_nextIsFirst (p : Place8) (v : Byte) : (writePlace8 p v s).nextIsFirst = s.nextIsFirst := by
  cases p with
  | reg r => rfl
  | mem acc sv off => exact writeByte_nextIsFirst s acc sv off v
@[simp] theorem writePlace8_stale (p : Place8) (v : Byte) : (writePlace8 p v s).stale = s.stale := by
  cases p with
  | reg r => rfl
  | mem acc sv off => exact writeByte_stale s acc sv off v
@[simp] theorem writePlace8_system (p : Place8) (v : Byte) : (writePlace8 p v s).system = s.system := by
  cases p with
  | reg r => rfl
  | mem acc sv off => exact writeByte_system s acc sv off v
@[simp] theorem writePlace8_devIn (p : Place8) (v : Byte) : (writePlace8 p v s).devIn = s.devIn := by
  cases p with
  | reg r => rfl
  | mem acc sv off => exact writeByte_devIn s acc sv off v
@[simp] theorem writePlace8_steps (p : Place8) (v : Byte) : (writePlace8 p v s).steps = s.steps := by
  cases p with
  | reg r => rfl
  | mem acc sv off => exact writeByte_steps s acc sv off v
@[simp] theorem writePlace8_seg (p : Place8) (v : Byte) : (writePlace8 p v s).seg = s.seg := by
  cases p with
  | reg r => rfl
  | mem acc sv off => exact writeByte_seg s acc sv off v
@[simp] theorem writePlace8_dec (p : Place8) (v : Byte) : (writePlace8 p v s).dec = s.dec := by
  cases p with
  | reg r => rfl
  | mem acc sv off => exact writeByte_dec s acc sv off v
@[simp] theorem writePlace8_cfg (p : Place8) (v : Byte) : (writePlace8 p v s).cfg = s.cfg := by
  cases p with
  | reg r => rfl
  | mem acc sv off => exact writeByte_cfg s acc sv off v
@[simp] theorem writePlace8_life (p : Place8) (v : Byte) : (writePlace8 p v s).life = s.life := by
  cases p with
  | reg r => rfl
  | mem acc sv off => exact writeByte_life s acc sv off v
@[simp] theorem writePlace8_halted (p : Place8) (v : Byte) : (writePlace8 p v s).halted = s.halted := by
  cases p with
  | reg r => rfl
  | mem acc sv off => exact writeByte_halted s acc sv off v
@[simp] theorem writePlace8_pins (p : Place8) (v : Byte) : (writePlace8 p v s).pins = s.pins := by
  cases p with
  | reg r => rfl
  | mem acc sv off => exact writeByte_pins s acc sv off v
@[simp] theorem writePlace8_inhibit (p : Place8) (v : Byte) : (writePlace8 p v s).inhibit = s.inhibit := by
  cases p with
  | reg r => rfl
  | mem acc sv off => exact writeByte_inhibit s acc sv off v
@[simp] theorem writePlace8_nmiLatch (p : Place8) (v : Byte) : (writePlace8 p v s).nmiLatch = s.nmiLatch := by
  cases p with
  | reg r => rfl
  | mem acc sv off => exact writeByte_nmiLatch s acc sv off v
@[simp] theorem writePlace8_lock (p : Place8) (v : Byte) : (writePlace8 p v s).lock = s.lock := by
  cases p with
  | reg r => rfl
  | mem acc sv off => exact writeByte_lock s acc sv off v

@[simp] theorem load8_gpr (rm : RM8) : (load8 rm s).2.gpr = s.gpr := by
  simp [load8]
@[simp] theorem load8_ip (rm : RM8) : (load8 rm s).2.ip = s.ip := by
  simp [load8]
@[simp] theorem load8_flags (rm : RM8) : (load8 rm s).2.flags = s.flags := by
  simp [load8]
@[simp] theorem load8_nextIsFirst (rm : RM8) : (load8 rm s).2.nextIsFirst = s.nextIsFirst := by
  simp [load8]
@[simp] theorem load8_stale (rm : RM8) : (load8 rm s).2.stale = s.stale := by
  simp [load8]
@[simp] theorem load8_system (rm : RM8) : (load8 rm s).2.system = s.system := by
  simp [load8]
@[simp] theorem load8_mem (rm : RM8) : (load8 rm s).2.mem = s.mem := by
  simp [load8]
@[simp] theorem load8_steps (rm : RM8) : (load8 rm s).2.steps = s.steps := by
  simp [load8]
@[simp] theorem load8_seg (rm : RM8) : (load8 rm s).2.seg = s.seg := by
  simp [load8]
@[simp] theorem load8_dec (rm : RM8) : (load8 rm s).2.dec = s.dec := by
  simp [load8]
@[simp] theorem load8_cfg (rm : RM8) : (load8 rm s).2.cfg = s.cfg := by
  simp [load8]
@[simp] theorem load8_life (rm : RM8) : (load8 rm s).2.life = s.life := by
  simp [load8]
@[simp] theorem load8_halted (rm : RM8) : (load8 rm s).2.halted = s.halted := by
  simp [load8]
@[simp] theorem load8_pins (rm : RM8) : (load8 rm s).2.pins = s.pins := by
  simp [load8]
@[simp] theorem load8_inhibit (rm : RM8) : (load8 rm s).2.inhibit = s.inhibit := by
  simp [load8]
@[simp] theorem load8_nmiLatch (rm : RM8) : (load8 rm s).2.nmiLatch = s.nmiLatch := by
  simp [load8]
@[simp] theorem load8_lock (rm : RM8) : (load8 rm s).2.lock = s.lock := by
  simp [load8]

theorem resolve8_lastEa (rm : RM8) : (resolve8 rm s).2.lastEa = rm.ea s := by cases rm <;> rfl
theorem load8_lastEa (rm : RM8) : (load8 rm s).2.lastEa = rm.ea s :=
  (readPlace8_lastEa (resolve8 rm s).2 (resolve8 rm s).1).trans (resolve8_lastEa s rm)

theorem resolve8_inv (h : s.Inv) (rm : RM8) : (resolve8 rm s).2.Inv := by
  cases rm
  · exact h
  · exact h.congr rfl rfl rfl rfl rfl rfl rfl

theorem readPlace8_inv (h : s.Inv) (p : Place8) : (readPlace8 p s).2.Inv := by
  cases p with
  | reg r => exact h
  | mem acc sv off => exact (readByte_inv s h acc sv off).congr rfl rfl rfl rfl rfl rfl rfl

theorem writePlace8_inv (h : s.Inv) (p : Place8) (v : Byte) : (writePlace8 p v s).Inv := by
  cases p with
  | reg r => exact h.congr rfl rfl rfl rfl rfl rfl rfl
  | mem acc sv off => exact writeByte_inv s h acc sv off v

theorem load8_inv (h : s.Inv) (rm : RM8) : (load8 rm s).2.Inv := readPlace8_inv _ (resolve8_inv s h rm) _

theorem store8_inv (h : s.Inv) (rm : RM8) (v : State → Byte) : (store8 rm v s).Inv :=
  writePlace8_inv _ (resolve8_inv s h rm) _ _

/-- Writing the place of an operand from a state with the same registers, memory and map. -/
theorem writePlace8_stored {s u : State} (rm : RM8) (v : Byte) (hg : u.gpr = s.gpr) (hm : u.mem = s.mem)
    (hc : u.cfg = s.cfg) : Stored8 rm v s (writePlace8 (resolve8 rm s).1 v u) := by
  cases rm with
  | reg r => exact ⟨setR8_written r v hg, fun a => byteAt_of_mem hm a⟩
  | mem m => exact ⟨(writeByte_gpr _ _ _ _ _).trans hg, writeByte_stored _ _ _ _ hm hc⟩

theorem store8_stored (rm : RM8) (v : State → Byte) : Stored8 rm (v (resolve8 rm s).2) s (store8 rm v s) :=
  writePlace8_stored rm _ (resolve8_gpr s rm) (resolve8_mem s rm) (resolve8_cfg s rm)

theorem store8_ordinary (rm : RM8) (v : State → Byte) : Ordinary s (store8 rm v s) :=
  ⟨by simp [store8], by simp [store8]⟩

theorem store8_flags (rm : RM8) (v : State → Byte) : (store8 rm v s).flags = s.flags := by simp [store8]

theorem store8_lastEa (rm : RM8) (v : State → Byte) : (store8 rm v s).lastEa = rm.ea s := by
  simp [store8, resolve8_lastEa]

theorem load8_ordinary (rm : RM8) : Ordinary s (load8 rm s).2 := ⟨by simp, by simp⟩

/-- The state in which an operation runs: its operand is loaded, `k` bytes of an immediate are taken. -/
def loaded8 (k : Nat) (rm : RM8) (s : State) : State := takeBytes k (load8 rm s).2

@[simp] theorem loaded8_gpr (k : Nat) (rm : RM8) : (loaded8 k rm s).gpr = s.gpr :=
  (takeBytes_taken _ k).gpr.trans (load8_gpr s rm)
@[simp] theorem loaded8_flags (k : Nat) (rm : RM8) : (loaded8 k rm s).flags = s.flags :=
  (takeBytes_taken _ k).flags.trans (load8_flags s rm)
@[simp] theorem loaded8_stale (k : Nat) (rm : RM8) : (loaded8 k rm s).stale = s.stale :=
  (takeBytes_taken _ k).stale.trans (load8_stale s rm)
@[simp] theorem loaded8_system (k : Nat) (rm : RM8) : (loaded8 k rm s).system = s.system :=
  (takeBytes_taken _ k).system.trans (load8_system s rm)
@[simp] theorem loaded8_mem (k : Nat) (rm : RM8) : (loaded8 k rm s).mem = s.mem :=
  (takeBytes_taken _ k).mem.trans (load8_mem s rm)
@[simp] theorem loaded8_steps (k : Nat) (rm : RM8) : (loaded8 k rm s).steps = s.steps :=
  congrArg System.steps (loaded8_system s k rm)
@[simp] theorem loaded8_seg (k : Nat) (rm : RM8) : (loaded8 k rm s).seg = s.seg :=
  congrArg System.seg (loaded8_system s k rm)
@[simp] theorem loaded8_dec (k : Nat) (rm : RM8) : (loaded8 k rm s).dec = s.dec :=
  congrArg System.dec (loaded8_system s k rm)
@[simp] theorem loaded8_cfg (k : Nat) (rm : RM8) : (loaded8 k rm s).cfg = s.cfg :=
  congrArg System.cfg (loaded8_system s k rm)
@[simp] theorem loaded8_life (k : Nat) (rm : RM8) : (loaded8 k rm s).life = s.life :=
  congrArg System.life (loaded8_system s k rm)
@[simp] theorem loaded8_halted (k : Nat) (rm : RM8) : (loaded8 k rm s).halted = s.halted :=
  congrArg System.halted (loaded8_system s k rm)
@[simp] theorem loaded8_pins (k : Nat) (rm : RM8) : (loaded8 k rm s).pins = s.pins :=
  congrArg System.pins (loaded8_system s k rm)
@[simp] theorem loaded8_inhibit (k : Nat) (rm : RM8) : (loaded8 k rm s).inhibit = s.inhibit :=
  congrArg System.inhibit (loaded8_system s k rm)
@[simp] theorem loaded8_nmiLatch (k : Nat) (rm : RM8) : (loaded8 k rm s).nmiLatch = s.nmiLatch :=
  congrArg System.nmiLatch (loaded8_system s k rm)
@[simp] theorem loaded8_lock (k : Nat) (rm : RM8) : (loaded8 k rm s).lock = s.lock :=
  congrArg System.lock (loaded8_system s k rm)

theorem loaded8_ip (k : Nat) (rm : RM8) : (loaded8 k rm s).ip = s.ip + BitVec.ofNat 16 k :=
  (takeBytes_taken _ k).ip.trans (by rw [load8_ip])

theorem loaded8_lastEa (k : Nat) (rm : RM8) : (loaded8 k rm s).lastEa = rm.ea s :=
  (takeBytes_taken _ k).lastEa.trans (load8_lastEa s rm)

theorem loaded8_inv (h : s.Inv) (k : Nat) (rm : RM8) : (loaded8 k rm s).Inv := takeBytes_inv _ (load8_inv s h rm) k

/-- `modify` by its parts. -/
theorem modify8_eq (k : Nat) (rm : RM8) (f : Byte → State → Option Byte × Word) : modify8 k rm f s =
    (match (f (rm.value s) (loaded8 k rm s)).1 with
      | some v => writePlace8 (resolve8 rm s).1 v ((loaded8 k rm s).setFlags (f (rm.value s) (loaded8 k rm s)).2)
      | none => (loaded8 k rm s).setFlags (f (rm.value s) (loaded8 k rm s)).2) := rfl

/-- What `modify` writes, when its function gives a value. -/
theorem modify8_writes (k : Nat) (rm : RM8) (f : Byte → State → Option Byte × Word) (v : Byte)
    (h : (f (rm.value s) (loaded8 k rm s)).1 = some v) : Stored8 rm v s (modify8 k rm f s) := by
  rw [modify8_eq, h]
  exact writePlace8_stored rm v (loaded8_gpr s k rm) (loaded8_mem s k rm) (loaded8_cfg s k rm)

/-- `modify` writes nothing when its function gives no value. -/
theorem modify8_keeps (k : Nat) (rm : RM8) (f : Byte → State → Option Byte × Word)
    (h : (f (rm.value s) (loaded8 k rm s)).1 = none) : NothingWritten s (modify8 k rm f s) := by
  rw [modify8_eq, h]
  exact ⟨loaded8_gpr s k rm, fun a => byteAt_of_mem (loaded8_mem s k rm) a⟩

theorem modify8_flags (k : Nat) (rm : RM8) (f : Byte → State → Option Byte × Word) :
    (modify8 k rm f s).flags = (f (rm.value s) (loaded8 k rm s)).2 := by
  rw [modify8_eq]
  split <;> simp

theorem modify8_ordinary (k : Nat) (rm : RM8) (f : Byte → State → Option Byte × Word) :
    Ordinary (s.past k) (modify8 k rm f s) := by
  rw [modify8_eq]
  refine ⟨?_, ?_⟩
  · show _ = s.ip + BitVec.ofNat 16 k
    split <;> simp [loaded8_ip]
  · show _ = s.system
    split <;> simp

theorem modify8_lastEa (k : Nat) (rm : RM8) (f : Byte → State → Option Byte × Word) : (modify8 k rm f s).lastEa = rm.ea s := by
  rw [modify8_eq]
  split <;> simp [loaded8_lastEa]

theorem modify8_inv (h : s.Inv) (k : Nat) (rm : RM8) (f : Byte → State → Option Byte × Word)
    (hf : flagsPinned (f (rm.value s) (loaded8 k rm s)).2 = true) : (modify8 k rm f s).Inv := by
  have hu : ((loaded8 k rm s).setFlags (f (rm.value s) (loaded8 k rm s)).2).Inv := setFlags_inv _ (loaded8_inv s h k rm) _ hf
  rw [modify8_eq]
  split
  · exact writePlace8_inv _ hu _ _
  · exact hu

/-! ### Word operands -/

@[simp] theorem resolve16_gpr (rm : RM16) : (resolve16 rm s).2.gpr = s.gpr := by cases rm <;> rfl
@[simp] theorem resolve16_ip (rm : RM16) : (resolve16 rm s).2.ip = s.ip := by cases rm <;> rfl
@[simp] theorem resolve16_flags (rm : RM16) : (resolve16 rm s).2.flags = s.flags := by cases rm <;> rfl
@[simp] theorem resolve16_eaOpr (rm : RM16) : (resolve16 rm s).2.eaOpr = s.eaOpr := by cases rm <;> rfl
@[simp] theorem resolve16_nextIsFirst (rm : RM16) : (resolve16 rm s).2.nextIsFirst = s.nextIsFirst := by cases rm <;> rfl
@[simp] theorem resolve16_stale (rm : RM16) : (resolve16 rm s).2.stale = s.stale := by cases rm <;> rfl
@[simp] theorem resolve16_system (rm : RM16) : (resolve16 rm s).2.system = s.system := by cases rm <;> rfl
@[simp] theorem resolve16_mem (rm : RM16) : (resolve16 rm s).2.mem = s.mem := by cases rm <;> rfl
@[simp] theorem resolve16_pc (rm : RM16) : (resolve16 rm s).2.pc = s.pc := by cases rm <;> rfl
@[simp] theorem resolve16_queue (rm : RM16) : (resolve16 rm s).2.queue = s.queue := by cases rm <;> rfl
@[simp] theorem resolve16_biu (rm : RM16) : (resolve16 rm s).2.biu = s.biu := by cases rm <;> rfl
@[simp] theorem resolve16_fills (rm : RM16) : (resolve16 rm s).2.fills = s.fills := by cases rm <;> rfl
@[simp] theorem resolve16_devIn (rm : RM16) : (resolve16 rm s).2.devIn = s.devIn := by cases rm <;> rfl
@[simp] theorem resolve16_draws (rm : RM16) : (resolve16 rm s).2.draws = s.draws := by cases rm <;> rfl
@[simp] theorem resolve16_bus (rm : RM16) : (resolve16 rm s).2.bus = s.bus := by cases rm <;> rfl
@[simp] theorem resolve16_steps (rm : RM16) : (resolve16 rm s).2.steps = s.steps := by cases rm <;> rfl
@[simp] theorem resolve16_seg (rm : RM16) : (resolve16 rm s).2.seg = s.seg := by cases rm <;> rfl
@[simp] theorem resolve16_dec (rm : RM16) : (resolve16 rm s).2.dec = s.dec := by cases rm <;> rfl
@[simp] theorem resolve16_cfg (rm : RM16) : (resolve16 rm s).2.cfg = s.cfg := by cases rm <;> rfl
@[simp] theorem resolve16_life (rm : RM16) : (resolve16 rm s).2.life = s.life := by cases rm <;> rfl
@[simp] theorem resolve16_halted (rm : RM16) : (resolve16 rm s).2.halted = s.halted := by cases rm <;> rfl
@[simp] theorem resolve16_pins (rm : RM16) : (resolve16 rm s).2.pins = s.pins := by cases rm <;> rfl
@[simp] theorem resolve16_inhibit (rm : RM16) : (resolve16 rm s).2.inhibit = s.inhibit := by cases rm <;> rfl
@[simp] theorem resolve16_nmiLatch (rm : RM16) : (resolve16 rm s).2.nmiLatch = s.nmiLatch := by cases rm <;> rfl
@[simp] theorem resolve16_lock (rm : RM16) : (resolve16 rm s).2.lock = s.lock := by cases rm <;> rfl

@[simp] theorem readPlace16_gpr (p : Place16) : (readPlace16 p s).2.gpr = s.gpr := by
  cases p with
  | reg r => rfl
  | mem acc sv off => exact readWord_gpr s acc sv off
@[simp] theorem readPlace16_ip (p : Place16) : (readPlace16 p s).2.ip = s.ip := by
  cases p with
  | reg r => rfl
  | mem acc sv off => exact readWord_ip s acc sv off
@[simp] theorem readPlace16_flags (p : Place16) : (readPlace16 p s).2.flags = s.flags := by
  cases p with
  | reg r => rfl
  | mem acc sv off => exact readWord_flags s acc sv off
@[simp] theorem readPlace16_lastEa (p : Place16) : (readPlace16 p s).2.lastEa = s.lastEa := by
  cases p with
  | reg r => rfl
  | mem acc sv off => exact readWord_lastEa s acc sv off
@[simp] theorem readPlace16_nextIsFirst (p : Place16) : (readPlace16 p s).2.nextIsFirst = s.nextIsFirst := by
  cases p with
  | reg r => rfl
  | mem acc sv off => exact readWord_nextIsFirst s acc sv off
@[simp] theorem readPlace16_stale (p : Place16) : (readPlace16 p s).2.stale = s.stale := by
  cases p with
  | reg r => rfl
  | mem acc sv off => exact readWord_stale s acc sv off
@[simp] theorem readPlace16_system (p : Place16) : (readPlace16 p s).2.system = s.system := by
  cases p with
  | reg r => rfl
  | mem acc sv off => exact readWord_system s acc sv off
@[simp] theorem readPlace16_mem (p : Place16) : (readPlace16 p s).2.mem = s.mem := by
  cases p with
  | reg r => rfl
  | mem acc sv off => exact readWord_mem s acc sv off
@[simp] theorem readPlace16_steps (p : Place16) : (readPlace16 p s).2.steps = s.steps := by
  cases p with
  | reg r => rfl
  | mem acc sv off => exact readWord_steps s acc sv off
@[simp] theorem readPlace16_seg (p : Place16) : (readPlace16 p s).2.seg = s.seg := by
  cases p with
  | reg r => rfl
  | mem acc sv off => exact readWord_seg s acc sv off
@[simp] theorem readPlace16_dec (p : Place16) : (readPlace16 p s).2.dec = s.dec := by
  cases p with
  | reg r => rfl
  | mem acc sv off => exact readWord_dec s acc sv off
@[simp] theorem readPlace16_cfg (p : Place16) : (readPlace16 p s).2.cfg = s.cfg := by
  cases p with
  | reg r => rfl
  | mem acc sv off => exact readWord_cfg s acc sv off
@[simp] theorem readPlace16_life (p : Place16) : (readPlace16 p s).2.life = s.life := by
  cases p with
  | reg r => rfl
  | mem acc sv off => exact readWord_life s acc sv off
@[simp] theorem readPlace16_halted (p : Place16) : (readPlace16 p s).2.halted = s.halted := by
  cases p with
  | reg r => rfl
  | mem acc sv off => exact readWord_halted s acc sv off
@[simp] theorem readPlace16_pins (p : Place16) : (readPlace16 p s).2.pins = s.pins := by
  cases p with
  | reg r => rfl
  | mem acc sv off => exact readWord_pins s acc sv off
@[simp] theorem readPlace16_inhibit (p : Place16) : (readPlace16 p s).2.inhibit = s.inhibit := by
  cases p with
  | reg r => rfl
  | mem acc sv off => exact readWord_inhibit s acc sv off
@[simp] theorem readPlace16_nmiLatch (p : Place16) : (readPlace16 p s).2.nmiLatch = s.nmiLatch := by
  cases p with
  | reg r => rfl
  | mem acc sv off => exact readWord_nmiLatch s acc sv off
@[simp] theorem readPlace16_lock (p : Place16) : (readPlace16 p s).2.lock = s.lock := by
  cases p with
  | reg r => rfl
  | mem acc sv off => exact readWord_lock s acc sv off

@[simp] theorem writePlace16_ip (p : Place16) (v : Word) : (writePlace16 p v s).ip = s.ip := by
  cases p with
  | reg r => rfl
  | mem acc sv off => exact writeWord_ip s acc sv off v
@[simp] theorem writePlace16_flags (p : Place16) (v : Word) : (writePlace16 p v s).flags = s.flags := by
  cases p with
  | reg r => rfl
  | mem acc sv off => exact writeWord_flags s acc sv off v
@[simp] theorem writePlace16_lastEa (p : Place16) (v : Word) : (writePlace16 p v s).lastEa = s.lastEa := by
  cases p with
  | reg r => rfl
  | mem acc sv off => exact writeWord_lastEa s acc sv off v
@[simp] theorem writePlace16_eaOpr (p : Place16) (v : Word) : (writePlace16 p v s).eaOpr = s.eaOpr := by
  cases p with
  | reg r => rfl
  | mem acc sv off => exact writeWord_eaOpr s acc sv off v
@[simp] theorem writePlace16_nextIsFirst (p : Place16) (v : Word) : (writePlace16 p v s).nextIsFirst = s.nextIsFirst := by
  cases p with
  | reg r => rfl
  | mem acc sv off => exact writeWord_nextIsFirst s acc sv off v
@[simp] theorem writePlace16_stale (p : Place16) (v : Word) : (writePlace16 p v s).stale = s.stale := by
  cases p with
  | reg r => rfl
  | mem acc sv off => exact writeWord_stale s acc sv off v
@[simp] theorem writePlace16_system (p : Place16) (v : Word) : (writePlace16 p v s).system = s.system := by
  cases p with
  | reg r => rfl
  | mem acc sv off => exact writeWord_system s acc sv off v
@[simp] theorem writePlace16_devIn (p : Place16) (v : Word) : (writePlace16 p v s).devIn = s.devIn := by
  cases p with
  | reg r => rfl
  | mem acc sv off => exact writeWord_devIn s acc sv off v
@[simp] theorem writePlace16_steps (p : Place16) (v : Word) : (writePlace16 p v s).steps = s.steps := by
  cases p with
  | reg r => rfl
  | mem acc sv off => exact writeWord_steps s acc sv off v
@[simp] theorem writePlace16_seg (p : Place16) (v : Word) : (writePlace16 p v s).seg = s.seg := by
  cases p with
  | reg r => rfl
  | mem acc sv off => exact writeWord_seg s acc sv off v
@[simp] theorem writePlace16_dec (p : Place16) (v : Word) : (writePlace16 p v s).dec = s.dec := by
  cases p with
  | reg r => rfl
  | mem acc sv off => exact writeWord_dec s acc sv off v
@[simp] theorem writePlace16_cfg (p : Place16) (v : Word) : (writePlace16 p v s).cfg = s.cfg := by
  cases p with
  | reg r => rfl
  | mem acc sv off => exact writeWord_cfg s acc sv off v
@[simp] theorem writePlace16_life (p : Place16) (v : Word) : (writePlace16 p v s).life = s.life := by
  cases p with
  | reg r => rfl
  | mem acc sv off => exact writeWord_life s acc sv off v
@[simp] theorem writePlace16_halted (p : Place16) (v : Word) : (writePlace16 p v s).halted = s.halted := by
  cases p with
  | reg r => rfl
  | mem acc sv off => exact writeWord_halted s acc sv off v
@[simp] theorem writePlace16_pins (p : Place16) (v : Word) : (writePlace16 p v s).pins = s.pins := by
  cases p with
  | reg r => rfl
  | mem acc sv off => exact writeWord_pins s acc sv off v
@[simp] theorem writePlace16_inhibit (p : Place16) (v : Word) : (writePlace16 p v s).inhibit = s.inhibit := by
  cases p with
  | reg r => rfl
  | mem acc sv off => exact writeWord_inhibit s acc sv off v
@[simp] theorem writePlace16_nmiLatch (p : Place16) (v : Word) : (writePlace16 p v s).nmiLatch = s.nmiLatch := by
  cases p with
  | reg r => rfl
  | mem acc sv off => exact writeWord_nmiLatch s acc sv off v
@[simp] theorem writePlace16_lock (p : Place16) (v : Word) : (writePlace16 p v s).lock = s.lock := by
  cases p with
  | reg r => rfl
  | mem acc sv off => exact writeWord_lock s acc sv off v

@[simp] theorem load16_gpr (rm : RM16) : (load16 rm s).2.gpr = s.gpr := by
  simp [load16]
@[simp] theorem load16_ip (rm : RM16) : (load16 rm s).2.ip = s.ip := by
  simp [load16]
@[simp] theorem load16_flags (rm : RM16) : (load16 rm s).2.flags = s.flags := by
  simp [load16]
@[simp] theorem load16_nextIsFirst (rm : RM16) : (load16 rm s).2.nextIsFirst = s.nextIsFirst := by
  simp [load16]
@[simp] theorem load16_stale (rm : RM16) : (load16 rm s).2.stale = s.stale := by
  simp [load16]
@[simp] theorem load16_system (rm : RM16) : (load16 rm s).2.system = s.system := by
  simp [load16]
@[simp] theorem load16_mem (rm : RM16) : (load16 rm s).2.mem = s.mem := by
  simp [load16]
@[simp] theorem load16_steps (rm : RM16) : (load16 rm s).2.steps = s.steps := by
  simp [load16]
@[simp] theorem load16_seg (rm : RM16) : (load16 rm s).2.seg = s.seg := by
  simp [load16]
@[simp] theorem load16_dec (rm : RM16) : (load16 rm s).2.dec = s.dec := by
  simp [load16]
@[simp] theorem load16_cfg (rm : RM16) : (load16 rm s).2.cfg = s.cfg := by
  simp [load16]
@[simp] theorem load16_life (rm : RM16) : (load16 rm s).2.life = s.life := by
  simp [load16]
@[simp] theorem load16_halted (rm : RM16) : (load16 rm s).2.halted = s.halted := by
  simp [load16]
@[simp] theorem load16_pins (rm : RM16) : (load16 rm s).2.pins = s.pins := by
  simp [load16]
@[simp] theorem load16_inhibit (rm : RM16) : (load16 rm s).2.inhibit = s.inhibit := by
  simp [load16]
@[simp] theorem load16_nmiLatch (rm : RM16) : (load16 rm s).2.nmiLatch = s.nmiLatch := by
  simp [load16]
@[simp] theorem load16_lock (rm : RM16) : (load16 rm s).2.lock = s.lock := by
  simp [load16]

theorem resolve16_lastEa (rm : RM16) : (resolve16 rm s).2.lastEa = rm.ea s := by cases rm <;> rfl
theorem load16_lastEa (rm : RM16) : (load16 rm s).2.lastEa = rm.ea s :=
  (readPlace16_lastEa (resolve16 rm s).2 (resolve16 rm s).1).trans (resolve16_lastEa s rm)

theorem resolve16_inv (h : s.Inv) (rm : RM16) : (resolve16 rm s).2.Inv := by
  cases rm
  · exact h
  · exact h.congr rfl rfl rfl rfl rfl rfl rfl

theorem readPlace16_inv (h : s.Inv) (p : Place16) : (readPlace16 p s).2.Inv := by
  cases p with
  | reg r => exact h
  | mem acc sv off => exact (readWord_inv s h acc sv off).congr rfl rfl rfl rfl rfl rfl rfl

theorem writePlace16_inv (h : s.Inv) (p : Place16) (v : Word) : (writePlace16 p v s).Inv := by
  cases p with
  | reg r => exact h.congr rfl rfl rfl rfl rfl rfl rfl
  | mem acc sv off => exact writeWord_inv s h acc sv off v

theorem load16_inv (h : s.Inv) (rm : RM16) : (load16 rm s).2.Inv := readPlace16_inv _ (resolve16_inv s h rm) _

theorem store16_inv (h : s.Inv) (rm : RM16) (v : State → Word) : (store16 rm v s).Inv :=
  writePlace16_inv _ (resolve16_inv s h rm) _ _

/-- Writing the place of an operand from a state with the same registers, memory and map. -/
theorem writePlace16_stored {s u : State} (rm : RM16) (v : Word) (hg : u.gpr = s.gpr) (hm : u.mem = s.mem)
    (hc : u.cfg = s.cfg) : Stored16 rm v s (writePlace16 (resolve16 rm s).1 v u) := by
  cases rm with
  | reg r => exact ⟨setR16_written r v hg, fun a => byteAt_of_mem hm a⟩
  | mem m => exact ⟨(writeWord_gpr _ _ _ _ _).trans hg, writeWord_stored _ _ _ _ hm hc⟩

theorem store16_stored (rm : RM16) (v : State → Word) : Stored16 rm (v (resolve16 rm s).2) s (store16 rm v s) :=
  writePlace16_stored rm _ (resolve16_gpr s rm) (resolve16_mem s rm) (resolve16_cfg s rm)

theorem store16_ordinary (rm : RM16) (v : State → Word) : Ordinary s (store16 rm v s) :=
  ⟨by simp [store16], by simp [store16]⟩

theorem store16_flags (rm : RM16) (v : State → Word) : (store16 rm v s).flags = s.flags := by simp [store16]

theorem store16_lastEa (rm : RM16) (v : State → Word) : (store16 rm v s).lastEa = rm.ea s := by
  simp [store16, resolve16_lastEa]

theorem load16_ordinary (rm : RM16) : Ordinary s (load16 rm s).2 := ⟨by simp, by simp⟩

/-- The state in which an operation runs: its operand is loaded, `k` bytes of an immediate are taken. -/
def loaded16 (k : Nat) (rm : RM16) (s : State) : State := takeBytes k (load16 rm s).2

@[simp] theorem loaded16_gpr (k : Nat) (rm : RM16) : (loaded16 k rm s).gpr = s.gpr :=
  (takeBytes_taken _ k).gpr.trans (load16_gpr s rm)
@[simp] theorem loaded16_flags (k : Nat) (rm : RM16) : (loaded16 k rm s).flags = s.flags :=
  (takeBytes_taken _ k).flags.trans (load16_flags s rm)
@[simp] theorem loaded16_stale (k : Nat) (rm : RM16) : (loaded16 k rm s).stale = s.stale :=
  (takeBytes_taken _ k).stale.trans (load16_stale s rm)
@[simp] theorem loaded16_system (k : Nat) (rm : RM16) : (loaded16 k rm s).system = s.system :=
  (takeBytes_taken _ k).system.trans (load16_system s rm)
@[simp] theorem loaded16_mem (k : Nat) (rm : RM16) : (loaded16 k rm s).mem = s.mem :=
  (takeBytes_taken _ k).mem.trans (load16_mem s rm)
@[simp] theorem loaded16_steps (k : Nat) (rm : RM16) : (loaded16 k rm s).steps = s.steps :=
  congrArg System.steps (loaded16_system s k rm)
@[simp] theorem loaded16_seg (k : Nat) (rm : RM16) : (loaded16 k rm s).seg = s.seg :=
  congrArg System.seg (loaded16_system s k rm)
@[simp] theorem loaded16_dec (k : Nat) (rm : RM16) : (loaded16 k rm s).dec = s.dec :=
  congrArg System.dec (loaded16_system s k rm)
@[simp] theorem loaded16_cfg (k : Nat) (rm : RM16) : (loaded16 k rm s).cfg = s.cfg :=
  congrArg System.cfg (loaded16_system s k rm)
@[simp] theorem loaded16_life (k : Nat) (rm : RM16) : (loaded16 k rm s).life = s.life :=
  congrArg System.life (loaded16_system s k rm)
@[simp] theorem loaded16_halted (k : Nat) (rm : RM16) : (loaded16 k rm s).halted = s.halted :=
  congrArg System.halted (loaded16_system s k rm)
@[simp] theorem loaded16_pins (k : Nat) (rm : RM16) : (loaded16 k rm s).pins = s.pins :=
  congrArg System.pins (loaded16_system s k rm)
@[simp] theorem loaded16_inhibit (k : Nat) (rm : RM16) : (loaded16 k rm s).inhibit = s.inhibit :=
  congrArg System.inhibit (loaded16_system s k rm)
@[simp] theorem loaded16_nmiLatch (k : Nat) (rm : RM16) : (loaded16 k rm s).nmiLatch = s.nmiLatch :=
  congrArg System.nmiLatch (loaded16_system s k rm)
@[simp] theorem loaded16_lock (k : Nat) (rm : RM16) : (loaded16 k rm s).lock = s.lock :=
  congrArg System.lock (loaded16_system s k rm)

theorem loaded16_ip (k : Nat) (rm : RM16) : (loaded16 k rm s).ip = s.ip + BitVec.ofNat 16 k :=
  (takeBytes_taken _ k).ip.trans (by rw [load16_ip])

theorem loaded16_lastEa (k : Nat) (rm : RM16) : (loaded16 k rm s).lastEa = rm.ea s :=
  (takeBytes_taken _ k).lastEa.trans (load16_lastEa s rm)

theorem loaded16_inv (h : s.Inv) (k : Nat) (rm : RM16) : (loaded16 k rm s).Inv := takeBytes_inv _ (load16_inv s h rm) k

/-- `modify` by its parts. -/
theorem modify16_eq (k : Nat) (rm : RM16) (f : Word → State → Option Word × Word) : modify16 k rm f s =
    (match (f (rm.value s) (loaded16 k rm s)).1 with
      | some v => writePlace16 (resolve16 rm s).1 v ((loaded16 k rm s).setFlags (f (rm.value s) (loaded16 k rm s)).2)
      | none => (loaded16 k rm s).setFlags (f (rm.value s) (loaded16 k rm s)).2) := rfl

/-- What `modify` writes, when its function gives a value. -/
theorem modify16_writes (k : Nat) (rm : RM16) (f : Word → State → Option Word × Word) (v : Word)
    (h : (f (rm.value s) (loaded16 k rm s)).1 = some v) : Stored16 rm v s (modify16 k rm f s) := by
  rw [modify16_eq, h]
  exact writePlace16_stored rm v (loaded16_gpr s k rm) (loaded16_mem s k rm) (loaded16_cfg s k rm)

/-- `modify` writes nothing when its function gives no value. -/
theorem modify16_keeps (k : Nat) (rm : RM16) (f : Word → State → Option Word × Word)
    (h : (f (rm.value s) (loaded16 k rm s)).1 = none) : NothingWritten s (modify16 k rm f s) := by
  rw [modify16_eq, h]
  exact ⟨loaded16_gpr s k rm, fun a => byteAt_of_mem (loaded16_mem s k rm) a⟩

theorem modify16_flags (k : Nat) (rm : RM16) (f : Word → State → Option Word × Word) :
    (modify16 k rm f s).flags = (f (rm.value s) (loaded16 k rm s)).2 := by
  rw [modify16_eq]
  split <;> simp

theorem modify16_ordinary (k : Nat) (rm : RM16) (f : Word → State → Option Word × Word) :
    Ordinary (s.past k) (modify16 k rm f s) := by
  rw [modify16_eq]
  refine ⟨?_, ?_⟩
  · show _ = s.ip + BitVec.ofNat 16 k
    split <;> simp [loaded16_ip]
  · show _ = s.system
    split <;> simp

theorem modify16_lastEa (k : Nat) (rm : RM16) (f : Word → State → Option Word × Word) : (modify16 k rm f s).lastEa = rm.ea s := by
  rw [modify16_eq]
  split <;> simp [loaded16_lastEa]

theorem modify16_inv (h : s.Inv) (k : Nat) (rm : RM16) (f : Word → State → Option Word × Word)
    (hf : flagsPinned (f (rm.value s) (loaded16 k rm s)).2 = true) : (modify16 k rm f s).Inv := by
  have hu : ((loaded16 k rm s).setFlags (f (rm.value s) (loaded16 k rm s)).2).Inv := setFlags_inv _ (loaded16_inv s h k rm) _ hf
  rw [modify16_eq]
  split
  · exact writePlace16_inv _ hu _ _
  · exact hu

/-! ### The stack -/

/-- A push from a state with the same registers, memory and map. -/
theorem push16_pushed (v : Word) : Pushed v s (push16 v s) := by
  refine ⟨?_, fun r hr => ?_, ?_⟩
  · show (writeWord _ _ _ _ _).gpr.get .sp = _
    simp [State.r16]
  · have h : (push16 v s).gpr = (s.setR16 .sp (s.r16 .sp - 2)).gpr := writeWord_gpr _ _ _ _ _
    rw [r16_of_gpr h, setR16_r16_ne s .sp r _ (by simpa using hr)]
  · show MemWord _ _ _ _ (writeWord .ss s.seg.ss ((s.setR16 .sp (s.r16 .sp - 2)).r16 .sp) v (s.setR16 .sp (s.r16 .sp - 2)))
    rw [setR16_r16_same]
    exact writeWord_stored _ _ _ _ rfl rfl

@[simp] theorem push16_gpr (v : Word) : (push16 v s).gpr = s.gpr.set .sp (s.r16 .sp - 2) := writeWord_gpr _ _ _ _ _

@[simp] theorem pop16_value : (pop16 s).1 = topWord s := rfl

@[simp] theorem pop16_gpr : (pop16 s).2.gpr = s.gpr.set .sp (s.r16 .sp + 2) := by
  simp [pop16, State.r16]

end Sys2Proof.Machine
end

