-- ==== Sys2Proof/Laws/Effects.lean ====
section
/-! SUPPORT. For each shared operation of the instruction families, one lemma that says everything it can do, in the terms of
Safety.lean. -/
namespace Sys2Proof.Machine
open Sys2Proof

variable (s : State)

/-! ### Operations on an operand -/

theorem past_zero : s.past 0 = s := by simp [State.past, State.setIp]

/-- Everything that `modify` can do: the outcome of its function, IP past the immediate. -/
theorem modify8_modified (k : Nat) (rm : RM8) (f : Byte → State → Option Byte × Word) :
    Modified8 rm (f (rm.value s) (loaded8 k rm s)) (s.past k) (modify8 k rm f s) := by
  refine ⟨?_, modify8_flags s k rm f, modify8_lastEa s k rm f, modify8_ordinary s k rm f⟩
  split
  · next v h => exact modify8_writes s k rm f v h
  · next h => exact modify8_keeps s k rm f h

/-- Everything that `modify` can do: the outcome of its function, IP past the immediate. -/
theorem modify16_modified (k : Nat) (rm : RM16) (f : Word → State → Option Word × Word) :
    Modified16 rm (f (rm.value s) (loaded16 k rm s)) (s.past k) (modify16 k rm f s) := by
  refine ⟨?_, modify16_flags s k rm f, modify16_lastEa s k rm f, modify16_ordinary s k rm f⟩
  split
  · next v h => exact modify16_writes s k rm f v h
  · next h => exact modify16_keeps s k rm f h

/-- An operation that looks only at the operand, the general registers, the flags and the parameters besides. -/
theorem modifyW_late (k : Nat) (rm : RMW) (f8 : Byte → State → Option Byte × Word) (f16 : Word → State → Option Word × Word)
    (h8 : ∀ a (t : State), t.gpr = s.gpr → t.flags = s.flags → t.cfg = s.cfg → f8 a t = f8 a s)
    (h16 : ∀ a (t : State), t.gpr = s.gpr → t.flags = s.flags → t.cfg = s.cfg → f16 a t = f16 a s) :
    ModifiedLateW k rm (fun a => f8 a s) (fun a => f16 a s) s (modifyW k rm f8 f16 s) := by
  cases rm with
  | byte rm =>
    have h := modify8_modified s k rm f8
    rw [h8 _ _ (loaded8_gpr s k rm) (loaded8_flags s k rm) (loaded8_cfg s k rm)] at h
    exact h
  | word rm =>
    have h := modify16_modified s k rm f16
    rw [h16 _ _ (loaded16_gpr s k rm) (loaded16_flags s k rm) (loaded16_cfg s k rm)] at h
    exact h

/-- The same of an operation without an immediate. -/
theorem modifyW_modified (rm : RMW) (f8 : Byte → State → Option Byte × Word) (f16 : Word → State → Option Word × Word)
    (h8 : ∀ a (t : State), t.gpr = s.gpr → t.flags = s.flags → t.cfg = s.cfg → f8 a t = f8 a s)
    (h16 : ∀ a (t : State), t.gpr = s.gpr → t.flags = s.flags → t.cfg = s.cfg → f16 a t = f16 a s) :
    ModifiedW rm (fun a => f8 a s) (fun a => f16 a s) s (modifyW 0 rm f8 f16 s) := by
  have h := modifyW_late s 0 rm f8 f16 h8 h16
  cases rm <;> simpa only [ModifiedLateW, ModifiedW, past_zero] using h

/-! ### Two-operand operations -/

theorem modify8_alu (op : AluOp) (k : Nat) (rm : RM8) (b : Byte) (f : Byte → State → Option Byte × Word)
    (hf : f (rm.value s) (loaded8 k rm s) = aluOut op (rm.value s) b (loaded8 k rm s)) :
    AluEffect8 op rm (rm.value s) b (rm.ea s) (s.past k) (modify8 k rm f s) := by
  refine ⟨fun h => ?_, fun h => ?_, ?_, modify8_lastEa s k rm f, modify8_ordinary s k rm f⟩
  · apply modify8_writes; rw [hf]; simp [aluOut, h, State.past]
  · apply modify8_keeps; rw [hf]; simp [aluOut, h]
  · rw [modify8_flags, hf]; simp [aluOut, aluFlags, State.past]

theorem modify16_alu (op : AluOp) (k : Nat) (rm : RM16) (b : Word) (f : Word → State → Option Word × Word)
    (hf : f (rm.value s) (loaded16 k rm s) = aluOut op (rm.value s) b (loaded16 k rm s)) :
    AluEffect16 op rm (rm.value s) b (rm.ea s) (s.past k) (modify16 k rm f s) := by
  refine ⟨fun h => ?_, fun h => ?_, ?_, modify16_lastEa s k rm f, modify16_ordinary s k rm f⟩
  · apply modify16_writes; rw [hf]; simp [aluOut, h, State.past]
  · apply modify16_keeps; rw [hf]; simp [aluOut, h]
  · rw [modify16_flags, hf]; simp [aluOut, aluFlags, State.past]

theorem aluRmReg8_effect (op : AluOp) (rm : RM8) (r : Reg8) :
    AluEffect8 op rm (rm.value s) (s.r8 r) (rm.ea s) s (aluRmReg8 op rm r s) := by
  have h := modify8_alu s op 0 rm (s.r8 r) (fun a t => aluOut op a (t.r8 r) t) (by rw [r8_of_gpr (loaded8_gpr s 0 rm) r])
  rw [past_zero] at h
  exact h

theorem aluRmReg16_effect (op : AluOp) (rm : RM16) (r : Reg16) :
    AluEffect16 op rm (rm.value s) (s.r16 r) (rm.ea s) s (aluRmReg16 op rm r s) := by
  have h := modify16_alu s op 0 rm (s.r16 r) (fun a t => aluOut op a (t.r16 r) t) (by rw [r16_of_gpr (loaded16_gpr s 0 rm) r])
  rw [past_zero] at h
  exact h

theorem aluRmImm8_effect (op : AluOp) (k : Nat) (rm : RM8) (imm : Byte) :
    AluEffect8 op rm (rm.value s) imm (rm.ea s) (s.past k) (aluRmImm8 op k rm imm s) := modify8_alu s op k rm imm _ rfl

theorem aluRmImm16_effect (op : AluOp) (k : Nat) (rm : RM16) (imm : Word) :
    AluEffect16 op rm (rm.value s) imm (rm.ea s) (s.past k) (aluRmImm16 op k rm imm s) := modify16_alu s op k rm imm _ rfl

/-- A byte register that takes a value in a state with the same registers and memory. -/
theorem setR8_stored {s u : State} (r : Reg8) (v : Byte) (hg : u.gpr = s.gpr) (hm : u.mem = s.mem) :
    Stored8 (.reg r) v s (u.setR8 r v) := ⟨setR8_written r v hg, fun a => byteAt_of_mem hm a⟩

theorem setR16_stored {s u : State} (r : Reg16) (v : Word) (hg : u.gpr = s.gpr) (hm : u.mem = s.mem) :
    Stored16 (.reg r) v s (u.setR16 r v) := ⟨setR16_written r v hg, fun a => byteAt_of_mem hm a⟩

theorem aluRegRm8_effect (op : AluOp) (r : Reg8) (rm : RM8) :
    AluEffect8 op (.reg r) (s.r8 r) (rm.value s) (rm.ea s) s (aluRegRm8 op r rm s) := by
  have hr : (load8 rm s).2.r8 r = s.r8 r := r8_of_gpr (load8_gpr s rm) r
  have e : aluRegRm8 op r rm s =
      (if op.writes = true then
        ((load8 rm s).2.setFlags (aluFlags op (s.r8 r) (rm.value s) s.flags)).setR8 r
          (aluResult op (s.r8 r) (rm.value s) (flagCF s.flags))
       else (load8 rm s).2.setFlags (aluFlags op (s.r8 r) (rm.value s) s.flags)) := by
    unfold aluRegRm8 modify8
    simp only [resolve8, readPlace8, aluOut, takeBytes_zero, hr, load8_flags, writePlace8]
    split <;> simp_all [RM8.value]
  rw [e]
  refine ⟨fun h => ?_, fun h => ?_, ?_, ?_, ?_, ?_⟩
  · rw [if_pos h]; exact setR8_stored r _ (load8_gpr s rm) (load8_mem s rm)
  · rw [h]; exact ⟨load8_gpr s rm, fun a => byteAt_of_mem (load8_mem s rm) a⟩
  · split <;> rfl
  · split <;> exact load8_lastEa s rm
  · split <;> exact load8_ip s rm
  · split <;> exact load8_system s rm

theorem aluRegRm16_effect (op : AluOp) (r : Reg16) (rm : RM16) :
    AluEffect16 op (.reg r) (s.r16 r) (rm.value s) (rm.ea s) s (aluRegRm16 op r rm s) := by
  have hr : (load16 rm s).2.r16 r = s.r16 r := r16_of_gpr (load16_gpr s rm) r
  have e : aluRegRm16 op r rm s =
      (if op.writes = true then
        ((load16 rm s).2.setFlags (aluFlags op (s.r16 r) (rm.value s) s.flags)).setR16 r
          (aluResult op (s.r16 r) (rm.value s) (flagCF s.flags))
       else (load16 rm s).2.setFlags (aluFlags op (s.r16 r) (rm.value s) s.flags)) := by
    unfold aluRegRm16 modify16
    simp only [resolve16, readPlace16, aluOut, takeBytes_zero, hr, load16_flags, writePlace16]
    split <;> simp_all [RM16.value]
  rw [e]
  refine ⟨fun h => ?_, fun h => ?_, ?_, ?_, ?_, ?_⟩
  · rw [if_pos h]; exact setR16_stored r _ (load16_gpr s rm) (load16_mem s rm)
  · rw [h]; exact ⟨load16_gpr s rm, fun a => byteAt_of_mem (load16_mem s rm) a⟩
  · split <;> rfl
  · split <;> exact load16_lastEa s rm
  · split <;> exact load16_ip s rm
  · split <;> exact load16_system s rm

/-! ### Memory as words -/

theorem readByte_memory (acc : Access) (sv off : Word) (h : s.isMemory (lin sv off)) :
    (readByte acc sv off s).1 = s.byteAt (lin sv off) := by
  show (s.prefetch.fetchData _).1 = _
  unfold State.fetchData
  rw [kindAt_of_cfg (prefetch_cfg s)]
  rcases h with h | h <;> rw [h] <;> exact byteAt_of_mem (prefetch_mem s) _

theorem readWord_memory (acc : Access) (sv off : Word) (h : s.wordInMemory sv off) :
    (readWord acc sv off s).1 = s.wordAt sv off := by
  have e1 : ∀ u : State, u.mem = s.mem → u.cfg = s.cfg → (u.fetchData (lin sv (off + 1))).1 = s.byteAt (lin sv (off + 1)) := by
    intro u hm hc
    unfold State.fetchData
    rw [kindAt_of_cfg hc]
    rcases h.2 with h | h <;> rw [h] <;> exact byteAt_of_mem hm _
  have e0 : (s.prefetch.fetchData (lin sv off)).1 = s.byteAt (lin sv off) := readByte_memory s acc sv off h.1
  unfold readWord State.wordAt
  split
  · show wordOf (s.prefetch.fetchData (lin sv off)).1 _ = _
    rw [e0, e1 _ (by simp) (by simp)]
  · show wordOf (s.prefetch.fetchData (lin sv off)).1 ((readByte acc sv off s).2.prefetch.fetchData _).1 = _
    rw [e0, e1 _ (by simp) (by simp)]

theorem wordAt_of_mem {s t : State} (h : t.mem = s.mem) (sv off : Word) : t.wordAt sv off = s.wordAt sv off := by
  simp [State.wordAt, State.byteAt, h]

theorem wordInMemory_of_cfg {s t : State} (h : t.cfg = s.cfg) (sv off : Word) (hm : s.wordInMemory sv off) :
    t.wordInMemory sv off := by
  unfold State.wordInMemory State.isMemory at *
  simp only [kindAt_of_cfg h]
  exact hm

/-- Within one segment value, linear addresses tell offsets apart. -/
theorem lin_inj (sv a b : Word) (h : lin sv a = lin sv b) : a = b := by
  unfold lin at h
  have h1 : a.setWidth 20 = b.setWidth 20 := by simpa using h
  have h2 := congrArg BitVec.toNat h1
  simp only [BitVec.toNat_setWidth] at h2
  apply BitVec.eq_of_toNat_eq
  have := a.isLt
  have := b.isLt
  omega

/-! ### The stack -/

theorem pushedWords_nil : PushedWords [] s s := by
  refine ⟨?_, fun _ _ => rfl, fun _ _ => rfl, fun k v h => by simp at h⟩
  simp

theorem stackBytes_succ (n : Nat) :
    stackBytes s (n + 1) = stackBytes s n ++ [lin s.seg.ss (stackSlot s n), lin s.seg.ss (stackSlot s n + 1)] := by
  simp [stackBytes, List.range_succ, List.flatMap_append]

theorem stackSlot_toNat (k : Nat) : (stackSlot s k).toNat = ((s.r16 .sp).toNat + (65536 - (2 * (k + 1)) % 65536)) % 65536 := by
  simp only [stackSlot, BitVec.toNat_sub, BitVec.toNat_ofNat]
  omega

/-- The slots of fewer than 32768 words do not meet. -/
theorem stackSlot_apart {j k : Nat} (hj : j < k) (hk : k < 32768) :
    lin s.seg.ss (stackSlot s j) ≠ lin s.seg.ss (stackSlot s k) ∧
    lin s.seg.ss (stackSlot s j) ≠ lin s.seg.ss (stackSlot s k + 1) ∧
    lin s.seg.ss (stackSlot s j + 1) ≠ lin s.seg.ss (stackSlot s k) ∧
    lin s.seg.ss (stackSlot s j + 1) ≠ lin s.seg.ss (stackSlot s k + 1) := by
  have hp := (s.r16 .sp).isLt
  have ej := stackSlot_toNat s j
  have ek := stackSlot_toNat s k
  refine ⟨?_, ?_, ?_, ?_⟩ <;>
  · intro h
    have h := congrArg BitVec.toNat (lin_inj _ _ _ h)
    first
    | omega
    | simp only [BitVec.toNat_add, BitVec.reduceToNat] at h; omega

theorem two_mul_succ (n : Nat) : BitVec.ofNat 16 (2 * (n + 1)) = BitVec.ofNat 16 (2 * n) + 2 := by
  rw [Nat.mul_add, BitVec.ofNat_add]
  rfl

/-- One more word is pushed. -/
theorem push16_words {s t : State} {vs : List Word} (v : Word) (h : PushedWords vs s t) (hs : t.seg.ss = s.seg.ss)
    (hc : t.cfg = s.cfg) (hw : Memory.wf s.mem = true → Memory.wf t.mem = true) (hl : vs.length < 32768) :
    PushedWords (vs ++ [v]) s (push16 v t) := by
  obtain ⟨hsp, hr, hm, hv⟩ := h
  obtain ⟨psp, pr, pm, pl, ph⟩ := push16_pushed t v
  have e : t.r16 .sp - 2 = stackSlot s vs.length := by
    rw [hsp, stackSlot, BitVec.sub_sub, ← two_mul_succ]
  rw [hs, e] at pm pl ph
  refine ⟨?_, fun r h => (pr r h).trans (hr r h), fun a ha => ?_, fun k w hk hwf => ?_⟩
  · rw [psp, hsp, BitVec.sub_sub, List.length_append, List.length_singleton, two_mul_succ]
  · rw [List.length_append, List.length_singleton, stackBytes_succ, List.mem_append, not_or] at ha
    exact (pm a ha.2).trans (hm a ha.1)
  · rw [List.getElem?_append] at hk
    split at hk
    · next hlt =>
      obtain ⟨a1, a2, a3, a4⟩ := stackSlot_apart s hlt hl
      obtain ⟨l1, l2⟩ := hv k w hk hwf
      have k1 := pm (lin s.seg.ss (stackSlot s k)) (by rw [List.mem_pair, not_or]; exact ⟨a1, a2⟩)
      have k2 := pm (lin s.seg.ss (stackSlot s k + 1)) (by rw [List.mem_pair, not_or]; exact ⟨a3, a4⟩)
      exact ⟨fun h => k1.trans (l1 h), fun h => k2.trans (l2 h)⟩
    · next hge =>
      have hz : k - vs.length = 0 ∧ w = v := by
        have hk0 : k - vs.length = 0 := by
          by_contra hne
          rw [List.getElem?_eq_none (by simp; omega)] at hk
          simp at hk
        rw [hk0] at hk
        exact ⟨hk0, by simpa using hk.symm⟩
      have hkl : k = vs.length := by omega
      subst hkl
      rw [hz.2]
      have hR : ∀ a, s.isRam a → t.isRam a := fun a h => (kindAt_of_cfg hc a).trans h
      exact ⟨fun h => pl (hw hwf) (hR _ h), fun h => ph (hw hwf) (hR _ h)⟩

theorem push16_wf (v : Word) (h : Memory.wf s.mem = true) : Memory.wf (push16 v s).mem = true :=
  writeWord_wf (s.setR16 .sp (s.r16 .sp - 2)) .ss _ _ _ h

/-! ### Transfers of control -/

@[simp] theorem nearTransfer_gpr (t : Word) : (nearTransfer t s).gpr = s.gpr := by simp [nearTransfer]
@[simp] theorem nearTransfer_flags (t : Word) : (nearTransfer t s).flags = s.flags := by simp [nearTransfer]
@[simp] theorem nearTransfer_lastEa (t : Word) : (nearTransfer t s).lastEa = s.lastEa := by simp [nearTransfer]
@[simp] theorem nearTransfer_mem (t : Word) : (nearTransfer t s).mem = s.mem := by simp [nearTransfer]
@[simp] theorem nearTransfer_system (t : Word) : (nearTransfer t s).system = s.system := by simp [nearTransfer]
@[simp] theorem farTransfer_gpr (sv t : Word) : (farTransfer sv t s).gpr = s.gpr := by simp [farTransfer]
@[simp] theorem farTransfer_flags (sv t : Word) : (farTransfer sv t s).flags = s.flags := by simp [farTransfer]
@[simp] theorem farTransfer_lastEa (sv t : Word) : (farTransfer sv t s).lastEa = s.lastEa := by simp [farTransfer]
@[simp] theorem farTransfer_mem (sv t : Word) : (farTransfer sv t s).mem = s.mem := by simp [farTransfer]
@[simp] theorem farTransfer_system (sv t : Word) : (farTransfer sv t s).system = s.systemCs sv := by
  simp [farTransfer, State.systemCs, Segs.set]

theorem nearTransfer_jumped (t : Word) : Jumped t s (nearTransfer t s) :=
  ⟨⟨rfl, rfl, rfl, rfl, rfl⟩, ⟨nearTransfer_gpr s t, fun a => byteAt_of_mem (nearTransfer_mem s t) a⟩, nearTransfer_flags s t,
    nearTransfer_system s t⟩

theorem farTransfer_jumped (sv t : Word) : JumpedFar sv t s (farTransfer sv t s) :=
  ⟨⟨rfl, rfl, rfl, rfl, rfl⟩, ⟨farTransfer_gpr s sv t, fun a => byteAt_of_mem (farTransfer_mem s sv t) a⟩,
    farTransfer_flags s sv t, farTransfer_system s sv t⟩

end Sys2Proof.Machine
end

