-- ==== Sys2Proof/Laws/Interrupts.lean ====
section
/-! SUPPORT. Taking an interrupt, returning from one, and the boundary check: what each can do, said once. -/
namespace Sys2Proof.Machine
open Sys2Proof

variable (s : State)

/-! ### The INT sequence -/

/-- The offset of a vector in the table (60_exceptions.md R621). -/
theorem vectorOff (n : Byte) : zext16 n <<< 2 = BitVec.ofNat 16 (4 * n.toNat) := by
  apply BitVec.eq_of_toNat_eq
  have := n.isLt
  simp only [zext16, BitVec.toNat_shiftLeft, BitVec.toNat_setWidth, BitVec.toNat_ofNat, Nat.shiftLeft_eq]
  omega

theorem vectorOff_succ (n : Byte) : zext16 n <<< 2 + 2 = BitVec.ofNat 16 (4 * n.toNat + 2) := by
  rw [vectorOff, BitVec.ofNat_add]; rfl

/-- The state in which the vector is read: three words pushed, TF and IF clear. -/
def afterPushes (r : Word) (s : State) : State :=
  push16 r (push16 s.seg.cs ((push16 s.flags s).setFlags (s.flags &&& ~~~(tfMask ||| ifMask))))

theorem interrupt_eq (n : Byte) (r : Word) :
    interrupt n r s =
      let off := readWord .none 0 (zext16 n <<< 2) (afterPushes r s)
      let sv := readWord .none 0 ((zext16 n <<< 2) + 2) off.2
      farTransfer sv.1 off.1 sv.2 := by
  unfold interrupt afterPushes
  have hf : (push16 s.flags s).flags = s.flags := by simp
  have hc : ((push16 s.flags s).setFlags (s.flags &&& ~~~(tfMask ||| ifMask))).seg.cs = s.seg.cs := by simp
  simp only [hf, hc]

theorem afterPushes_words (r : Word) : PushedWords [s.flags, s.seg.cs, r] s (afterPushes r s) := by
  have h1 := push16_words s.flags (pushedWords_nil s) rfl rfl id (by decide)
  have h2 : PushedWords ([] ++ [s.flags]) s ((push16 s.flags s).setFlags (s.flags &&& ~~~(tfMask ||| ifMask))) := h1
  have h3 := push16_words s.seg.cs h2 (by simp) (by simp) (fun h => push16_wf s _ h) (by simp)
  have h4 := push16_words r h3 (by simp) (by simp) (fun h => push16_wf _ _ (push16_wf s _ h)) (by simp)
  exact h4

@[simp] theorem afterPushes_flags (r : Word) : (afterPushes r s).flags = s.flags &&& ~~~(tfMask ||| ifMask) := by
  simp [afterPushes]
@[simp] theorem afterPushes_lastEa (r : Word) : (afterPushes r s).lastEa = s.lastEa := by simp [afterPushes]
@[simp] theorem afterPushes_system (r : Word) : (afterPushes r s).system = s.system := by simp [afterPushes]
@[simp] theorem afterPushes_cfg (r : Word) : (afterPushes r s).cfg = s.cfg := by simp [afterPushes]
@[simp] theorem afterPushes_seg (r : Word) : (afterPushes r s).seg = s.seg := by simp [afterPushes]

theorem systemCs_of_system {s t : State} (h : t.system = s.system) (cs : Word) : t.systemCs cs = s.systemCs cs := by
  unfold State.systemCs
  rw [h, show t.seg = s.seg from congrArg System.seg h]

theorem pushedWords_congr {s t u : State} {vs : List Word} (h : PushedWords vs s t) (hg : u.gpr = t.gpr) (hm : u.mem = t.mem) :
    PushedWords vs s u := by
  obtain ⟨h1, h2, h3, h4⟩ := h
  refine ⟨(r16_of_gpr hg _).trans h1, fun r hr => (r16_of_gpr hg r).trans (h2 r hr), fun a ha => (byteAt_of_mem hm a).trans (h3 a ha), fun k v hk hw => ?_⟩
  rw [byteAt_of_mem hm, byteAt_of_mem hm]
  exact h4 k v hk hw

/-- The INT sequence as 60_exceptions.md R621 describes it. -/
theorem interrupt_entered (n : Byte) (r : Word) :
    Entered n r s.flags s (interrupt n r s) ∧ (interrupt n r s).lastEa = s.lastEa := by
  rw [interrupt_eq]
  refine ⟨⟨?_, ?_, ⟨rfl, rfl, rfl, rfl, rfl⟩, fun h => ?_, fun h => ?_, ?_⟩, ?_⟩
  · exact pushedWords_congr (afterPushes_words s r) (by simp) (by simp)
  · simp
  · show (readWord .none 0 (zext16 n <<< 2) (afterPushes r s)).1 = _
    rw [vectorOff, readWord_memory _ _ _ _ (wordInMemory_of_cfg (by simp) _ _ h)]
    exact (wordAt_of_mem (by simp) _ _).symm
  · show (readWord .none 0 (zext16 n <<< 2 + 2) (readWord .none 0 (zext16 n <<< 2) (afterPushes r s)).2).1 = _
    rw [vectorOff_succ, readWord_memory _ _ _ _ (wordInMemory_of_cfg (by simp) _ _ h)]
    exact (wordAt_of_mem (by simp) _ _).symm
  · simp only [farTransfer_system]
    refine systemCs_of_system (s := s) ?_ _
    simp
  · simp

theorem interrupt_inv (h : s.Inv) (n : Byte) (r : Word) : (interrupt n r s).Inv := by
  rw [interrupt_eq]
  refine farTransfer_inv _ (readWord_inv _ (readWord_inv _ ?_ _ _ _) _ _ _) _ _
  refine push16_inv _ (push16_inv _ (setFlags_inv _ (push16_inv s h _) _ ?_) _) _
  exact flagsPinned_and _ _ (by decide) h.flags

/-- What a change of CS alone leaves alone. -/
theorem Entered.systemIs {n : Byte} {ret fl : Word} {s t : State} (h : Entered n ret fl s t) :
    t.system = s.systemCs t.seg.cs := h.2.2.2.2.2
theorem inhibit_of_systemCs {s t : State} {cs : Word} (h : t.system = s.systemCs cs) : t.inhibit = s.inhibit :=
  congrArg System.inhibit h
theorem nmiLatch_of_systemCs {s t : State} {cs : Word} (h : t.system = s.systemCs cs) : t.nmiLatch = s.nmiLatch :=
  congrArg System.nmiLatch h
theorem lock_of_systemCs {s t : State} {cs : Word} (h : t.system = s.systemCs cs) : t.lock = s.lock :=
  congrArg System.lock h
theorem halted_of_systemCs {s t : State} {cs : Word} (h : t.system = s.systemCs cs) : t.halted = s.halted :=
  congrArg System.halted h
theorem dec_of_systemCs {s t : State} {cs : Word} (h : t.system = s.systemCs cs) : t.dec = s.dec :=
  congrArg System.dec h
theorem life_of_systemCs {s t : State} {cs : Word} (h : t.system = s.systemCs cs) : t.life = s.life :=
  congrArg System.life h
theorem sequences_of_systemCs {s t : State} {cs : Word} (h : t.system = s.systemCs cs) : t.sequences = s.sequences :=
  congrArg System.sequences h
theorem pins_of_systemCs {s t : State} {cs : Word} (h : t.system = s.systemCs cs) : t.pins = s.pins :=
  congrArg System.pins h
theorem latches_of_systemCs {s t : State} {cs : Word} (h : t.system = s.systemCs cs) : t.biu.latches = s.biu.latches :=
  congrArg System.latches h
theorem dma_of_systemCs {s t : State} {cs : Word} (h : t.system = s.systemCs cs) : t.dma = s.dma :=
  congrArg System.dma h
theorem cycles_of_systemCs {s t : State} {cs : Word} (h : t.system = s.systemCs cs) : t.cycles = s.cycles :=
  congrArg System.cycles h
theorem record_of_systemCs {s t : State} {cs : Word} (h : t.system = s.systemCs cs) : t.record = s.record :=
  congrArg System.record h
theorem script_of_systemCs {s t : State} {cs : Word} (h : t.system = s.systemCs cs) : t.script = s.script :=
  congrArg System.script h
theorem cfg_of_systemCs {s t : State} {cs : Word} (h : t.system = s.systemCs cs) : t.cfg = s.cfg :=
  congrArg System.cfg h

/-- The fields that the INT sequence leaves alone. -/
@[simp] theorem interrupt_lastEa (n : Byte) (r : Word) : (interrupt n r s).lastEa = s.lastEa := (interrupt_entered s n r).2
@[simp] theorem interrupt_system (n : Byte) (r : Word) :
    (interrupt n r s).system = s.systemCs (interrupt n r s).seg.cs := (interrupt_entered s n r).1.systemIs
@[simp] theorem interrupt_inhibit (n : Byte) (r : Word) : (interrupt n r s).inhibit = s.inhibit :=
  inhibit_of_systemCs (interrupt_system s n r)
@[simp] theorem interrupt_nmiLatch (n : Byte) (r : Word) : (interrupt n r s).nmiLatch = s.nmiLatch :=
  nmiLatch_of_systemCs (interrupt_system s n r)
@[simp] theorem interrupt_lock (n : Byte) (r : Word) : (interrupt n r s).lock = s.lock :=
  lock_of_systemCs (interrupt_system s n r)
@[simp] theorem interrupt_halted (n : Byte) (r : Word) : (interrupt n r s).halted = s.halted :=
  halted_of_systemCs (interrupt_system s n r)
@[simp] theorem interrupt_dec (n : Byte) (r : Word) : (interrupt n r s).dec = s.dec :=
  dec_of_systemCs (interrupt_system s n r)
@[simp] theorem interrupt_life (n : Byte) (r : Word) : (interrupt n r s).life = s.life :=
  life_of_systemCs (interrupt_system s n r)
@[simp] theorem interrupt_sequences (n : Byte) (r : Word) : (interrupt n r s).sequences = s.sequences :=
  sequences_of_systemCs (interrupt_system s n r)
@[simp] theorem interrupt_pins (n : Byte) (r : Word) : (interrupt n r s).pins = s.pins :=
  pins_of_systemCs (interrupt_system s n r)
@[simp] theorem interrupt_latches (n : Byte) (r : Word) : (interrupt n r s).biu.latches = s.biu.latches :=
  latches_of_systemCs (interrupt_system s n r)
@[simp] theorem interrupt_dma (n : Byte) (r : Word) : (interrupt n r s).dma = s.dma :=
  dma_of_systemCs (interrupt_system s n r)
@[simp] theorem interrupt_cycles (n : Byte) (r : Word) : (interrupt n r s).cycles = s.cycles :=
  cycles_of_systemCs (interrupt_system s n r)
@[simp] theorem interrupt_record (n : Byte) (r : Word) : (interrupt n r s).record = s.record :=
  record_of_systemCs (interrupt_system s n r)
@[simp] theorem interrupt_script (n : Byte) (r : Word) : (interrupt n r s).script = s.script :=
  script_of_systemCs (interrupt_system s n r)
@[simp] theorem interrupt_cfg (n : Byte) (r : Word) : (interrupt n r s).cfg = s.cfg :=
  cfg_of_systemCs (interrupt_system s n r)

/-- An interrupt taken from a state that differs only in what the sequence does not look at. -/
theorem Entered.mono {n : Byte} {ret fl : Word} {s u t : State} (h : Entered n ret fl u t) (hg : u.gpr = s.gpr)
    (hm : u.mem = s.mem) (hsys : u.system = s.system) : Entered n ret fl s t := by
  have hseg : u.seg = s.seg := congrArg System.seg hsys
  have hcfg : u.cfg = s.cfg := congrArg System.cfg hsys
  obtain ⟨⟨h1, h2, h3, h4⟩, hf, hfe, ho, hs, hy⟩ := h
  have hsl : ∀ k, stackSlot u k = stackSlot s k := fun k => by simp [stackSlot, State.r16, hg]
  have hsb : ∀ n, stackBytes u n = stackBytes s n := fun n => by simp [stackBytes, hsl, hseg]
  refine ⟨⟨?_, fun r hr => (h2 r hr).trans (r16_of_gpr hg r), fun a ha => ?_, fun k v hk hw => ?_⟩, hf, hfe, fun h => ?_, fun h => ?_, ?_⟩
  · rw [h1, r16_of_gpr hg]; rfl
  · exact (h3 a (by rw [hsb]; exact ha)).trans (byteAt_of_mem hm a)
  · have := h4 k v (by rw [hseg]; exact hk) (by rw [hm]; exact hw)
    rw [hsl, hseg] at this
    refine ⟨fun h => this.1 ((kindAt_of_cfg hcfg _).trans h), fun h => this.2 ((kindAt_of_cfg hcfg _).trans h)⟩
  · exact ho (wordInMemory_of_cfg hcfg _ _ h)
  · exact hs (wordInMemory_of_cfg hcfg _ _ h)
  · rw [hy]; exact systemCs_of_system hsys _

/-! ### The divide error and the undefined opcode -/

theorem havocFlags_kept (m : Word) : (s.havocFlags m).flags &&& ~~~m = s.flags &&& ~~~m := putFlags_kept _ _ _

/-- A divide error: INT 0, the six status flags free, the offset pushed that of the next instruction or, on the V20/V30, of
either end of the instruction (60_exceptions.md R622, log 17). -/
theorem divideError_entered : ∃ fl ret, fl &&& ~~~statusMask = s.flags &&& ~~~statusMask ∧
    (ret = s.ip ∨ (s.cfg.cpu.isNec = true ∧ ret = s.dec.startIp)) ∧ Entered 0 ret fl s (divideError s) ∧
    (divideError s).lastEa = s.lastEa := by
  by_cases hn : s.cfg.cpu.isNec = true
  · have e : divideError s = interrupt 0
        (if Config.freeBit (s.havocFlags statusMask).draws then s.dec.startIp else s.ip) (s.havocFlags statusMask).bumpDraws := by
      unfold divideError
      rw [if_pos (by simpa using hn)]
      rfl
    have h := interrupt_entered (s.havocFlags statusMask).bumpDraws 0
      (if Config.freeBit (s.havocFlags statusMask).draws then s.dec.startIp else s.ip)
    rw [e]
    refine ⟨_, _, havocFlags_kept s statusMask, ?_, h.1.mono (by simp) (by simp) (by simp), h.2⟩
    split
    · exact .inr ⟨hn, rfl⟩
    · exact .inl rfl
  · have e : divideError s = interrupt 0 s.ip (s.havocFlags statusMask) := by
      unfold divideError
      rw [if_neg (by simpa using hn)]
      rfl
    have h := interrupt_entered (s.havocFlags statusMask) 0 s.ip
    rw [e]
    exact ⟨_, _, havocFlags_kept s statusMask, .inl rfl, h.1.mono (by simp) (by simp) (by simp), h.2⟩

theorem havocFlags_inv (h : s.Inv) (m : Word) (hm : m &&& 0xF02A = 0) : (s.havocFlags m).Inv :=
  (setFlags_inv s h _ (flagsPinned_putFlags _ _ _ hm h.flags)).congr rfl rfl rfl rfl rfl rfl rfl

theorem divideError_inv (h : s.Inv) : (divideError s).Inv := by
  unfold divideError
  have h1 := havocFlags_inv s h statusMask (by decide)
  dsimp only
  split
  · exact interrupt_inv _ (h1.congr (by simp) (by simp) (by simp) (by simp) (by simp) (by simp) (by simp)) _ _
  · exact interrupt_inv _ h1 _ _

/-! ### Returning -/

theorem returnFromInterrupt_inv (h : s.Inv) : (returnFromInterrupt s).Inv := by
  unfold returnFromInterrupt
  exact farTransfer_inv _ (setFlags_inv _ (pop16_inv _ (pop16_inv _ (pop16_inv s h))) _ (by simp)) _ _

/-! ### The boundary check -/

/-! A halt that ends: `halted` is clear, the bus interface unit forgets a Halt cycle that has not begun, and fetching is no longer
halted. -/

@[simp] theorem wake_gpr : s.wake.gpr = s.gpr := rfl
@[simp] theorem wake_seg : s.wake.seg = s.seg := rfl
@[simp] theorem wake_ip : s.wake.ip = s.ip := rfl
@[simp] theorem wake_pc : s.wake.pc = s.pc := rfl
@[simp] theorem wake_flags : s.wake.flags = s.flags := rfl
@[simp] theorem wake_queue : s.wake.queue = s.queue := rfl
@[simp] theorem wake_mem : s.wake.mem = s.mem := rfl
@[simp] theorem wake_cfg : s.wake.cfg = s.cfg := rfl
@[simp] theorem wake_dec : s.wake.dec = s.dec := rfl
@[simp] theorem wake_inhibit : s.wake.inhibit = s.inhibit := rfl
@[simp] theorem wake_nmiLatch : s.wake.nmiLatch = s.nmiLatch := rfl
@[simp] theorem wake_lock : s.wake.lock = s.lock := rfl
@[simp] theorem wake_life : s.wake.life = s.life := rfl
@[simp] theorem wake_sequences : s.wake.sequences = s.sequences := rfl
@[simp] theorem wake_pins : s.wake.pins = s.pins := rfl
@[simp] theorem wake_lastEa : s.wake.lastEa = s.lastEa := rfl
@[simp] theorem wake_demands : s.wake.demands = s.demands := rfl
@[simp] theorem wake_bus : s.wake.bus = s.bus := rfl
@[simp] theorem wake_devIn : s.wake.devIn = s.devIn := rfl
@[simp] theorem wake_dma : s.wake.dma = s.dma := rfl
@[simp] theorem wake_cycles : s.wake.cycles = s.cycles := rfl
@[simp] theorem wake_record : s.wake.record = s.record := rfl
@[simp] theorem wake_script : s.wake.script = s.script := rfl
@[simp] theorem wake_fills : s.wake.fills = s.fills := rfl
@[simp] theorem wake_stale : s.wake.stale = s.stale := rfl
@[simp] theorem wake_steps : s.wake.steps = s.steps := rfl
@[simp] theorem wake_draws : s.wake.draws = s.draws := rfl
@[simp] theorem wake_halted : s.wake.halted = false := rfl
@[simp] theorem wake_fetchState : s.wake.biu.fetchState = s.biu.fetchState.woken := rfl

/-- Once a halt has ended no fetch is barred for it (R631). -/
theorem woken_ne_halted (f : FetchState) : f.woken ≠ .halted := by cases f <;> exact nofun

theorem withdrawHalt_inFlight (b : Biu) : b.withdrawHalt.inFlight ≤ b.inFlight := by
  unfold Biu.withdrawHalt
  split
  · split
    · split
      · exact dropAddressCycle_inFlight b
      · exact Nat.le_refl _
    · exact Nat.le_refl _
  · exact Nat.le_refl _

theorem withdrawHalt_prep (b : Biu) (h : b.withdrawHalt.prep = .fetch) : b.prep = .fetch := by
  unfold Biu.withdrawHalt at h
  split at h
  · split at h
    · split at h
      · exact absurd ((dropAddressCycle_prep b).symm.trans h) (by decide)
      · exact h
    · exact h
  · exact h

/-- Beside the request for the Halt cycle nothing is withdrawn. -/
theorem withdrawHalt_latches (b : Biu) : b.withdrawHalt.latches =
    { b.latches with pending := b.pending.filter fun r => decide (r.kind ≠ .halt) } := by
  unfold Biu.withdrawHalt
  split
  · next r h =>
    split
    · next hk =>
      have e : (b.dropAddressCycle).latches = b.latches := dropAddressCycle_latches b
      have e' : ({ b.dropAddressCycle with pending := none } : Biu).latches = { b.dropAddressCycle.latches with pending := none } := rfl
      rw [h, Option.filter_some]
      simp only [hk, ne_eq, not_true_eq_false, decide_false, Bool.false_eq_true, if_false]
      split
      · rw [e', e]
      · rfl
    · next hk =>
      rw [h, Option.filter_some, if_pos (by simpa using hk), ← h]
      rfl
  · next h => rw [h]; exact congrArg (fun p => ({ b.latches with pending := p } : Biu)) h

theorem wake_inv (h : s.Inv) : s.wake.Inv :=
  (setBiu_inv s h { s.biu.withdrawHalt with fetchState := s.biu.fetchState.woken } (withdrawHalt_inFlight _)
    (withdrawHalt_prep _)).congr rfl rfl rfl rfl rfl rfl rfl

/-! What the check does whatever it accepts. -/

@[simp] theorem endInstr_gpr : (endInstr s).gpr = s.gpr := rfl
@[simp] theorem endInstr_seg : (endInstr s).seg = s.seg := rfl
@[simp] theorem endInstr_ip : (endInstr s).ip = s.ip := rfl
@[simp] theorem endInstr_pc : (endInstr s).pc = s.pc := rfl
@[simp] theorem endInstr_flags : (endInstr s).flags = s.flags := rfl
@[simp] theorem endInstr_queue : (endInstr s).queue = s.queue := rfl
@[simp] theorem endInstr_mem : (endInstr s).mem = s.mem := rfl
@[simp] theorem endInstr_cfg : (endInstr s).cfg = s.cfg := rfl
@[simp] theorem endInstr_nmiLatch : (endInstr s).nmiLatch = s.nmiLatch := rfl
@[simp] theorem endInstr_life : (endInstr s).life = s.life := rfl
@[simp] theorem endInstr_sequences : (endInstr s).sequences = s.sequences := rfl
@[simp] theorem endInstr_pins : (endInstr s).pins = s.pins := rfl
@[simp] theorem endInstr_lastEa : (endInstr s).lastEa = s.lastEa := rfl
@[simp] theorem endInstr_demands : (endInstr s).demands = s.demands := rfl
@[simp] theorem endInstr_bus : (endInstr s).bus = s.bus := rfl
@[simp] theorem endInstr_devIn : (endInstr s).devIn = s.devIn := rfl
@[simp] theorem endInstr_dma : (endInstr s).dma = s.dma := rfl
@[simp] theorem endInstr_cycles : (endInstr s).cycles = s.cycles := rfl
@[simp] theorem endInstr_record : (endInstr s).record = s.record := rfl
@[simp] theorem endInstr_script : (endInstr s).script = s.script := rfl
@[simp] theorem endInstr_fills : (endInstr s).fills = s.fills := rfl
@[simp] theorem endInstr_stale : (endInstr s).stale = s.stale := rfl
@[simp] theorem endInstr_steps : (endInstr s).steps = s.steps := rfl
@[simp] theorem endInstr_draws : (endInstr s).draws = s.draws := rfl
@[simp] theorem endInstr_biu : (endInstr s).biu = s.biu := rfl
@[simp] theorem endInstr_halted : (endInstr s).halted = s.halted := rfl
@[simp] theorem endInstr_inhibit : (endInstr s).inhibit = false := rfl
@[simp] theorem endInstr_lock : (endInstr s).lock = (s.lock && !s.dec.lockPrefix) := rfl
@[simp] theorem endInstr_dec : (endInstr s).dec = DecodeState.clear := rfl

/-- Nothing is accepted without an NMI, an INTR that IF and the inhibit let through, or a trap. -/
theorem accepted_eq_nil : s.accepted = [] ↔
    s.nmiLatch = false ∧ (s.pins.intr && flagIF s.flags && !s.inhibit) = false ∧ s.dec.tfAtStart = false := by
  unfold State.accepted
  cases s.nmiLatch <;> cases (s.pins.intr && flagIF s.flags && !s.inhibit) <;> cases s.dec.tfAtStart <;> simp

theorem checkInterrupts_none (h : s.accepted = []) : checkInterrupts s = enterFetch (endInstr s) := by
  simp only [checkInterrupts, h]

theorem checkInterrupts_some (h : s.accepted ≠ []) :
    checkInterrupts s = (((endInstr s).setNmiLatch false).wake.setLife .checkInterrupts).setSequences s.accepted := by
  unfold checkInterrupts
  cases e : s.accepted with
  | nil => exact absurd e h
  | cons q qs => rfl

/-! The acknowledgement. -/

@[simp] theorem acknowledge_gpr : (acknowledge s).gpr = s.gpr := by simp [acknowledge]
@[simp] theorem acknowledge_seg : (acknowledge s).seg = s.seg := by simp [acknowledge]
@[simp] theorem acknowledge_ip : (acknowledge s).ip = s.ip := by simp [acknowledge]
@[simp] theorem acknowledge_flags : (acknowledge s).flags = s.flags := by simp [acknowledge]
@[simp] theorem acknowledge_mem : (acknowledge s).mem = s.mem := by simp [acknowledge]
@[simp] theorem acknowledge_cfg : (acknowledge s).cfg = s.cfg := by simp [acknowledge]
@[simp] theorem acknowledge_dec : (acknowledge s).dec = s.dec := by simp [acknowledge]
@[simp] theorem acknowledge_inhibit : (acknowledge s).inhibit = s.inhibit := by simp [acknowledge]
@[simp] theorem acknowledge_nmiLatch : (acknowledge s).nmiLatch = s.nmiLatch := by simp [acknowledge]
@[simp] theorem acknowledge_lastEa : (acknowledge s).lastEa = s.lastEa := by simp [acknowledge]
@[simp] theorem acknowledge_life : (acknowledge s).life = s.life := by simp [acknowledge]
@[simp] theorem acknowledge_sequences : (acknowledge s).sequences = s.sequences := by simp [acknowledge]
@[simp] theorem acknowledge_halted : (acknowledge s).halted = s.halted := by simp [acknowledge]
@[simp] theorem acknowledge_dma : (acknowledge s).dma = s.dma := by simp [acknowledge]
@[simp] theorem acknowledge_cycles : (acknowledge s).cycles = s.cycles := by simp [acknowledge]
@[simp] theorem acknowledge_record : (acknowledge s).record = s.record := by simp [acknowledge]
@[simp] theorem acknowledge_script : (acknowledge s).script = s.script := by simp [acknowledge]
@[simp] theorem acknowledge_devIn : (acknowledge s).devIn = s.devIn := by simp [acknowledge]
@[simp] theorem acknowledge_pins : (acknowledge s).pins = { s.pins with intr := false } := by simp [acknowledge]
@[simp] theorem acknowledge_lock : (acknowledge s).lock = false := by simp [acknowledge]
@[simp] theorem acknowledge_system : (acknowledge s).system = { s.system with pins := { s.pins with intr := false }, lock := false } := by
  simp [acknowledge]

/-- The two acknowledge cycles, after the code fetches that come before them. -/
theorem acknowledge_bus : ∃ l, (∀ e ∈ l, e.isFetch = true) ∧
    (acknowledge s).bus = .intAck false (some s.pins.vector) :: .intAck true none :: (l ++ s.bus) := by
  obtain ⟨l, e, hl⟩ := (prefetch_fetched s).bus
  refine ⟨l, hl, ?_⟩
  show BusEvent.intAck false (some s.pins.vector) :: BusEvent.intAck true none :: s.prefetch.bus = _
  rw [e]

theorem acknowledge_grown : Grown s (acknowledge s) := by
  refine (prefetch_grown s).trans ?_
  unfold acknowledge
  exact .of_eq (by simp) (by simp)

theorem acknowledge_inv (h : s.Inv) : (acknowledge s).Inv := by
  have g := prefetch_inv s h
  unfold acknowledge
  exact g.congr (by simp) (by simp) (by simp) (by simp) (by simp) (by simp) (by simp)

/-! One sequence. -/

/-- The vector of a sequence (60_exceptions.md R624, R625, R626). -/
def vectorOf (q : IntSequence) (s : State) : Byte :=
  match q with
  | .nmi => 2
  | .intr => s.pins.vector
  | .singleStep => 1

/-- The state in which the INT sequence of an accepted sequence begins: INTR is acknowledged first. -/
def acknowledged (q : IntSequence) (s : State) : State :=
  match q with
  | .nmi => s
  | .intr => acknowledge s
  | .singleStep => s

theorem sequenceOp_eq (q : IntSequence) : sequenceOp q s = interrupt (vectorOf q s) s.ip (acknowledged q s) := by cases q <;> rfl

@[simp] theorem acknowledged_gpr (q : IntSequence) : (acknowledged q s).gpr = s.gpr := by cases q <;> simp [acknowledged]
@[simp] theorem acknowledged_mem (q : IntSequence) : (acknowledged q s).mem = s.mem := by cases q <;> simp [acknowledged]
@[simp] theorem acknowledged_flags (q : IntSequence) : (acknowledged q s).flags = s.flags := by cases q <;> simp [acknowledged]
@[simp] theorem acknowledged_lastEa (q : IntSequence) : (acknowledged q s).lastEa = s.lastEa := by cases q <;> simp [acknowledged]
@[simp] theorem acknowledged_sequences (q : IntSequence) : (acknowledged q s).sequences = s.sequences := by
  cases q <;> simp [acknowledged]
@[simp] theorem acknowledged_system (q : IntSequence) : (acknowledged q s).system =
    if q = .intr then { s.system with pins := { s.pins with intr := false }, lock := false } else s.system := by
  cases q <;> simp [acknowledged]

theorem acknowledged_inv (q : IntSequence) (h : s.Inv) : (acknowledged q s).Inv := by
  cases q
  · exact h
  · exact acknowledge_inv s h
  · exact h

/-- Everything that an accepted sequence does: the INT sequence of its vector, after the acknowledgement. -/
theorem sequenceOp_entered (q : IntSequence) :
    Entered (vectorOf q s) s.ip s.flags (acknowledged q s) (sequenceOp q s) ∧ (sequenceOp q s).lastEa = s.lastEa := by
  have h := interrupt_entered (acknowledged q s) (vectorOf q s) s.ip
  rw [← sequenceOp_eq, acknowledged_flags, acknowledged_lastEa] at h
  exact h

@[simp] theorem sequenceOp_sequences (q : IntSequence) : (sequenceOp q s).sequences = s.sequences := by
  simp [sequenceOp_eq]

theorem sequenceOp_inv (q : IntSequence) (h : s.Inv) : (sequenceOp q s).Inv := by
  rw [sequenceOp_eq]
  exact interrupt_inv _ (acknowledged_inv s q h) _ _

theorem enterFetch_inv (h : s.Inv) : (enterFetch s).Inv := by
  unfold enterFetch
  split
  · exact h.congr rfl rfl rfl rfl rfl rfl rfl
  · exact h.congr rfl rfl rfl rfl rfl rfl rfl

@[simp] theorem enterFetch_sequences : (enterFetch s).sequences = s.sequences := by
  unfold enterFetch; split <;> rfl

@[simp] theorem runSequence_sequences (q : IntSequence) (rest : List IntSequence) : (runSequence q rest s).sequences = rest := by
  cases rest <;> simp [runSequence]

theorem runSequence_inv (q : IntSequence) (rest : List IntSequence) (h : s.Inv) : (runSequence q rest s).Inv := by
  have g := sequenceOp_inv (s.setSequences rest) q (h.congr rfl rfl rfl rfl rfl rfl rfl)
  cases rest with
  | nil => exact enterFetch_inv _ g
  | cons _ _ => exact g

theorem checkInterrupts_inv (h : s.Inv) : (checkInterrupts s).Inv := by
  have e : (endInstr s).Inv := h.congr rfl rfl rfl rfl rfl rfl rfl
  unfold checkInterrupts
  split
  · exact enterFetch_inv _ e
  · exact (wake_inv ((endInstr s).setNmiLatch false) (e.congr rfl rfl rfl rfl rfl rfl rfl)).congr rfl rfl rfl rfl rfl rfl rfl

end Sys2Proof.Machine
end

