-- ==== Sys2Proof/Laws/Step.lean ====
section
/-! SUPPORT. The steps of the EU: which of its cases a state takes, said once. -/
namespace Sys2Proof.Machine
open Sys2Proof Host

variable (s : State)

/-! ### After a meaning -/

theorem finish_boundary (more : State → Host.Outcome State Fault Refusal) {t : State} (h : t.life = .checkInterrupts) :
    finish more (.next t) = .next (checkInterrupts t) := by simp [finish, h]

theorem finish_prefix (more : State → Host.Outcome State Fault Refusal) {t : State} (h : t.life = .decodePrefix) :
    finish more (.next t) = more t := by simp [finish, h]

theorem finish_goesOn (more : State → Host.Outcome State Fault Refusal) {t : State} (h : t.life ≠ .checkInterrupts)
    (h' : t.life ≠ .decodePrefix) : finish more (.next t) = .next t := by simp [finish, h, h']

/-- An instruction under way is not followed by more of its bytes. -/
theorem finish_next (t : State) :
    finish .next (.next t) = .next (if t.life = .checkInterrupts then checkInterrupts t else t) := by
  by_cases h : t.life = .checkInterrupts
  · simp [finish, h]
  · simp [finish, h]

/-- Everything that a meaning and what follows it can come to: no fault is added. -/
theorem finish_fault {more : State → Host.Outcome State Fault Refusal} {o : Host.Outcome State Fault Refusal} {f : Fault}
    (h : finish more o = .fault f) : o = .fault f ∨ ∃ t, o = .next t ∧ more t = .fault f := by
  cases o with
  | next t =>
    by_cases h1 : t.life = .checkInterrupts
    · rw [finish_boundary more h1] at h
      cases h
    · by_cases h2 : t.life = .decodePrefix
      · exact .inr ⟨t, rfl, (finish_prefix more h2).symm.trans h⟩
      · rw [finish_goesOn more h1 h2] at h
        cases h
  | fault g => exact .inl h
  | refused r => cases h

/-! ### Fetching -/

theorem fetchExec_ok {i : Instr} {rest : List Byte} (n : Nat) (h : decode s.cfg.cpu s.window = .ok i rest) :
    fetchExec (n + 1) s = finish (fetchExec n) (exec i (readyToExec i (maxInstrBytes - rest.length) s)) := by
  rw [fetchExec, h]

/-! ### The cases of a step -/

theorem haltCheck_running (h : s.halted = false) : haltCheck s = s := by simp [haltCheck, h]

theorem haltCheck_waiting (h : s.sequences ≠ []) : haltCheck s = s := by simp [haltCheck, h]

theorem haltCheck_halted (h : s.halted = true) (hs : s.sequences = []) : haltCheck s = checkInterrupts s := by
  simp [haltCheck, h, hs]

theorem haltCheck_inv (h : s.Inv) : (haltCheck s).Inv := by
  unfold haltCheck
  split
  · exact checkInterrupts_inv s h
  · exact h

/-- An accepted sequence comes before anything else. -/
theorem euStep_sequence {q : IntSequence} {rest : List IntSequence} (h : s.sequences = q :: rest) :
    euStep s = .next (runSequence q rest (beginStep s)) := by
  unfold euStep
  rw [haltCheck_waiting s (by simp [h])]
  simp only [h]

/-- With none, and not halted, the EU runs instructions. -/
theorem euStep_running (h : s.halted = false) (hs : s.sequences = []) : euStep s = runNext s := by
  unfold euStep
  rw [haltCheck_running s h]
  simp [hs, h]

end Sys2Proof.Machine
end

