-- ==== Sys2Proof/Laws/Tick.lean ====
section
/-! SUPPORT. One clock tick: the fields that each of its parts leaves alone, and the fields of the whole. -/
namespace Sys2Proof.Machine
open Sys2Proof

variable (s : State) (act a : EuAct) (inp : BusIn) (hold : Bool)

/-- `IO_ADDR_BITS` is 16: a port is the low word of the latch. -/
@[simp] theorem portOf_eq (a : BitVec 20) : s.portOf a = a.setWidth 16 := by
  apply BitVec.eq_of_toNat_eq
  unfold State.portOf
  cases s.cfg.ioAddrBits
  simp [IoAddrBits.bits]

/-! ### The EU's part -/

@[simp] theorem discardFetch_tState (b : Biu) : b.discardFetch.tState = b.tState := by unfold Biu.discardFetch; split <;> rfl
@[simp] theorem discardFetch_ta (b : Biu) : b.discardFetch.ta = b.ta := by unfold Biu.discardFetch; split <;> rfl
@[simp] theorem discardFetch_busWait (b : Biu) : b.discardFetch.busWait = b.busWait := by unfold Biu.discardFetch; split <;> rfl
@[simp] theorem discardFetch_ioWait (b : Biu) : b.discardFetch.ioWait = b.ioWait := by unfold Biu.discardFetch; split <;> rfl
@[simp] theorem discardFetch_dmaWait (b : Biu) : b.discardFetch.dmaWait = b.dmaWait := by unfold Biu.discardFetch; split <;> rfl
@[simp] theorem discardFetch_queueByte (b : Biu) : b.discardFetch.queueByte = b.queueByte := by unfold Biu.discardFetch; split <;> rfl

/-! A pop (`State.popByte`), field by field. -/

@[simp] theorem popByte_gpr : s.popByte.gpr = s.gpr := rfl
@[simp] theorem popByte_seg : s.popByte.seg = s.seg := rfl
@[simp] theorem popByte_pc : s.popByte.pc = s.pc := rfl
@[simp] theorem popByte_flags : s.popByte.flags = s.flags := rfl
@[simp] theorem popByte_lastEa : s.popByte.lastEa = s.lastEa := rfl
@[simp] theorem popByte_eaOpr : s.popByte.eaOpr = s.eaOpr := rfl
@[simp] theorem popByte_inhibit : s.popByte.inhibit = s.inhibit := rfl
@[simp] theorem popByte_nmiLatch : s.popByte.nmiLatch = s.nmiLatch := rfl
@[simp] theorem popByte_lock : s.popByte.lock = s.lock := rfl
@[simp] theorem popByte_halted : s.popByte.halted = s.halted := rfl
@[simp] theorem popByte_dec : s.popByte.dec = s.dec := rfl
@[simp] theorem popByte_life : s.popByte.life = s.life := rfl
@[simp] theorem popByte_sequences : s.popByte.sequences = s.sequences := rfl
@[simp] theorem popByte_pins : s.popByte.pins = s.pins := rfl
@[simp] theorem popByte_dma : s.popByte.dma = s.dma := rfl
@[simp] theorem popByte_cycles : s.popByte.cycles = s.cycles := rfl
@[simp] theorem popByte_record : s.popByte.record = s.record := rfl
@[simp] theorem popByte_mem : s.popByte.mem = s.mem := rfl
@[simp] theorem popByte_bus : s.popByte.bus = s.bus := rfl
@[simp] theorem popByte_devIn : s.popByte.devIn = s.devIn := rfl
@[simp] theorem popByte_script : s.popByte.script = s.script := rfl
@[simp] theorem popByte_fills : s.popByte.fills = s.fills := rfl
@[simp] theorem popByte_stale : s.popByte.stale = s.stale := rfl
@[simp] theorem popByte_steps : s.popByte.steps = s.steps := rfl
@[simp] theorem popByte_draws : s.popByte.draws = s.draws := rfl
@[simp] theorem popByte_cfg : s.popByte.cfg = s.cfg := rfl
@[simp] theorem popByte_tState : s.popByte.biu.tState = s.biu.tState := rfl
@[simp] theorem popByte_ta : s.popByte.biu.ta = s.biu.ta := rfl
@[simp] theorem popByte_busState : s.popByte.biu.busState = s.biu.busState := rfl
@[simp] theorem popByte_cycle : s.popByte.biu.cycle = s.biu.cycle := rfl
@[simp] theorem popByte_pending : s.popByte.biu.pending = s.biu.pending := rfl
@[simp] theorem popByte_prep : s.popByte.biu.prep = s.biu.prep := rfl
@[simp] theorem popByte_busWait : s.popByte.biu.busWait = s.biu.busWait := rfl
@[simp] theorem popByte_ioWait : s.popByte.biu.ioWait = s.biu.ioWait := rfl
@[simp] theorem popByte_dmaWait : s.popByte.biu.dmaWait = s.biu.dmaWait := rfl
@[simp] theorem popByte_queueOp : s.popByte.biu.queueOp = s.biu.queueOp := rfl
@[simp] theorem popByte_queueByte : s.popByte.biu.queueByte = s.biu.queueByte := rfl
@[simp] theorem popByte_queue : s.popByte.queue = s.queue.tail := rfl
@[simp] theorem popByte_ip : s.popByte.ip = s.ip + 1 := rfl
@[simp] theorem popByte_nextIsFirst : s.popByte.nextIsFirst = false := rfl
@[simp] theorem popByte_queueRead : s.popByte.biu.queueRead = false := rfl

@[simp] theorem syncFetch_tState : s.syncFetch.biu.tState = s.biu.tState := rfl
@[simp] theorem syncFetch_ta : s.syncFetch.biu.ta = s.biu.ta := rfl
@[simp] theorem syncFetch_busWait : s.syncFetch.biu.busWait = s.biu.busWait := rfl
@[simp] theorem syncFetch_ioWait : s.syncFetch.biu.ioWait = s.biu.ioWait := rfl
@[simp] theorem syncFetch_dmaWait : s.syncFetch.biu.dmaWait = s.biu.dmaWait := rfl
@[simp] theorem syncFetch_queueOp : s.syncFetch.biu.queueOp = s.biu.queueOp := rfl
@[simp] theorem syncFetch_queueByte : s.syncFetch.biu.queueByte = s.biu.queueByte := rfl
@[simp] theorem syncFetch_dma : s.syncFetch.dma = s.dma := rfl
@[simp] theorem syncFetch_cycles : s.syncFetch.cycles = s.cycles := rfl

@[simp] theorem popQueue_gpr : (popQueue s).gpr = s.gpr := by
  unfold popQueue; split <;> rfl
@[simp] theorem popQueue_flags : (popQueue s).flags = s.flags := by
  unfold popQueue; split <;> rfl
@[simp] theorem popQueue_lastEa : (popQueue s).lastEa = s.lastEa := by
  unfold popQueue; split <;> rfl
@[simp] theorem popQueue_eaOpr : (popQueue s).eaOpr = s.eaOpr := by
  unfold popQueue; split <;> rfl
@[simp] theorem popQueue_inhibit : (popQueue s).inhibit = s.inhibit := by
  unfold popQueue; split <;> rfl
@[simp] theorem popQueue_nmiLatch : (popQueue s).nmiLatch = s.nmiLatch := by
  unfold popQueue; split <;> rfl
@[simp] theorem popQueue_halted : (popQueue s).halted = s.halted := by
  unfold popQueue; split <;> rfl
@[simp] theorem popQueue_dec : (popQueue s).dec = s.dec := by
  unfold popQueue; split <;> rfl
@[simp] theorem popQueue_life : (popQueue s).life = s.life := by
  unfold popQueue; split <;> rfl
@[simp] theorem popQueue_sequences : (popQueue s).sequences = s.sequences := by
  unfold popQueue; split <;> rfl
@[simp] theorem popQueue_pins : (popQueue s).pins = s.pins := by
  unfold popQueue; split <;> rfl
@[simp] theorem popQueue_cfg : (popQueue s).cfg = s.cfg := by
  unfold popQueue; split <;> rfl
@[simp] theorem popQueue_script : (popQueue s).script = s.script := by
  unfold popQueue; split <;> rfl
@[simp] theorem popQueue_fills : (popQueue s).fills = s.fills := by
  unfold popQueue; split <;> rfl
@[simp] theorem popQueue_steps : (popQueue s).steps = s.steps := by
  unfold popQueue; split <;> rfl
@[simp] theorem popQueue_devIn : (popQueue s).devIn = s.devIn := by
  unfold popQueue; split <;> rfl
@[simp] theorem popQueue_draws : (popQueue s).draws = s.draws := by
  unfold popQueue; split <;> rfl
@[simp] theorem popQueue_cycles : (popQueue s).cycles = s.cycles := by
  unfold popQueue; split <;> rfl
@[simp] theorem popQueue_record : (popQueue s).record = s.record := by
  unfold popQueue; split <;> rfl
@[simp] theorem popQueue_dma : (popQueue s).dma = s.dma := by
  unfold popQueue; split <;> rfl
@[simp] theorem popQueue_mem : (popQueue s).mem = s.mem := by
  unfold popQueue; split <;> rfl
@[simp] theorem popQueue_bus : (popQueue s).bus = s.bus := by
  unfold popQueue; split <;> rfl
@[simp] theorem popQueue_seg : (popQueue s).seg = s.seg := by
  unfold popQueue; split <;> rfl
@[simp] theorem popQueue_lock : (popQueue s).lock = s.lock := by
  unfold popQueue; split <;> rfl
@[simp] theorem popQueue_pc : (popQueue s).pc = s.pc := by
  unfold popQueue; split <;> rfl
@[simp] theorem popQueue_tState : (popQueue s).biu.tState = s.biu.tState := by
  unfold popQueue; split <;> rfl
@[simp] theorem popQueue_ta : (popQueue s).biu.ta = s.biu.ta := by
  unfold popQueue; split <;> rfl
@[simp] theorem popQueue_busWait : (popQueue s).biu.busWait = s.biu.busWait := by
  unfold popQueue; split <;> rfl
@[simp] theorem popQueue_ioWait : (popQueue s).biu.ioWait = s.biu.ioWait := by
  unfold popQueue; split <;> rfl
@[simp] theorem popQueue_dmaWait : (popQueue s).biu.dmaWait = s.biu.dmaWait := by
  unfold popQueue; split <;> rfl
@[simp] theorem popQueue_busState : (popQueue s).biu.busState = s.biu.busState := by
  unfold popQueue; split <;> rfl
@[simp] theorem popQueue_cycle : (popQueue s).biu.cycle = s.biu.cycle := by
  unfold popQueue; split <;> rfl
@[simp] theorem popQueue_pending : (popQueue s).biu.pending = s.biu.pending := by
  unfold popQueue; split <;> rfl
@[simp] theorem popQueue_prep : (popQueue s).biu.prep = s.biu.prep := by
  unfold popQueue; split <;> rfl
@[simp] theorem euActs_gpr : (euActs a s).gpr = s.gpr := by
  cases a <;> first | rfl | exact popQueue_gpr s | exact popQueue_gpr (s.setNextIsFirst true) | (simp [euActs]; done) | (unfold euActs; split <;> rfl) | (unfold euActs; simp only []; split <;> rfl)
@[simp] theorem euActs_flags : (euActs a s).flags = s.flags := by
  cases a <;> first | rfl | exact popQueue_flags s | exact popQueue_flags (s.setNextIsFirst true) | (simp [euActs]; done) | (unfold euActs; split <;> rfl) | (unfold euActs; simp only []; split <;> rfl)
@[simp] theorem euActs_lastEa : (euActs a s).lastEa = s.lastEa := by
  cases a <;> first | rfl | exact popQueue_lastEa s | exact popQueue_lastEa (s.setNextIsFirst true) | (simp [euActs]; done) | (unfold euActs; split <;> rfl) | (unfold euActs; simp only []; split <;> rfl)
@[simp] theorem euActs_eaOpr : (euActs a s).eaOpr = s.eaOpr := by
  cases a <;> first | rfl | exact popQueue_eaOpr s | exact popQueue_eaOpr (s.setNextIsFirst true) | (simp [euActs]; done) | (unfold euActs; split <;> rfl) | (unfold euActs; simp only []; split <;> rfl)
@[simp] theorem euActs_inhibit : (euActs a s).inhibit = s.inhibit := by
  cases a <;> first | rfl | exact popQueue_inhibit s | exact popQueue_inhibit (s.setNextIsFirst true) | (simp [euActs]; done) | (unfold euActs; split <;> rfl) | (unfold euActs; simp only []; split <;> rfl)
@[simp] theorem euActs_nmiLatch : (euActs a s).nmiLatch = s.nmiLatch := by
  cases a <;> first | rfl | exact popQueue_nmiLatch s | exact popQueue_nmiLatch (s.setNextIsFirst true) | (simp [euActs]; done) | (unfold euActs; split <;> rfl) | (unfold euActs; simp only []; split <;> rfl)
@[simp] theorem euActs_halted : (euActs a s).halted = s.halted := by
  cases a <;> first | rfl | exact popQueue_halted s | exact popQueue_halted (s.setNextIsFirst true) | (simp [euActs]; done) | (unfold euActs; split <;> rfl) | (unfold euActs; simp only []; split <;> rfl)
@[simp] theorem euActs_dec : (euActs a s).dec = s.dec := by
  cases a <;> first | rfl | exact popQueue_dec s | exact popQueue_dec (s.setNextIsFirst true) | (simp [euActs]; done) | (unfold euActs; split <;> rfl) | (unfold euActs; simp only []; split <;> rfl)
@[simp] theorem euActs_life : (euActs a s).life = s.life := by
  cases a <;> first | rfl | exact popQueue_life s | exact popQueue_life (s.setNextIsFirst true) | (simp [euActs]; done) | (unfold euActs; split <;> rfl) | (unfold euActs; simp only []; split <;> rfl)
@[simp] theorem euActs_sequences : (euActs a s).sequences = s.sequences := by
  cases a <;> first | rfl | exact popQueue_sequences s | exact popQueue_sequences (s.setNextIsFirst true) | (simp [euActs]; done) | (unfold euActs; split <;> rfl) | (unfold euActs; simp only []; split <;> rfl)
@[simp] theorem euActs_pins : (euActs a s).pins = s.pins := by
  cases a <;> first | rfl | exact popQueue_pins s | exact popQueue_pins (s.setNextIsFirst true) | (simp [euActs]; done) | (unfold euActs; split <;> rfl) | (unfold euActs; simp only []; split <;> rfl)
@[simp] theorem euActs_cfg : (euActs a s).cfg = s.cfg := by
  cases a <;> first | rfl | exact popQueue_cfg s | exact popQueue_cfg (s.setNextIsFirst true) | (simp [euActs]; done) | (unfold euActs; split <;> rfl) | (unfold euActs; simp only []; split <;> rfl)
@[simp] theorem euActs_script : (euActs a s).script = s.script := by
  cases a <;> first | rfl | exact popQueue_script s | exact popQueue_script (s.setNextIsFirst true) | (simp [euActs]; done) | (unfold euActs; split <;> rfl) | (unfold euActs; simp only []; split <;> rfl)
@[simp] theorem euActs_fills : (euActs a s).fills = s.fills := by
  cases a <;> first | rfl | exact popQueue_fills s | exact popQueue_fills (s.setNextIsFirst true) | (simp [euActs]; done) | (unfold euActs; split <;> rfl) | (unfold euActs; simp only []; split <;> rfl)
@[simp] theorem euActs_steps : (euActs a s).steps = s.steps := by
  cases a <;> first | rfl | exact popQueue_steps s | exact popQueue_steps (s.setNextIsFirst true) | (simp [euActs]; done) | (unfold euActs; split <;> rfl) | (unfold euActs; simp only []; split <;> rfl)
@[simp] theorem euActs_devIn : (euActs a s).devIn = s.devIn := by
  cases a <;> first | rfl | exact popQueue_devIn s | exact popQueue_devIn (s.setNextIsFirst true) | (simp [euActs]; done) | (unfold euActs; split <;> rfl) | (unfold euActs; simp only []; split <;> rfl)
@[simp] theorem euActs_draws : (euActs a s).draws = s.draws := by
  cases a <;> first | rfl | exact popQueue_draws s | exact popQueue_draws (s.setNextIsFirst true) | (simp [euActs]; done) | (unfold euActs; split <;> rfl) | (unfold euActs; simp only []; split <;> rfl)
@[simp] theorem euActs_cycles : (euActs a s).cycles = s.cycles := by
  cases a <;> first | rfl | exact popQueue_cycles s | exact popQueue_cycles (s.setNextIsFirst true) | (simp [euActs]; done) | (unfold euActs; split <;> rfl) | (unfold euActs; simp only []; split <;> rfl)
@[simp] theorem euActs_record : (euActs a s).record = s.record := by
  cases a <;> first | rfl | exact popQueue_record s | exact popQueue_record (s.setNextIsFirst true) | (simp [euActs]; done) | (unfold euActs; split <;> rfl) | (unfold euActs; simp only []; split <;> rfl)
@[simp] theorem euActs_dma : (euActs a s).dma = s.dma := by
  cases a <;> first | rfl | exact popQueue_dma s | exact popQueue_dma (s.setNextIsFirst true) | (simp [euActs]; done) | (unfold euActs; split <;> rfl) | (unfold euActs; simp only []; split <;> rfl)
@[simp] theorem euActs_mem : (euActs a s).mem = s.mem := by
  cases a <;> first | rfl | exact popQueue_mem s | exact popQueue_mem (s.setNextIsFirst true) | (simp [euActs]; done) | (unfold euActs; split <;> rfl) | (unfold euActs; simp only []; split <;> rfl)
@[simp] theorem euActs_bus : (euActs a s).bus = s.bus := by
  cases a <;> first | rfl | exact popQueue_bus s | exact popQueue_bus (s.setNextIsFirst true) | (simp [euActs]; done) | (unfold euActs; split <;> rfl) | (unfold euActs; simp only []; split <;> rfl)
@[simp] theorem euActs_tState : (euActs a s).biu.tState = s.biu.tState := by
  cases a <;> first | rfl | exact discardFetch_tState s.biu | exact popQueue_tState s | exact popQueue_tState (s.setNextIsFirst true) | (simp [euActs]; done) | (unfold euActs; split <;> rfl) | (unfold euActs; simp only []; split <;> rfl)
@[simp] theorem euActs_ta : (euActs a s).biu.ta = s.biu.ta := by
  cases a <;> first | rfl | exact discardFetch_ta s.biu | exact popQueue_ta s | exact popQueue_ta (s.setNextIsFirst true) | (simp [euActs]; done) | (unfold euActs; split <;> rfl) | (unfold euActs; simp only []; split <;> rfl)
@[simp] theorem euActs_busWait : (euActs a s).biu.busWait = s.biu.busWait := by
  cases a <;> first | rfl | exact discardFetch_busWait s.biu | exact popQueue_busWait s | exact popQueue_busWait (s.setNextIsFirst true) | (simp [euActs]; done) | (unfold euActs; split <;> rfl) | (unfold euActs; simp only []; split <;> rfl)
@[simp] theorem euActs_ioWait : (euActs a s).biu.ioWait = s.biu.ioWait := by
  cases a <;> first | rfl | exact discardFetch_ioWait s.biu | exact popQueue_ioWait s | exact popQueue_ioWait (s.setNextIsFirst true) | (simp [euActs]; done) | (unfold euActs; split <;> rfl) | (unfold euActs; simp only []; split <;> rfl)
@[simp] theorem euActs_dmaWait : (euActs a s).biu.dmaWait = s.biu.dmaWait := by
  cases a <;> first | rfl | exact discardFetch_dmaWait s.biu | exact popQueue_dmaWait s | exact popQueue_dmaWait (s.setNextIsFirst true) | (simp [euActs]; done) | (unfold euActs; split <;> rfl) | (unfold euActs; simp only []; split <;> rfl)

/-! ### Steps 1 and 2 -/

@[simp] theorem storeData_script (x : BitVec 20) (v : Byte) : (s.storeData x v).script = s.script :=
  congrArg System.script (storeData_system s x v)
@[simp] theorem storeData_dma (x : BitVec 20) (v : Byte) : (s.storeData x v).dma = s.dma :=
  congrArg System.dma (storeData_system s x v)
@[simp] theorem storeData_cycles (x : BitVec 20) (v : Byte) : (s.storeData x v).cycles = s.cycles :=
  congrArg System.cycles (storeData_system s x v)
@[simp] theorem storeData_record (x : BitVec 20) (v : Byte) : (s.storeData x v).record = s.record :=
  congrArg System.record (storeData_system s x v)
@[simp] theorem storeData_sequences (x : BitVec 20) (v : Byte) : (s.storeData x v).sequences = s.sequences :=
  congrArg System.sequences (storeData_system s x v)
@[simp] theorem startEu_gpr (r : BusReq) : (startEu r s).gpr = s.gpr := by
  unfold startEu; simp only []; split <;> [rfl; (split <;> rfl)]
@[simp] theorem actionT1_gpr : (actionT1 s).gpr = s.gpr := by
  unfold actionT1; split <;> first | rfl | exact startEu_gpr s _
@[simp] theorem actionT2_gpr : (actionT2 s).gpr = s.gpr := by
  unfold actionT2; split <;> [(split <;> rfl); rfl]
@[simp] theorem callIoRead_gpr : (callIoRead inp s).gpr = s.gpr := by
  unfold callIoRead; split <;> rfl
@[simp] theorem startEu_seg (r : BusReq) : (startEu r s).seg = s.seg := by
  unfold startEu; simp only []; split <;> [rfl; (split <;> rfl)]
@[simp] theorem actionT1_seg : (actionT1 s).seg = s.seg := by
  unfold actionT1; split <;> first | rfl | exact startEu_seg s _
@[simp] theorem actionT2_seg : (actionT2 s).seg = s.seg := by
  unfold actionT2; split <;> [(split <;> rfl); rfl]
@[simp] theorem callIoRead_seg : (callIoRead inp s).seg = s.seg := by
  unfold callIoRead; split <;> rfl
@[simp] theorem startEu_ip (r : BusReq) : (startEu r s).ip = s.ip := by
  unfold startEu; simp only []; split <;> [rfl; (split <;> rfl)]
@[simp] theorem actionT1_ip : (actionT1 s).ip = s.ip := by
  unfold actionT1; split <;> first | rfl | exact startEu_ip s _
@[simp] theorem actionT2_ip : (actionT2 s).ip = s.ip := by
  unfold actionT2; split <;> [(split <;> rfl); rfl]
@[simp] theorem callIoRead_ip : (callIoRead inp s).ip = s.ip := by
  unfold callIoRead; split <;> rfl
@[simp] theorem startEu_flags (r : BusReq) : (startEu r s).flags = s.flags := by
  unfold startEu; simp only []; split <;> [rfl; (split <;> rfl)]
@[simp] theorem actionT1_flags : (actionT1 s).flags = s.flags := by
  unfold actionT1; split <;> first | rfl | exact startEu_flags s _
@[simp] theorem actionT2_flags : (actionT2 s).flags = s.flags := by
  unfold actionT2; split <;> [(split <;> rfl); rfl]
@[simp] theorem callIoRead_flags : (callIoRead inp s).flags = s.flags := by
  unfold callIoRead; split <;> rfl
@[simp] theorem startEu_lastEa (r : BusReq) : (startEu r s).lastEa = s.lastEa := by
  unfold startEu; simp only []; split <;> [rfl; (split <;> rfl)]
@[simp] theorem actionT1_lastEa : (actionT1 s).lastEa = s.lastEa := by
  unfold actionT1; split <;> first | rfl | exact startEu_lastEa s _
@[simp] theorem actionT2_lastEa : (actionT2 s).lastEa = s.lastEa := by
  unfold actionT2; split <;> [(split <;> rfl); rfl]
@[simp] theorem callIoRead_lastEa : (callIoRead inp s).lastEa = s.lastEa := by
  unfold callIoRead; split <;> rfl
@[simp] theorem startEu_eaOpr (r : BusReq) : (startEu r s).eaOpr = s.eaOpr := by
  unfold startEu; simp only []; split <;> [rfl; (split <;> rfl)]
@[simp] theorem actionT1_eaOpr : (actionT1 s).eaOpr = s.eaOpr := by
  unfold actionT1; split <;> first | rfl | exact startEu_eaOpr s _
@[simp] theorem actionT2_eaOpr : (actionT2 s).eaOpr = s.eaOpr := by
  unfold actionT2; split <;> [(split <;> rfl); rfl]
@[simp] theorem callIoRead_eaOpr : (callIoRead inp s).eaOpr = s.eaOpr := by
  unfold callIoRead; split <;> rfl
@[simp] theorem startEu_inhibit (r : BusReq) : (startEu r s).inhibit = s.inhibit := by
  unfold startEu; simp only []; split <;> [rfl; (split <;> rfl)]
@[simp] theorem actionT1_inhibit : (actionT1 s).inhibit = s.inhibit := by
  unfold actionT1; split <;> first | rfl | exact startEu_inhibit s _
@[simp] theorem actionT2_inhibit : (actionT2 s).inhibit = s.inhibit := by
  unfold actionT2; split <;> [(split <;> rfl); rfl]
@[simp] theorem callIoRead_inhibit : (callIoRead inp s).inhibit = s.inhibit := by
  unfold callIoRead; split <;> rfl
@[simp] theorem startEu_nmiLatch (r : BusReq) : (startEu r s).nmiLatch = s.nmiLatch := by
  unfold startEu; simp only []; split <;> [rfl; (split <;> rfl)]
@[simp] theorem actionT1_nmiLatch : (actionT1 s).nmiLatch = s.nmiLatch := by
  unfold actionT1; split <;> first | rfl | exact startEu_nmiLatch s _
@[simp] theorem actionT2_nmiLatch : (actionT2 s).nmiLatch = s.nmiLatch := by
  unfold actionT2; split <;> [(split <;> rfl); rfl]
@[simp] theorem callIoRead_nmiLatch : (callIoRead inp s).nmiLatch = s.nmiLatch := by
  unfold callIoRead; split <;> rfl
@[simp] theorem startEu_dec (r : BusReq) : (startEu r s).dec = s.dec := by
  unfold startEu; simp only []; split <;> [rfl; (split <;> rfl)]
@[simp] theorem actionT1_dec : (actionT1 s).dec = s.dec := by
  unfold actionT1; split <;> first | rfl | exact startEu_dec s _
@[simp] theorem actionT2_dec : (actionT2 s).dec = s.dec := by
  unfold actionT2; split <;> [(split <;> rfl); rfl]
@[simp] theorem callIoRead_dec : (callIoRead inp s).dec = s.dec := by
  unfold callIoRead; split <;> rfl
@[simp] theorem startEu_life (r : BusReq) : (startEu r s).life = s.life := by
  unfold startEu; simp only []; split <;> [rfl; (split <;> rfl)]
@[simp] theorem actionT1_life : (actionT1 s).life = s.life := by
  unfold actionT1; split <;> first | rfl | exact startEu_life s _
@[simp] theorem actionT2_life : (actionT2 s).life = s.life := by
  unfold actionT2; split <;> [(split <;> rfl); rfl]
@[simp] theorem callIoRead_life : (callIoRead inp s).life = s.life := by
  unfold callIoRead; split <;> rfl
@[simp] theorem startEu_sequences (r : BusReq) : (startEu r s).sequences = s.sequences := by
  unfold startEu; simp only []; split <;> [rfl; (split <;> rfl)]
@[simp] theorem actionT1_sequences : (actionT1 s).sequences = s.sequences := by
  unfold actionT1; split <;> first | rfl | exact startEu_sequences s _
@[simp] theorem actionT2_sequences : (actionT2 s).sequences = s.sequences := by
  unfold actionT2; split <;> [(split <;> rfl); rfl]
@[simp] theorem callIoRead_sequences : (callIoRead inp s).sequences = s.sequences := by
  unfold callIoRead; split <;> rfl
@[simp] theorem startEu_pins (r : BusReq) : (startEu r s).pins = s.pins := by
  unfold startEu; simp only []; split <;> [rfl; (split <;> rfl)]
@[simp] theorem actionT1_pins : (actionT1 s).pins = s.pins := by
  unfold actionT1; split <;> first | rfl | exact startEu_pins s _
@[simp] theorem actionT2_pins : (actionT2 s).pins = s.pins := by
  unfold actionT2; split <;> [(split <;> rfl); rfl]
@[simp] theorem callIoRead_pins : (callIoRead inp s).pins = s.pins := by
  unfold callIoRead; split <;> rfl
@[simp] theorem startEu_cfg (r : BusReq) : (startEu r s).cfg = s.cfg := by
  unfold startEu; simp only []; split <;> [rfl; (split <;> rfl)]
@[simp] theorem actionT1_cfg : (actionT1 s).cfg = s.cfg := by
  unfold actionT1; split <;> first | rfl | exact startEu_cfg s _
@[simp] theorem actionT2_cfg : (actionT2 s).cfg = s.cfg := by
  unfold actionT2; split <;> [(split <;> rfl); rfl]
@[simp] theorem callIoRead_cfg : (callIoRead inp s).cfg = s.cfg := by
  unfold callIoRead; split <;> rfl
@[simp] theorem startEu_script (r : BusReq) : (startEu r s).script = s.script := by
  unfold startEu; simp only []; split <;> [rfl; (split <;> rfl)]
@[simp] theorem actionT1_script : (actionT1 s).script = s.script := by
  unfold actionT1; split <;> first | rfl | exact startEu_script s _
@[simp] theorem actionT2_script : (actionT2 s).script = s.script := by
  unfold actionT2; split <;> [(split <;> rfl); rfl]
@[simp] theorem callIoRead_script : (callIoRead inp s).script = s.script := by
  unfold callIoRead; split <;> rfl
@[simp] theorem startEu_fills (r : BusReq) : (startEu r s).fills = s.fills := by
  unfold startEu; simp only []; split <;> [rfl; (split <;> rfl)]
@[simp] theorem actionT1_fills : (actionT1 s).fills = s.fills := by
  unfold actionT1; split <;> first | rfl | exact startEu_fills s _
@[simp] theorem actionT2_fills : (actionT2 s).fills = s.fills := by
  unfold actionT2; split <;> [(split <;> rfl); rfl]
@[simp] theorem callIoRead_fills : (callIoRead inp s).fills = s.fills := by
  unfold callIoRead; split <;> rfl
@[simp] theorem startEu_steps (r : BusReq) : (startEu r s).steps = s.steps := by
  unfold startEu; simp only []; split <;> [rfl; (split <;> rfl)]
@[simp] theorem actionT1_steps : (actionT1 s).steps = s.steps := by
  unfold actionT1; split <;> first | rfl | exact startEu_steps s _
@[simp] theorem actionT2_steps : (actionT2 s).steps = s.steps := by
  unfold actionT2; split <;> [(split <;> rfl); rfl]
@[simp] theorem callIoRead_steps : (callIoRead inp s).steps = s.steps := by
  unfold callIoRead; split <;> rfl
@[simp] theorem startEu_devIn (r : BusReq) : (startEu r s).devIn = s.devIn := by
  unfold startEu; simp only []; split <;> [rfl; (split <;> rfl)]
@[simp] theorem actionT1_devIn : (actionT1 s).devIn = s.devIn := by
  unfold actionT1; split <;> first | rfl | exact startEu_devIn s _
@[simp] theorem actionT2_devIn : (actionT2 s).devIn = s.devIn := by
  unfold actionT2; split <;> [(split <;> rfl); rfl]
@[simp] theorem callIoRead_devIn : (callIoRead inp s).devIn = s.devIn := by
  unfold callIoRead; split <;> rfl
@[simp] theorem startEu_draws (r : BusReq) : (startEu r s).draws = s.draws := by
  unfold startEu; simp only []; split <;> [rfl; (split <;> rfl)]
@[simp] theorem actionT1_draws : (actionT1 s).draws = s.draws := by
  unfold actionT1; split <;> first | rfl | exact startEu_draws s _
@[simp] theorem actionT2_draws : (actionT2 s).draws = s.draws := by
  unfold actionT2; split <;> [(split <;> rfl); rfl]
@[simp] theorem callIoRead_draws : (callIoRead inp s).draws = s.draws := by
  unfold callIoRead; split <;> rfl
@[simp] theorem startEu_cycles (r : BusReq) : (startEu r s).cycles = s.cycles := by
  unfold startEu; simp only []; split <;> [rfl; (split <;> rfl)]
@[simp] theorem actionT1_cycles : (actionT1 s).cycles = s.cycles := by
  unfold actionT1; split <;> first | rfl | exact startEu_cycles s _
@[simp] theorem actionT2_cycles : (actionT2 s).cycles = s.cycles := by
  unfold actionT2; split <;> [(split <;> rfl); rfl]
@[simp] theorem callIoRead_cycles : (callIoRead inp s).cycles = s.cycles := by
  unfold callIoRead; split <;> rfl
@[simp] theorem startEu_record (r : BusReq) : (startEu r s).record = s.record := by
  unfold startEu; simp only []; split <;> [rfl; (split <;> rfl)]
@[simp] theorem actionT1_record : (actionT1 s).record = s.record := by
  unfold actionT1; split <;> first | rfl | exact startEu_record s _
@[simp] theorem actionT2_record : (actionT2 s).record = s.record := by
  unfold actionT2; split <;> [(split <;> rfl); rfl]
@[simp] theorem callIoRead_record : (callIoRead inp s).record = s.record := by
  unfold callIoRead; split <;> rfl
@[simp] theorem startEu_dma (r : BusReq) : (startEu r s).dma = s.dma := by
  unfold startEu; simp only []; split <;> [rfl; (split <;> rfl)]
@[simp] theorem actionT1_dma : (actionT1 s).dma = s.dma := by
  unfold actionT1; split <;> first | rfl | exact startEu_dma s _
@[simp] theorem actionT2_dma : (actionT2 s).dma = s.dma := by
  unfold actionT2; split <;> [(split <;> rfl); rfl]
@[simp] theorem callIoRead_dma : (callIoRead inp s).dma = s.dma := by
  unfold callIoRead; split <;> rfl
@[simp] theorem startEu_tState (r : BusReq) : (startEu r s).biu.tState = s.biu.tState := by
  unfold startEu; simp only []; split <;> [rfl; (split <;> rfl)]
@[simp] theorem actionT1_tState : (actionT1 s).biu.tState = s.biu.tState := by
  unfold actionT1; split <;> first | rfl | exact startEu_tState s _
@[simp] theorem actionT2_tState : (actionT2 s).biu.tState = s.biu.tState := by
  unfold actionT2; split <;> [(split <;> rfl); rfl]
@[simp] theorem callIoRead_tState : (callIoRead inp s).biu.tState = s.biu.tState := by
  unfold callIoRead; split <;> rfl
@[simp] theorem startEu_ta (r : BusReq) : (startEu r s).biu.ta = s.biu.ta := by
  unfold startEu; simp only []; split <;> [rfl; (split <;> rfl)]
@[simp] theorem actionT1_ta : (actionT1 s).biu.ta = s.biu.ta := by
  unfold actionT1; split <;> first | rfl | exact startEu_ta s _
@[simp] theorem actionT2_ta : (actionT2 s).biu.ta = s.biu.ta := by
  unfold actionT2; split <;> [(split <;> rfl); rfl]
@[simp] theorem callIoRead_ta : (callIoRead inp s).biu.ta = s.biu.ta := by
  unfold callIoRead; split <;> rfl
@[simp] theorem startEu_queue (r : BusReq) : (startEu r s).queue = s.queue := by
  unfold startEu; simp only []; split <;> [rfl; (split <;> rfl)]
@[simp] theorem actionT1_queue : (actionT1 s).queue = s.queue := by
  unfold actionT1; split <;> first | rfl | exact startEu_queue s _
@[simp] theorem actionT2_queue : (actionT2 s).queue = s.queue := by
  unfold actionT2; split <;> [(split <;> rfl); rfl]
@[simp] theorem callIoRead_queue : (callIoRead inp s).queue = s.queue := by
  unfold callIoRead; split <;> rfl
@[simp] theorem startEu_pc (r : BusReq) : (startEu r s).pc = s.pc := by
  unfold startEu; simp only []; split <;> [rfl; (split <;> rfl)]
@[simp] theorem actionT1_pc : (actionT1 s).pc = s.pc := by
  unfold actionT1; split <;> first | rfl | exact startEu_pc s _
@[simp] theorem actionT2_pc : (actionT2 s).pc = s.pc := by
  unfold actionT2; split <;> [(split <;> rfl); rfl]
@[simp] theorem callIoRead_pc : (callIoRead inp s).pc = s.pc := by
  unfold callIoRead; split <;> rfl
@[simp] theorem startEu_mem (r : BusReq) : (startEu r s).mem = s.mem := by
  unfold startEu; simp only []; split <;> [rfl; (split <;> rfl)]
@[simp] theorem actionT1_mem : (actionT1 s).mem = s.mem := by
  unfold actionT1; split <;> first | rfl | exact startEu_mem s _
@[simp] theorem actionT2_mem : (actionT2 s).mem = s.mem := by
  unfold actionT2; split <;> [(split <;> rfl); rfl]
@[simp] theorem callIoRead_mem : (callIoRead inp s).mem = s.mem := by
  unfold callIoRead; split <;> rfl
@[simp] theorem startEu_nextIsFirst (r : BusReq) : (startEu r s).nextIsFirst = s.nextIsFirst := by
  unfold startEu; simp only []; split <;> [rfl; (split <;> rfl)]
@[simp] theorem actionT1_nextIsFirst : (actionT1 s).nextIsFirst = s.nextIsFirst := by
  unfold actionT1; split <;> first | rfl | exact startEu_nextIsFirst s _
@[simp] theorem actionT2_nextIsFirst : (actionT2 s).nextIsFirst = s.nextIsFirst := by
  unfold actionT2; split <;> [(split <;> rfl); rfl]
@[simp] theorem callIoRead_nextIsFirst : (callIoRead inp s).nextIsFirst = s.nextIsFirst := by
  unfold callIoRead; split <;> rfl
@[simp] theorem startEu_bus (r : BusReq) : (startEu r s).bus = s.bus := by
  unfold startEu; simp only []; split <;> [rfl; (split <;> rfl)]
@[simp] theorem actionT1_bus : (actionT1 s).bus = s.bus := by
  unfold actionT1; split <;> first | rfl | exact startEu_bus s _
@[simp] theorem actionT2_bus : (actionT2 s).bus = s.bus := by
  unfold actionT2; split <;> [(split <;> rfl); rfl]
@[simp] theorem transfer_gpr (c : BusCycle) : (transfer c inp s).gpr = s.gpr := by
  unfold transfer; cases s.biu.busState <;> simp only [] <;> first | rfl | (split <;> simp)
@[simp] theorem transferIfDone_gpr : (transferIfDone inp s).gpr = s.gpr := by
  unfold transferIfDone; split <;> [(split <;> simp); rfl]
@[simp] theorem transfer_seg (c : BusCycle) : (transfer c inp s).seg = s.seg := by
  unfold transfer; cases s.biu.busState <;> simp only [] <;> first | rfl | (split <;> simp)
@[simp] theorem transferIfDone_seg : (transferIfDone inp s).seg = s.seg := by
  unfold transferIfDone; split <;> [(split <;> simp); rfl]
@[simp] theorem transfer_ip (c : BusCycle) : (transfer c inp s).ip = s.ip := by
  unfold transfer; cases s.biu.busState <;> simp only [] <;> first | rfl | (split <;> simp)
@[simp] theorem transferIfDone_ip : (transferIfDone inp s).ip = s.ip := by
  unfold transferIfDone; split <;> [(split <;> simp); rfl]
@[simp] theorem transfer_flags (c : BusCycle) : (transfer c inp s).flags = s.flags := by
  unfold transfer; cases s.biu.busState <;> simp only [] <;> first | rfl | (split <;> simp)
@[simp] theorem transferIfDone_flags : (transferIfDone inp s).flags = s.flags := by
  unfold transferIfDone; split <;> [(split <;> simp); rfl]
@[simp] theorem transfer_lastEa (c : BusCycle) : (transfer c inp s).lastEa = s.lastEa := by
  unfold transfer; cases s.biu.busState <;> simp only [] <;> first | rfl | (split <;> simp)
@[simp] theorem transferIfDone_lastEa : (transferIfDone inp s).lastEa = s.lastEa := by
  unfold transferIfDone; split <;> [(split <;> simp); rfl]
@[simp] theorem transfer_eaOpr (c : BusCycle) : (transfer c inp s).eaOpr = s.eaOpr := by
  unfold transfer; cases s.biu.busState <;> simp only [] <;> first | rfl | (split <;> simp)
@[simp] theorem transferIfDone_eaOpr : (transferIfDone inp s).eaOpr = s.eaOpr := by
  unfold transferIfDone; split <;> [(split <;> simp); rfl]
@[simp] theorem transfer_inhibit (c : BusCycle) : (transfer c inp s).inhibit = s.inhibit := by
  unfold transfer; cases s.biu.busState <;> simp only [] <;> first | rfl | (split <;> simp)
@[simp] theorem transferIfDone_inhibit : (transferIfDone inp s).inhibit = s.inhibit := by
  unfold transferIfDone; split <;> [(split <;> simp); rfl]
@[simp] theorem transfer_nmiLatch (c : BusCycle) : (transfer c inp s).nmiLatch = s.nmiLatch := by
  unfold transfer; cases s.biu.busState <;> simp only [] <;> first | rfl | (split <;> simp)
@[simp] theorem transferIfDone_nmiLatch : (transferIfDone inp s).nmiLatch = s.nmiLatch := by
  unfold transferIfDone; split <;> [(split <;> simp); rfl]
@[simp] theorem transfer_dec (c : BusCycle) : (transfer c inp s).dec = s.dec := by
  unfold transfer; cases s.biu.busState <;> simp only [] <;> first | rfl | (split <;> simp)
@[simp] theorem transferIfDone_dec : (transferIfDone inp s).dec = s.dec := by
  unfold transferIfDone; split <;> [(split <;> simp); rfl]
@[simp] theorem transfer_life (c : BusCycle) : (transfer c inp s).life = s.life := by
  unfold transfer; cases s.biu.busState <;> simp only [] <;> first | rfl | (split <;> simp)
@[simp] theorem transferIfDone_life : (transferIfDone inp s).life = s.life := by
  unfold transferIfDone; split <;> [(split <;> simp); rfl]
@[simp] theorem transfer_sequences (c : BusCycle) : (transfer c inp s).sequences = s.sequences := by
  unfold transfer; cases s.biu.busState <;> simp only [] <;> first | rfl | (split <;> simp)
@[simp] theorem transferIfDone_sequences : (transferIfDone inp s).sequences = s.sequences := by
  unfold transferIfDone; split <;> [(split <;> simp); rfl]
@[simp] theorem transfer_pins (c : BusCycle) : (transfer c inp s).pins = s.pins := by
  unfold transfer; cases s.biu.busState <;> simp only [] <;> first | rfl | (split <;> simp)
@[simp] theorem transferIfDone_pins : (transferIfDone inp s).pins = s.pins := by
  unfold transferIfDone; split <;> [(split <;> simp); rfl]
@[simp] theorem transfer_cfg (c : BusCycle) : (transfer c inp s).cfg = s.cfg := by
  unfold transfer; cases s.biu.busState <;> simp only [] <;> first | rfl | (split <;> simp)
@[simp] theorem transferIfDone_cfg : (transferIfDone inp s).cfg = s.cfg := by
  unfold transferIfDone; split <;> [(split <;> simp); rfl]
@[simp] theorem transfer_script (c : BusCycle) : (transfer c inp s).script = s.script := by
  unfold transfer; cases s.biu.busState <;> simp only [] <;> first | rfl | (split <;> simp)
@[simp] theorem transferIfDone_script : (transferIfDone inp s).script = s.script := by
  unfold transferIfDone; split <;> [(split <;> simp); rfl]
@[simp] theorem transfer_fills (c : BusCycle) : (transfer c inp s).fills = s.fills := by
  unfold transfer; cases s.biu.busState <;> simp only [] <;> first | rfl | (split <;> simp)
@[simp] theorem transferIfDone_fills : (transferIfDone inp s).fills = s.fills := by
  unfold transferIfDone; split <;> [(split <;> simp); rfl]
@[simp] theorem transfer_steps (c : BusCycle) : (transfer c inp s).steps = s.steps := by
  unfold transfer; cases s.biu.busState <;> simp only [] <;> first | rfl | (split <;> simp)
@[simp] theorem transferIfDone_steps : (transferIfDone inp s).steps = s.steps := by
  unfold transferIfDone; split <;> [(split <;> simp); rfl]
@[simp] theorem transfer_devIn (c : BusCycle) : (transfer c inp s).devIn = s.devIn := by
  unfold transfer; cases s.biu.busState <;> simp only [] <;> first | rfl | (split <;> simp)
@[simp] theorem transferIfDone_devIn : (transferIfDone inp s).devIn = s.devIn := by
  unfold transferIfDone; split <;> [(split <;> simp); rfl]
@[simp] theorem transfer_draws (c : BusCycle) : (transfer c inp s).draws = s.draws := by
  unfold transfer; cases s.biu.busState <;> simp only [] <;> first | rfl | (split <;> simp)
@[simp] theorem transferIfDone_draws : (transferIfDone inp s).draws = s.draws := by
  unfold transferIfDone; split <;> [(split <;> simp); rfl]
@[simp] theorem transfer_cycles (c : BusCycle) : (transfer c inp s).cycles = s.cycles := by
  unfold transfer; cases s.biu.busState <;> simp only [] <;> first | rfl | (split <;> simp)
@[simp] theorem transferIfDone_cycles : (transferIfDone inp s).cycles = s.cycles := by
  unfold transferIfDone; split <;> [(split <;> simp); rfl]
@[simp] theorem transfer_record (c : BusCycle) : (transfer c inp s).record = s.record := by
  unfold transfer; cases s.biu.busState <;> simp only [] <;> first | rfl | (split <;> simp)
@[simp] theorem transferIfDone_record : (transferIfDone inp s).record = s.record := by
  unfold transferIfDone; split <;> [(split <;> simp); rfl]
@[simp] theorem transfer_dma (c : BusCycle) : (transfer c inp s).dma = s.dma := by
  unfold transfer; cases s.biu.busState <;> simp only [] <;> first | rfl | (split <;> simp)
@[simp] theorem transferIfDone_dma : (transferIfDone inp s).dma = s.dma := by
  unfold transferIfDone; split <;> [(split <;> simp); rfl]
@[simp] theorem transfer_tState (c : BusCycle) : (transfer c inp s).biu.tState = s.biu.tState := by
  unfold transfer; cases s.biu.busState <;> simp only [] <;> first | rfl | (split <;> simp)
@[simp] theorem transferIfDone_tState : (transferIfDone inp s).biu.tState = s.biu.tState := by
  unfold transferIfDone; split <;> [(split <;> simp); rfl]
@[simp] theorem transfer_ta (c : BusCycle) : (transfer c inp s).biu.ta = s.biu.ta := by
  unfold transfer; cases s.biu.busState <;> simp only [] <;> first | rfl | (split <;> simp)
@[simp] theorem transferIfDone_ta : (transferIfDone inp s).biu.ta = s.biu.ta := by
  unfold transferIfDone; split <;> [(split <;> simp); rfl]
@[simp] theorem transfer_queue (c : BusCycle) : (transfer c inp s).queue = s.queue := by
  unfold transfer; cases s.biu.busState <;> simp only [] <;> first | rfl | (split <;> simp)
@[simp] theorem transferIfDone_queue : (transferIfDone inp s).queue = s.queue := by
  unfold transferIfDone; split <;> [(split <;> simp); rfl]
@[simp] theorem transfer_pc (c : BusCycle) : (transfer c inp s).pc = s.pc := by
  unfold transfer; cases s.biu.busState <;> simp only [] <;> first | rfl | (split <;> simp)
@[simp] theorem transferIfDone_pc : (transferIfDone inp s).pc = s.pc := by
  unfold transferIfDone; split <;> [(split <;> simp); rfl]
@[simp] theorem transfer_nextIsFirst (c : BusCycle) : (transfer c inp s).nextIsFirst = s.nextIsFirst := by
  unfold transfer; cases s.biu.busState <;> simp only [] <;> first | rfl | (split <;> simp)
@[simp] theorem transferIfDone_nextIsFirst : (transferIfDone inp s).nextIsFirst = s.nextIsFirst := by
  unfold transferIfDone; split <;> [(split <;> simp); rfl]
@[simp] theorem pushFetched_gpr (c : BusCycle) : (pushFetched c s).gpr = s.gpr := by
  unfold pushFetched; dsimp only; split <;> rfl
@[simp] theorem actionT4_gpr : (actionT4 s).gpr = s.gpr := by
  unfold actionT4; split <;> [rfl; (split <;> first | rfl | exact pushFetched_gpr s _)]
@[simp] theorem pushFetched_seg (c : BusCycle) : (pushFetched c s).seg = s.seg := by
  unfold pushFetched; dsimp only; split <;> rfl
@[simp] theorem actionT4_seg : (actionT4 s).seg = s.seg := by
  unfold actionT4; split <;> [rfl; (split <;> first | rfl | exact pushFetched_seg s _)]
@[simp] theorem pushFetched_ip (c : BusCycle) : (pushFetched c s).ip = s.ip := by
  unfold pushFetched; dsimp only; split <;> rfl
@[simp] theorem actionT4_ip : (actionT4 s).ip = s.ip := by
  unfold actionT4; split <;> [rfl; (split <;> first | rfl | exact pushFetched_ip s _)]
@[simp] theorem pushFetched_flags (c : BusCycle) : (pushFetched c s).flags = s.flags := by
  unfold pushFetched; dsimp only; split <;> rfl
@[simp] theorem actionT4_flags : (actionT4 s).flags = s.flags := by
  unfold actionT4; split <;> [rfl; (split <;> first | rfl | exact pushFetched_flags s _)]
@[simp] theorem pushFetched_lastEa (c : BusCycle) : (pushFetched c s).lastEa = s.lastEa := by
  unfold pushFetched; dsimp only; split <;> rfl
@[simp] theorem actionT4_lastEa : (actionT4 s).lastEa = s.lastEa := by
  unfold actionT4; split <;> [rfl; (split <;> first | rfl | exact pushFetched_lastEa s _)]
@[simp] theorem pushFetched_eaOpr (c : BusCycle) : (pushFetched c s).eaOpr = s.eaOpr := by
  unfold pushFetched; dsimp only; split <;> rfl
@[simp] theorem actionT4_eaOpr : (actionT4 s).eaOpr = s.eaOpr := by
  unfold actionT4; split <;> [rfl; (split <;> first | rfl | exact pushFetched_eaOpr s _)]
@[simp] theorem pushFetched_inhibit (c : BusCycle) : (pushFetched c s).inhibit = s.inhibit := by
  unfold pushFetched; dsimp only; split <;> rfl
@[simp] theorem actionT4_inhibit : (actionT4 s).inhibit = s.inhibit := by
  unfold actionT4; split <;> [rfl; (split <;> first | rfl | exact pushFetched_inhibit s _)]
@[simp] theorem pushFetched_nmiLatch (c : BusCycle) : (pushFetched c s).nmiLatch = s.nmiLatch := by
  unfold pushFetched; dsimp only; split <;> rfl
@[simp] theorem actionT4_nmiLatch : (actionT4 s).nmiLatch = s.nmiLatch := by
  unfold actionT4; split <;> [rfl; (split <;> first | rfl | exact pushFetched_nmiLatch s _)]
@[simp] theorem pushFetched_dec (c : BusCycle) : (pushFetched c s).dec = s.dec := by
  unfold pushFetched; dsimp only; split <;> rfl
@[simp] theorem actionT4_dec : (actionT4 s).dec = s.dec := by
  unfold actionT4; split <;> [rfl; (split <;> first | rfl | exact pushFetched_dec s _)]
@[simp] theorem pushFetched_life (c : BusCycle) : (pushFetched c s).life = s.life := by
  unfold pushFetched; dsimp only; split <;> rfl
@[simp] theorem actionT4_life : (actionT4 s).life = s.life := by
  unfold actionT4; split <;> [rfl; (split <;> first | rfl | exact pushFetched_life s _)]
@[simp] theorem pushFetched_sequences (c : BusCycle) : (pushFetched c s).sequences = s.sequences := by
  unfold pushFetched; dsimp only; split <;> rfl
@[simp] theorem actionT4_sequences : (actionT4 s).sequences = s.sequences := by
  unfold actionT4; split <;> [rfl; (split <;> first | rfl | exact pushFetched_sequences s _)]
@[simp] theorem pushFetched_pins (c : BusCycle) : (pushFetched c s).pins = s.pins := by
  unfold pushFetched; dsimp only; split <;> rfl
@[simp] theorem actionT4_pins : (actionT4 s).pins = s.pins := by
  unfold actionT4; split <;> [rfl; (split <;> first | rfl | exact pushFetched_pins s _)]
@[simp] theorem pushFetched_cfg (c : BusCycle) : (pushFetched c s).cfg = s.cfg := by
  unfold pushFetched; dsimp only; split <;> rfl
@[simp] theorem actionT4_cfg : (actionT4 s).cfg = s.cfg := by
  unfold actionT4; split <;> [rfl; (split <;> first | rfl | exact pushFetched_cfg s _)]
@[simp] theorem pushFetched_script (c : BusCycle) : (pushFetched c s).script = s.script := by
  unfold pushFetched; dsimp only; split <;> rfl
@[simp] theorem actionT4_script : (actionT4 s).script = s.script := by
  unfold actionT4; split <;> [rfl; (split <;> first | rfl | exact pushFetched_script s _)]
@[simp] theorem pushFetched_fills (c : BusCycle) : (pushFetched c s).fills = s.fills := by
  unfold pushFetched; dsimp only; split <;> rfl
@[simp] theorem actionT4_fills : (actionT4 s).fills = s.fills := by
  unfold actionT4; split <;> [rfl; (split <;> first | rfl | exact pushFetched_fills s _)]
@[simp] theorem pushFetched_steps (c : BusCycle) : (pushFetched c s).steps = s.steps := by
  unfold pushFetched; dsimp only; split <;> rfl
@[simp] theorem actionT4_steps : (actionT4 s).steps = s.steps := by
  unfold actionT4; split <;> [rfl; (split <;> first | rfl | exact pushFetched_steps s _)]
@[simp] theorem pushFetched_devIn (c : BusCycle) : (pushFetched c s).devIn = s.devIn := by
  unfold pushFetched; dsimp only; split <;> rfl
@[simp] theorem actionT4_devIn : (actionT4 s).devIn = s.devIn := by
  unfold actionT4; split <;> [rfl; (split <;> first | rfl | exact pushFetched_devIn s _)]
@[simp] theorem pushFetched_draws (c : BusCycle) : (pushFetched c s).draws = s.draws := by
  unfold pushFetched; dsimp only; split <;> rfl
@[simp] theorem actionT4_draws : (actionT4 s).draws = s.draws := by
  unfold actionT4; split <;> [rfl; (split <;> first | rfl | exact pushFetched_draws s _)]
@[simp] theorem pushFetched_cycles (c : BusCycle) : (pushFetched c s).cycles = s.cycles := by
  unfold pushFetched; dsimp only; split <;> rfl
@[simp] theorem actionT4_cycles : (actionT4 s).cycles = s.cycles := by
  unfold actionT4; split <;> [rfl; (split <;> first | rfl | exact pushFetched_cycles s _)]
@[simp] theorem pushFetched_record (c : BusCycle) : (pushFetched c s).record = s.record := by
  unfold pushFetched; dsimp only; split <;> rfl
@[simp] theorem actionT4_record : (actionT4 s).record = s.record := by
  unfold actionT4; split <;> [rfl; (split <;> first | rfl | exact pushFetched_record s _)]
@[simp] theorem pushFetched_dma (c : BusCycle) : (pushFetched c s).dma = s.dma := by
  unfold pushFetched; dsimp only; split <;> rfl
@[simp] theorem actionT4_dma : (actionT4 s).dma = s.dma := by
  unfold actionT4; split <;> [rfl; (split <;> first | rfl | exact pushFetched_dma s _)]
@[simp] theorem pushFetched_tState (c : BusCycle) : (pushFetched c s).biu.tState = s.biu.tState := by
  unfold pushFetched; dsimp only; split <;> rfl
@[simp] theorem actionT4_tState : (actionT4 s).biu.tState = s.biu.tState := by
  unfold actionT4; split <;> [rfl; (split <;> first | rfl | exact pushFetched_tState s _)]
@[simp] theorem pushFetched_ta (c : BusCycle) : (pushFetched c s).biu.ta = s.biu.ta := by
  unfold pushFetched; dsimp only; split <;> rfl
@[simp] theorem actionT4_ta : (actionT4 s).biu.ta = s.biu.ta := by
  unfold actionT4; split <;> [rfl; (split <;> first | rfl | exact pushFetched_ta s _)]
@[simp] theorem pushFetched_nextIsFirst (c : BusCycle) : (pushFetched c s).nextIsFirst = s.nextIsFirst := by
  unfold pushFetched; dsimp only; split <;> rfl
@[simp] theorem actionT4_nextIsFirst : (actionT4 s).nextIsFirst = s.nextIsFirst := by
  unfold actionT4; split <;> [rfl; (split <;> first | rfl | exact pushFetched_nextIsFirst s _)]
@[simp] theorem pushFetched_mem (c : BusCycle) : (pushFetched c s).mem = s.mem := by
  unfold pushFetched; dsimp only; split <;> rfl
@[simp] theorem actionT4_mem : (actionT4 s).mem = s.mem := by
  unfold actionT4; split <;> [rfl; (split <;> first | rfl | exact pushFetched_mem s _)]
@[simp] theorem pushFetched_bus (c : BusCycle) : (pushFetched c s).bus = s.bus := by
  unfold pushFetched; dsimp only; split <;> rfl
@[simp] theorem actionT4_bus : (actionT4 s).bus = s.bus := by
  unfold actionT4; split <;> [rfl; (split <;> first | rfl | exact pushFetched_bus s _)]
@[simp] theorem loadWait_tState (w : Nat) (b : Biu) : (loadWait w b).tState = b.tState := by unfold loadWait; split <;> rfl
@[simp] theorem loadWait_ta (w : Nat) (b : Biu) : (loadWait w b).ta = b.ta := by unfold loadWait; split <;> rfl
@[simp] theorem stepsOneTwo_gpr : (stepsOneTwo hold inp s).gpr = s.gpr := by
  unfold stepsOneTwo; cases h : s.biu.tState <;> simp [drainWaits]
@[simp] theorem stepsOneTwo_seg : (stepsOneTwo hold inp s).seg = s.seg := by
  unfold stepsOneTwo; cases h : s.biu.tState <;> simp [drainWaits]
@[simp] theorem stepsOneTwo_ip : (stepsOneTwo hold inp s).ip = s.ip := by
  unfold stepsOneTwo; cases h : s.biu.tState <;> simp [drainWaits]
@[simp] theorem stepsOneTwo_flags : (stepsOneTwo hold inp s).flags = s.flags := by
  unfold stepsOneTwo; cases h : s.biu.tState <;> simp [drainWaits]
@[simp] theorem stepsOneTwo_lastEa : (stepsOneTwo hold inp s).lastEa = s.lastEa := by
  unfold stepsOneTwo; cases h : s.biu.tState <;> simp [drainWaits]
@[simp] theorem stepsOneTwo_eaOpr : (stepsOneTwo hold inp s).eaOpr = s.eaOpr := by
  unfold stepsOneTwo; cases h : s.biu.tState <;> simp [drainWaits]
@[simp] theorem stepsOneTwo_inhibit : (stepsOneTwo hold inp s).inhibit = s.inhibit := by
  unfold stepsOneTwo; cases h : s.biu.tState <;> simp [drainWaits]
@[simp] theorem stepsOneTwo_nmiLatch : (stepsOneTwo hold inp s).nmiLatch = s.nmiLatch := by
  unfold stepsOneTwo; cases h : s.biu.tState <;> simp [drainWaits]
@[simp] theorem stepsOneTwo_dec : (stepsOneTwo hold inp s).dec = s.dec := by
  unfold stepsOneTwo; cases h : s.biu.tState <;> simp [drainWaits]
@[simp] theorem stepsOneTwo_life : (stepsOneTwo hold inp s).life = s.life := by
  unfold stepsOneTwo; cases h : s.biu.tState <;> simp [drainWaits]
@[simp] theorem stepsOneTwo_sequences : (stepsOneTwo hold inp s).sequences = s.sequences := by
  unfold stepsOneTwo; cases h : s.biu.tState <;> simp [drainWaits]
@[simp] theorem stepsOneTwo_pins : (stepsOneTwo hold inp s).pins = s.pins := by
  unfold stepsOneTwo; cases h : s.biu.tState <;> simp [drainWaits]
@[simp] theorem stepsOneTwo_cfg : (stepsOneTwo hold inp s).cfg = s.cfg := by
  unfold stepsOneTwo; cases h : s.biu.tState <;> simp [drainWaits]
@[simp] theorem stepsOneTwo_script : (stepsOneTwo hold inp s).script = s.script := by
  unfold stepsOneTwo; cases h : s.biu.tState <;> simp [drainWaits]
@[simp] theorem stepsOneTwo_fills : (stepsOneTwo hold inp s).fills = s.fills := by
  unfold stepsOneTwo; cases h : s.biu.tState <;> simp [drainWaits]
@[simp] theorem stepsOneTwo_steps : (stepsOneTwo hold inp s).steps = s.steps := by
  unfold stepsOneTwo; cases h : s.biu.tState <;> simp [drainWaits]
@[simp] theorem stepsOneTwo_devIn : (stepsOneTwo hold inp s).devIn = s.devIn := by
  unfold stepsOneTwo; cases h : s.biu.tState <;> simp [drainWaits]
@[simp] theorem stepsOneTwo_draws : (stepsOneTwo hold inp s).draws = s.draws := by
  unfold stepsOneTwo; cases h : s.biu.tState <;> simp [drainWaits]
@[simp] theorem stepsOneTwo_cycles : (stepsOneTwo hold inp s).cycles = s.cycles := by
  unfold stepsOneTwo; cases h : s.biu.tState <;> simp [drainWaits]
@[simp] theorem stepsOneTwo_record : (stepsOneTwo hold inp s).record = s.record := by
  unfold stepsOneTwo; cases h : s.biu.tState <;> simp [drainWaits]
@[simp] theorem stepsOneTwo_dma : (stepsOneTwo hold inp s).dma = s.dma := by
  unfold stepsOneTwo; cases h : s.biu.tState <;> simp [drainWaits]
@[simp] theorem stepsOneTwo_tState : (stepsOneTwo hold inp s).biu.tState = s.biu.tState := by
  unfold stepsOneTwo; cases h : s.biu.tState <;> simp [drainWaits, h]
@[simp] theorem stepsOneTwo_ta : (stepsOneTwo hold inp s).biu.ta = s.biu.ta := by
  unfold stepsOneTwo; cases h : s.biu.tState <;> simp [drainWaits]
@[simp] theorem stepsOneTwo_nextIsFirst : (stepsOneTwo hold inp s).nextIsFirst = s.nextIsFirst := by
  unfold stepsOneTwo; cases h : s.biu.tState <;> simp [drainWaits]

/-! ### The refresh scheduler and the end of the tick -/

@[simp] theorem tickDma_gpr : (tickDma s).gpr = s.gpr := by
  unfold tickDma; simp only []; generalize (if decide (s.dma.refreshCtr ≤ 1) && s.dma.st == .idle then DmaState.dreq else
    s.dma.st.next s.cfg.dmaOperatingSteps (holdAcknowledged s)) = st; split <;> rfl
@[simp] theorem tickDma_seg : (tickDma s).seg = s.seg := by
  unfold tickDma; simp only []; generalize (if decide (s.dma.refreshCtr ≤ 1) && s.dma.st == .idle then DmaState.dreq else
    s.dma.st.next s.cfg.dmaOperatingSteps (holdAcknowledged s)) = st; split <;> rfl
@[simp] theorem tickDma_ip : (tickDma s).ip = s.ip := by
  unfold tickDma; simp only []; generalize (if decide (s.dma.refreshCtr ≤ 1) && s.dma.st == .idle then DmaState.dreq else
    s.dma.st.next s.cfg.dmaOperatingSteps (holdAcknowledged s)) = st; split <;> rfl
@[simp] theorem tickDma_pc : (tickDma s).pc = s.pc := by
  unfold tickDma; simp only []; generalize (if decide (s.dma.refreshCtr ≤ 1) && s.dma.st == .idle then DmaState.dreq else
    s.dma.st.next s.cfg.dmaOperatingSteps (holdAcknowledged s)) = st; split <;> rfl
@[simp] theorem tickDma_flags : (tickDma s).flags = s.flags := by
  unfold tickDma; simp only []; generalize (if decide (s.dma.refreshCtr ≤ 1) && s.dma.st == .idle then DmaState.dreq else
    s.dma.st.next s.cfg.dmaOperatingSteps (holdAcknowledged s)) = st; split <;> rfl
@[simp] theorem tickDma_queue : (tickDma s).queue = s.queue := by
  unfold tickDma; simp only []; generalize (if decide (s.dma.refreshCtr ≤ 1) && s.dma.st == .idle then DmaState.dreq else
    s.dma.st.next s.cfg.dmaOperatingSteps (holdAcknowledged s)) = st; split <;> rfl
@[simp] theorem tickDma_nextIsFirst : (tickDma s).nextIsFirst = s.nextIsFirst := by
  unfold tickDma; simp only []; generalize (if decide (s.dma.refreshCtr ≤ 1) && s.dma.st == .idle then DmaState.dreq else
    s.dma.st.next s.cfg.dmaOperatingSteps (holdAcknowledged s)) = st; split <;> rfl
@[simp] theorem tickDma_lastEa : (tickDma s).lastEa = s.lastEa := by
  unfold tickDma; simp only []; generalize (if decide (s.dma.refreshCtr ≤ 1) && s.dma.st == .idle then DmaState.dreq else
    s.dma.st.next s.cfg.dmaOperatingSteps (holdAcknowledged s)) = st; split <;> rfl
@[simp] theorem tickDma_eaOpr : (tickDma s).eaOpr = s.eaOpr := by
  unfold tickDma; simp only []; generalize (if decide (s.dma.refreshCtr ≤ 1) && s.dma.st == .idle then DmaState.dreq else
    s.dma.st.next s.cfg.dmaOperatingSteps (holdAcknowledged s)) = st; split <;> rfl
@[simp] theorem tickDma_inhibit : (tickDma s).inhibit = s.inhibit := by
  unfold tickDma; simp only []; generalize (if decide (s.dma.refreshCtr ≤ 1) && s.dma.st == .idle then DmaState.dreq else
    s.dma.st.next s.cfg.dmaOperatingSteps (holdAcknowledged s)) = st; split <;> rfl
@[simp] theorem tickDma_nmiLatch : (tickDma s).nmiLatch = s.nmiLatch := by
  unfold tickDma; simp only []; generalize (if decide (s.dma.refreshCtr ≤ 1) && s.dma.st == .idle then DmaState.dreq else
    s.dma.st.next s.cfg.dmaOperatingSteps (holdAcknowledged s)) = st; split <;> rfl
@[simp] theorem tickDma_lock : (tickDma s).lock = s.lock := by
  unfold tickDma; simp only []; generalize (if decide (s.dma.refreshCtr ≤ 1) && s.dma.st == .idle then DmaState.dreq else
    s.dma.st.next s.cfg.dmaOperatingSteps (holdAcknowledged s)) = st; split <;> rfl
@[simp] theorem tickDma_halted : (tickDma s).halted = s.halted := by
  unfold tickDma; simp only []; generalize (if decide (s.dma.refreshCtr ≤ 1) && s.dma.st == .idle then DmaState.dreq else
    s.dma.st.next s.cfg.dmaOperatingSteps (holdAcknowledged s)) = st; split <;> rfl
@[simp] theorem tickDma_dec : (tickDma s).dec = s.dec := by
  unfold tickDma; simp only []; generalize (if decide (s.dma.refreshCtr ≤ 1) && s.dma.st == .idle then DmaState.dreq else
    s.dma.st.next s.cfg.dmaOperatingSteps (holdAcknowledged s)) = st; split <;> rfl
@[simp] theorem tickDma_life : (tickDma s).life = s.life := by
  unfold tickDma; simp only []; generalize (if decide (s.dma.refreshCtr ≤ 1) && s.dma.st == .idle then DmaState.dreq else
    s.dma.st.next s.cfg.dmaOperatingSteps (holdAcknowledged s)) = st; split <;> rfl
@[simp] theorem tickDma_sequences : (tickDma s).sequences = s.sequences := by
  unfold tickDma; simp only []; generalize (if decide (s.dma.refreshCtr ≤ 1) && s.dma.st == .idle then DmaState.dreq else
    s.dma.st.next s.cfg.dmaOperatingSteps (holdAcknowledged s)) = st; split <;> rfl
@[simp] theorem tickDma_pins : (tickDma s).pins = s.pins := by
  unfold tickDma; simp only []; generalize (if decide (s.dma.refreshCtr ≤ 1) && s.dma.st == .idle then DmaState.dreq else
    s.dma.st.next s.cfg.dmaOperatingSteps (holdAcknowledged s)) = st; split <;> rfl
@[simp] theorem tickDma_cfg : (tickDma s).cfg = s.cfg := by
  unfold tickDma; simp only []; generalize (if decide (s.dma.refreshCtr ≤ 1) && s.dma.st == .idle then DmaState.dreq else
    s.dma.st.next s.cfg.dmaOperatingSteps (holdAcknowledged s)) = st; split <;> rfl
@[simp] theorem tickDma_script : (tickDma s).script = s.script := by
  unfold tickDma; simp only []; generalize (if decide (s.dma.refreshCtr ≤ 1) && s.dma.st == .idle then DmaState.dreq else
    s.dma.st.next s.cfg.dmaOperatingSteps (holdAcknowledged s)) = st; split <;> rfl
@[simp] theorem tickDma_fills : (tickDma s).fills = s.fills := by
  unfold tickDma; simp only []; generalize (if decide (s.dma.refreshCtr ≤ 1) && s.dma.st == .idle then DmaState.dreq else
    s.dma.st.next s.cfg.dmaOperatingSteps (holdAcknowledged s)) = st; split <;> rfl
@[simp] theorem tickDma_steps : (tickDma s).steps = s.steps := by
  unfold tickDma; simp only []; generalize (if decide (s.dma.refreshCtr ≤ 1) && s.dma.st == .idle then DmaState.dreq else
    s.dma.st.next s.cfg.dmaOperatingSteps (holdAcknowledged s)) = st; split <;> rfl
@[simp] theorem tickDma_devIn : (tickDma s).devIn = s.devIn := by
  unfold tickDma; simp only []; generalize (if decide (s.dma.refreshCtr ≤ 1) && s.dma.st == .idle then DmaState.dreq else
    s.dma.st.next s.cfg.dmaOperatingSteps (holdAcknowledged s)) = st; split <;> rfl
@[simp] theorem tickDma_draws : (tickDma s).draws = s.draws := by
  unfold tickDma; simp only []; generalize (if decide (s.dma.refreshCtr ≤ 1) && s.dma.st == .idle then DmaState.dreq else
    s.dma.st.next s.cfg.dmaOperatingSteps (holdAcknowledged s)) = st; split <;> rfl
@[simp] theorem tickDma_cycles : (tickDma s).cycles = s.cycles := by
  unfold tickDma; simp only []; generalize (if decide (s.dma.refreshCtr ≤ 1) && s.dma.st == .idle then DmaState.dreq else
    s.dma.st.next s.cfg.dmaOperatingSteps (holdAcknowledged s)) = st; split <;> rfl
@[simp] theorem tickDma_record : (tickDma s).record = s.record := by
  unfold tickDma; simp only []; generalize (if decide (s.dma.refreshCtr ≤ 1) && s.dma.st == .idle then DmaState.dreq else
    s.dma.st.next s.cfg.dmaOperatingSteps (holdAcknowledged s)) = st; split <;> rfl
@[simp] theorem tickDma_mem : (tickDma s).mem = s.mem := by
  unfold tickDma; simp only []; generalize (if decide (s.dma.refreshCtr ≤ 1) && s.dma.st == .idle then DmaState.dreq else
    s.dma.st.next s.cfg.dmaOperatingSteps (holdAcknowledged s)) = st; split <;> rfl
@[simp] theorem tickDma_bus : (tickDma s).bus = s.bus := by
  unfold tickDma; simp only []; generalize (if decide (s.dma.refreshCtr ≤ 1) && s.dma.st == .idle then DmaState.dreq else
    s.dma.st.next s.cfg.dmaOperatingSteps (holdAcknowledged s)) = st; split <;> rfl
@[simp] theorem tickDma_tState : (tickDma s).biu.tState = s.biu.tState := by
  unfold tickDma; simp only []; generalize (if decide (s.dma.refreshCtr ≤ 1) && s.dma.st == .idle then DmaState.dreq else
    s.dma.st.next s.cfg.dmaOperatingSteps (holdAcknowledged s)) = st; split <;> rfl
@[simp] theorem tickDma_ta : (tickDma s).biu.ta = s.biu.ta := by
  unfold tickDma; simp only []; generalize (if decide (s.dma.refreshCtr ≤ 1) && s.dma.st == .idle then DmaState.dreq else
    s.dma.st.next s.cfg.dmaOperatingSteps (holdAcknowledged s)) = st; split <;> rfl
@[simp] theorem tickDma_queueOp : (tickDma s).biu.queueOp = s.biu.queueOp := by
  unfold tickDma; simp only []; generalize (if decide (s.dma.refreshCtr ≤ 1) && s.dma.st == .idle then DmaState.dreq else
    s.dma.st.next s.cfg.dmaOperatingSteps (holdAcknowledged s)) = st; split <;> rfl
@[simp] theorem tickDma_queueByte : (tickDma s).biu.queueByte = s.biu.queueByte := by
  unfold tickDma; simp only []; generalize (if decide (s.dma.refreshCtr ≤ 1) && s.dma.st == .idle then DmaState.dreq else
    s.dma.st.next s.cfg.dmaOperatingSteps (holdAcknowledged s)) = st; split <;> rfl
@[simp] theorem tickDma_busState : (tickDma s).biu.busState = s.biu.busState := by
  unfold tickDma; simp only []; generalize (if decide (s.dma.refreshCtr ≤ 1) && s.dma.st == .idle then DmaState.dreq else
    s.dma.st.next s.cfg.dmaOperatingSteps (holdAcknowledged s)) = st; split <;> rfl
@[simp] theorem tickDma_access : (tickDma s).biu.access = s.biu.access := by
  unfold tickDma; simp only []; generalize (if decide (s.dma.refreshCtr ≤ 1) && s.dma.st == .idle then DmaState.dreq else
    s.dma.st.next s.cfg.dmaOperatingSteps (holdAcknowledged s)) = st; split <;> rfl
@[simp] theorem enterTState_tState (t : TState) (b : Biu) : (enterTState t b).tState = t := by
  unfold enterTState; simp only []; split <;> rfl
@[simp] theorem enterTState_ta (t : TState) (b : Biu) : (enterTState t b).ta = b.ta := by
  unfold enterTState; simp only []; split <;> rfl
@[simp] theorem enterTState_dmaWait (t : TState) (b : Biu) : (enterTState t b).dmaWait = b.dmaWait := by
  unfold enterTState; simp only []; split <;> rfl
@[simp] theorem enterTState_fetchState (t : TState) (b : Biu) : (enterTState t b).fetchState = b.fetchState := by
  unfold enterTState; simp only []; split <;> rfl
@[simp] theorem enterTState_pending (t : TState) (b : Biu) : (enterTState t b).pending = b.pending := by
  unfold enterTState; simp only []; split <;> rfl
@[simp] theorem addressCycle_tState : (addressCycle hold a s).tState = s.biu.tState := by
  unfold addressCycle; simp only []; repeat' split
  all_goals rfl
@[simp] theorem addressCycle_busState : (addressCycle hold a s).busState = s.biu.busState := by
  unfold addressCycle; simp only []; repeat' split
  all_goals rfl
@[simp] theorem addressCycle_queueOp : (addressCycle hold a s).queueOp = s.biu.queueOp := by
  unfold addressCycle; simp only []; repeat' split
  all_goals rfl
@[simp] theorem addressCycle_queueByte : (addressCycle hold a s).queueByte = s.biu.queueByte := by
  unfold addressCycle; simp only []; repeat' split
  all_goals rfl
@[simp] theorem addressCycle_busWait : (addressCycle hold a s).busWait = s.biu.busWait := by
  unfold addressCycle; simp only []; repeat' split
  all_goals rfl
@[simp] theorem addressCycle_ioWait : (addressCycle hold a s).ioWait = s.biu.ioWait := by
  unfold addressCycle; simp only []; repeat' split
  all_goals rfl
@[simp] theorem addressCycle_dmaWait : (addressCycle hold a s).dmaWait = s.biu.dmaWait := by
  unfold addressCycle; simp only []; repeat' split
  all_goals rfl
@[simp] theorem addressCycle_cycle : (addressCycle hold a s).cycle = s.biu.cycle := by
  unfold addressCycle; simp only []; repeat' split
  all_goals rfl
@[simp] theorem addressCycle_access : (addressCycle hold a s).access = s.biu.access := by
  unfold addressCycle; simp only []; repeat' split
  all_goals rfl

/-- The state after steps 1 and 2 of a tick. -/
def afterTwo (a : EuAct) (inp : BusIn) (s : State) : State :=
  stepsOneTwo s.dma.st.holds inp (euActs a (s.setBiu { s.biu with queueOp := .idle, queueByte := none, euReady := false }))

@[simp] theorem afterTwo_gpr : (afterTwo a inp s).gpr = s.gpr := by
  simp [afterTwo]
@[simp] theorem afterTwo_flags : (afterTwo a inp s).flags = s.flags := by
  simp [afterTwo]
@[simp] theorem afterTwo_lastEa : (afterTwo a inp s).lastEa = s.lastEa := by
  simp [afterTwo]
@[simp] theorem afterTwo_eaOpr : (afterTwo a inp s).eaOpr = s.eaOpr := by
  simp [afterTwo]
@[simp] theorem afterTwo_inhibit : (afterTwo a inp s).inhibit = s.inhibit := by
  simp [afterTwo]
@[simp] theorem afterTwo_nmiLatch : (afterTwo a inp s).nmiLatch = s.nmiLatch := by
  simp [afterTwo]
@[simp] theorem afterTwo_dec : (afterTwo a inp s).dec = s.dec := by
  simp [afterTwo]
@[simp] theorem afterTwo_life : (afterTwo a inp s).life = s.life := by
  simp [afterTwo]
@[simp] theorem afterTwo_sequences : (afterTwo a inp s).sequences = s.sequences := by
  simp [afterTwo]
@[simp] theorem afterTwo_pins : (afterTwo a inp s).pins = s.pins := by
  simp [afterTwo]
@[simp] theorem afterTwo_cfg : (afterTwo a inp s).cfg = s.cfg := by
  simp [afterTwo]
@[simp] theorem afterTwo_script : (afterTwo a inp s).script = s.script := by
  simp [afterTwo]
@[simp] theorem afterTwo_fills : (afterTwo a inp s).fills = s.fills := by
  simp [afterTwo]
@[simp] theorem afterTwo_steps : (afterTwo a inp s).steps = s.steps := by
  simp [afterTwo]
@[simp] theorem afterTwo_devIn : (afterTwo a inp s).devIn = s.devIn := by
  simp [afterTwo]
@[simp] theorem afterTwo_draws : (afterTwo a inp s).draws = s.draws := by
  simp [afterTwo]
@[simp] theorem afterTwo_cycles : (afterTwo a inp s).cycles = s.cycles := by
  simp [afterTwo]
@[simp] theorem afterTwo_record : (afterTwo a inp s).record = s.record := by
  simp [afterTwo]
@[simp] theorem afterTwo_dma : (afterTwo a inp s).dma = s.dma := by
  simp [afterTwo]
@[simp] theorem afterTwo_tState : (afterTwo a inp s).biu.tState = s.biu.tState := by
  simp [afterTwo]
@[simp] theorem afterTwo_ta : (afterTwo a inp s).biu.ta = s.biu.ta := by
  simp [afterTwo]

/-- The state before step 5 of a tick. -/
def beforeDma (a : EuAct) (inp : BusIn) (s : State) : State :=
  ((afterTwo a inp s).setBiu (addressCycle s.dma.st.holds a (afterTwo a inp s))).setBiu
    { addressCycle s.dma.st.holds a (afterTwo a inp s) with
      fetchState := tickDelay (addressCycle s.dma.st.holds a (afterTwo a inp s)).fetchState }

/-- A tick by its parts: the record is of the state before the T-state changes. -/
theorem tick_eq : tick act inp s =
    (((tickDma (beforeDma (s.euAct act) inp s)).setRecord
        (some (recordOf s.dma.st.holds (tickDma (beforeDma (s.euAct act) inp s))))).setCycles (s.cycles + 1)).setBiu
      (enterTState (nextTState ((afterTwo (s.euAct act) inp s).biu.starts s.dma.st.holds (s.euAct act))
          (afterTwo (s.euAct act) inp s).biu.noWait s.biu.tState)
        (tickDma (beforeDma (s.euAct act) inp s)).biu) := by
  unfold tick beforeDma afterTwo
  simp

theorem tick_tState : (tick act inp s).biu.tState =
    nextTState ((afterTwo (s.euAct act) inp s).biu.starts s.dma.st.holds (s.euAct act))
      (afterTwo (s.euAct act) inp s).biu.noWait s.biu.tState := by
  rw [tick_eq]; simp

theorem tick_ta : (tick act inp s).biu.ta =
    (addressCycle s.dma.st.holds (s.euAct act) (afterTwo (s.euAct act) inp s)).ta := by
  rw [tick_eq]; simp [beforeDma]

theorem tick_record : (tick act inp s).record =
    some (recordOf s.dma.st.holds (tickDma (beforeDma (s.euAct act) inp s))) := by
  rw [tick_eq]; simp

theorem tick_dma : (tick act inp s).dma = (tickDma (beforeDma (s.euAct act) inp s)).dma := by rw [tick_eq]; simp

@[simp] theorem tick_gpr : (tick act inp s).gpr = s.gpr := by rw [tick_eq]; simp [beforeDma]
@[simp] theorem tick_flags : (tick act inp s).flags = s.flags := by rw [tick_eq]; simp [beforeDma]
@[simp] theorem tick_lastEa : (tick act inp s).lastEa = s.lastEa := by rw [tick_eq]; simp [beforeDma]
@[simp] theorem tick_eaOpr : (tick act inp s).eaOpr = s.eaOpr := by rw [tick_eq]; simp [beforeDma]
@[simp] theorem tick_inhibit : (tick act inp s).inhibit = s.inhibit := by rw [tick_eq]; simp [beforeDma]
@[simp] theorem tick_nmiLatch : (tick act inp s).nmiLatch = s.nmiLatch := by rw [tick_eq]; simp [beforeDma]
@[simp] theorem tick_dec : (tick act inp s).dec = s.dec := by rw [tick_eq]; simp [beforeDma]
@[simp] theorem tick_life : (tick act inp s).life = s.life := by rw [tick_eq]; simp [beforeDma]
@[simp] theorem tick_sequences : (tick act inp s).sequences = s.sequences := by rw [tick_eq]; simp [beforeDma]
@[simp] theorem tick_pins : (tick act inp s).pins = s.pins := by rw [tick_eq]; simp [beforeDma]
@[simp] theorem tick_cfg : (tick act inp s).cfg = s.cfg := by rw [tick_eq]; simp [beforeDma]
@[simp] theorem tick_script : (tick act inp s).script = s.script := by rw [tick_eq]; simp [beforeDma]
@[simp] theorem tick_fills : (tick act inp s).fills = s.fills := by rw [tick_eq]; simp [beforeDma]
@[simp] theorem tick_steps : (tick act inp s).steps = s.steps := by rw [tick_eq]; simp [beforeDma]
@[simp] theorem tick_devIn : (tick act inp s).devIn = s.devIn := by rw [tick_eq]; simp [beforeDma]
@[simp] theorem tick_draws : (tick act inp s).draws = s.draws := by rw [tick_eq]; simp [beforeDma]
theorem tick_seg : (tick act inp s).seg = (afterTwo (s.euAct act) inp s).seg := by rw [tick_eq]; simp [beforeDma]
theorem tick_ip : (tick act inp s).ip = (afterTwo (s.euAct act) inp s).ip := by rw [tick_eq]; simp [beforeDma]
theorem tick_pc : (tick act inp s).pc = (afterTwo (s.euAct act) inp s).pc := by rw [tick_eq]; simp [beforeDma]
theorem tick_queue : (tick act inp s).queue = (afterTwo (s.euAct act) inp s).queue := by rw [tick_eq]; simp [beforeDma]
theorem tick_nextIsFirst : (tick act inp s).nextIsFirst = (afterTwo (s.euAct act) inp s).nextIsFirst := by rw [tick_eq]; simp [beforeDma]
theorem tick_lock : (tick act inp s).lock = (afterTwo (s.euAct act) inp s).lock := by rw [tick_eq]; simp [beforeDma]
theorem tick_halted : (tick act inp s).halted = (afterTwo (s.euAct act) inp s).halted := by rw [tick_eq]; simp [beforeDma]
theorem tick_mem : (tick act inp s).mem = (afterTwo (s.euAct act) inp s).mem := by rw [tick_eq]; simp [beforeDma]
theorem tick_bus : (tick act inp s).bus = (afterTwo (s.euAct act) inp s).bus := by rw [tick_eq]; simp [beforeDma]

end Sys2Proof.Machine
end

