-- ==== Sys2Proof/Tests/Slice0.lean ====
section
/-! SUPPORT. Tests: ill-formed terms, instruction words written out from the spec, the spec's own examples one step each, and
for every statement with hypotheses a state and operands that meet them. -/
namespace Sys2Proof.Tests
open Sys2Proof Sys2Proof.Machine

/-! ### Small states -/

/-- Distinct segments, a stack of 0x100 bytes, all other registers and memory as after reset. -/
def base : State :=
  { State.reset with seg := { es := 0x2000, cs := 0x1000, ss := 0x3000, ds := 0x4000 }, gpr := { Gpr.reset with sp := 0x0100 } }

/-- The same on a V20. -/
def nec : State := { base with cfg := Cfg.ofCpu .v20 }

/-- Bytes in memory from an offset of a segment on. -/
def put (sv off : Word) : List Byte → State → State
  | [], s => s
  | b :: bs, s => put sv (off + 1) bs (s.setMem (memWrite s.mem (lin sv off).toNat b))

/-- A REP-class prefix has been read. -/
def underRep (k : RepKind) (s : State) : State :=
  (s.setDec { s.dec with rep := some k, startCs := s.seg.cs, startIp := s.ip - 1, lastPrefixIp := s.ip - 1, length := 1 }).setLife
    .decodePrefix

/-- The state after a step that runs the bytes at CS:IP. -/
def after (bs : List Byte) (s : State) : State :=
  match step (put s.seg.cs s.ip bs s) with
  | .next t => t
  | .fault _ => State.reset
  | .refused _ => State.reset

/-! ### Data transfer (40_data_transfer.md) -/

/-- R300. -/
theorem test_mov_load :
    let t := after [0x8B, 0x07] (put 0x4000 0x10 [0x34, 0x12] (base.setR16 .bx 0x10))
    t.r16 .ax = 0x1234 ∧ t.ip = 2 ∧ t.lastEa = 0x10 := by decide

/-- R302. -/
theorem test_mov_immediate_byte :
    let t := after [0xB1, 0x05] (base.setR16 .cx 0xAA00)
    t.r16 .cx = 0xAA05 := by decide

/-- R303. -/
theorem test_mov_offset :
    let t := after [0xA1, 0x00, 0x02] (put 0x4000 0x200 [0xEF, 0xBE] base)
    t.r16 .ax = 0xBEEF ∧ t.ip = 3 := by decide

/-- R304. -/
theorem test_mov_from_segment :
    let t := after [0x8C, 0xD8] base
    t.r16 .ax = 0x4000 := by decide

/-- R305. -/
theorem test_mov_to_segment :
    let t := after [0x8E, 0xD8] (base.setR16 .ax 0x1234)
    t.seg.ds = 0x1234 ∧ t.inhibit = false := by decide

/-- R306. -/
theorem test_push_register :
    let t := after [0x50] (base.setR16 .ax 0x1234)
    t.r16 .sp = 0xFE ∧ t.byteAt 0x300FE = 0x34 ∧ t.byteAt 0x300FF = 0x12 := by decide

/-- R306. -/
theorem test_push_sp :
    let t := after [0x54] base
    t.wordAt 0x3000 0xFE = 0xFE := by decide

/-- R307. -/
theorem test_push_segment :
    let t := after [0x1E] (base.setSreg .ds 0x40)
    t.r16 .sp = 0xFE ∧ t.wordAt 0x3000 0xFE = 0x40 := by decide

/-- R308. -/
theorem test_push_memory :
    let t := after [0xFF, 0x36, 0x00, 0x02] (put 0x4000 0x200 [0xCD, 0xAB] base)
    t.wordAt 0x3000 0xFE = 0xABCD ∧ t.ip = 4 := by decide

/-- R309. -/
theorem test_pop_register :
    let t := after [0x5B] (put 0x3000 0xFE [0xCD, 0xAB] (base.setR16 .sp 0xFE))
    t.r16 .bx = 0xABCD ∧ t.r16 .sp = 0x100 := by decide

/-- R310. -/
theorem test_pop_segment :
    let t := after [0x17] (put 0x3000 0xFE [0x00, 0x20] (base.setR16 .sp 0xFE))
    t.seg.ss = 0x2000 ∧ t.r16 .sp = 0x100 := by decide

/-- R311. -/
theorem test_pop_memory :
    let t := after [0x8F, 0x06, 0x00, 0x03] (put 0x3000 0xFE [0xCD, 0xAB] (base.setR16 .sp 0xFE))
    t.wordAt 0x4000 0x300 = 0xABCD ∧ t.r16 .sp = 0x100 := by decide

/-- R312. -/
theorem test_xchg_halves :
    let t := after [0x86, 0xC4] (base.setR16 .ax 0x1234)
    t.r16 .ax = 0x3412 := by decide

/-- R313. -/
theorem test_xchg_accumulator :
    let t := after [0x93] ((base.setR16 .ax 1).setR16 .bx 2)
    t.r16 .ax = 2 ∧ t.r16 .bx = 1 := by decide

/-- R315. -/
theorem test_in_immediate :
    let t := after [0xE4, 0x60] (base.setDevIn [0x41])
    t.r8 .al = 0x41 ∧ t.demands = [.ioRead 0x60 0x41] ∧ t.devIn = [] := by decide

/-- R318. -/
theorem test_out_port :
    let t := after [0xEE] ((base.setR16 .dx 0x43).setR16 .ax 0x36)
    t.demands = [.ioWrite 0x43 0x36] := by decide

/-- R319. -/
theorem test_xlat :
    let t := after [0xD7] (put 0x4000 0x105 [0x41] ((base.setR16 .bx 0x100).setR16 .ax 5))
    t.r8 .al = 0x41 := by decide

/-- R320. -/
theorem test_lea :
    let t := after [0x8D, 0x47, 0x04] (base.setR16 .bx 0x1000)
    t.r16 .ax = 0x1004 ∧ t.demands = [] := by decide

/-- R321. -/
theorem test_lds :
    let t := after [0xC5, 0x36, 0x00, 0x03] (put 0x4000 0x300 [0x00, 0x01, 0x00, 0x20] base)
    t.r16 .si = 0x100 ∧ t.seg.ds = 0x2000 := by decide

/-- R322. -/
theorem test_les :
    let t := after [0xC4, 0x3E, 0x00, 0x03] (put 0x4000 0x300 [0x00, 0x01, 0x00, 0x20] base)
    t.r16 .di = 0x100 ∧ t.seg.es = 0x2000 := by decide

/-- R323. -/
theorem test_lahf :
    let t := after [0x9F] (base.setFlags 0xF093)
    t.r16 .ax = 0x9300 := by decide

/-- R324. -/
theorem test_sahf :
    let t := after [0x9E] (base.setR8 .ah 0xFF)
    t.flags = 0xF0D7 := by decide

/-- R326. -/
theorem test_popf_pins_reserved_bits :
    let t := after [0x9D] (put 0x3000 0xFE [0xD5, 0x0F] (base.setR16 .sp 0xFE))
    t.flags = 0xFFD7 := by decide

/-! ### Arithmetic (41_arithmetic.md) -/

/-- R354. -/
theorem test_add_overflow :
    let t := after [0x01, 0xD8] ((base.setR16 .ax 0x8000).setR16 .bx 0x8000)
    t.r16 .ax = 0 ∧ t.flags = 0xF847 := by decide

/-- R355. -/
theorem test_adc :
    let t := after [0x14, 0x00] ((base.setR16 .ax 0x0F).setFlags 0xF003)
    t.r8 .al = 0x10 ∧ t.flags = 0xF012 := by decide

/-- R356. -/
theorem test_inc_memory :
    let t := after [0xFE, 0x06, 0x00, 0x02] (put 0x4000 0x200 [0xFF] base)
    t.byteAt 0x40200 = 0 ∧ flagZF t.flags = true := by decide

/-- R357. -/
theorem test_inc_keeps_carry :
    let t := after [0x40] ((base.setR16 .ax 0xFFFF).setFlags 0xF003)
    t.r16 .ax = 0 ∧ t.flags = 0xF057 := by decide

/-- R358. -/
theorem test_sub :
    let t := after [0x2C, 0x01] (base.setR16 .ax 0x10)
    t.r8 .al = 0x0F ∧ t.flags = 0xF016 := by decide

/-- R359. -/
theorem test_sbb :
    let t := after [0x1D, 0x00, 0x00] (base.setFlags 0xF003)
    t.r16 .ax = 0xFFFF ∧ t.flags = 0xF097 := by decide

/-- R360. -/
theorem test_dec_byte :
    let t := after [0xFE, 0xC9] (base.setR16 .cx 1)
    t.r8 .cl = 0 ∧ flagZF t.flags = true := by decide

/-- R361. -/
theorem test_dec_word :
    let t := after [0x49] base
    t.r16 .cx = 0xFFFF ∧ t.flags = 0xF096 := by decide

/-- R362. -/
theorem test_neg :
    let t := after [0xF7, 0xD8] (base.setR16 .ax 1)
    t.r16 .ax = 0xFFFF ∧ t.flags = 0xF097 := by decide

/-- R363. -/
theorem test_cmp_below :
    let t := after [0x3C, 0x05] (base.setR16 .ax 4)
    t.r8 .al = 4 ∧ flagCF t.flags = true ∧ flagSF t.flags = true ∧ flagAF t.flags = true ∧ flagZF t.flags = false := by decide

/-- R364. -/
theorem test_aaa :
    let t := after [0x37] (base.setR16 .ax 0x0B)
    t.r16 .ax = 0x101 := by decide

/-- R365. -/
theorem test_aas :
    let t := after [0x3F] ((base.setR16 .ax 0x1FF).setFlags 0xF012)
    t.r16 .ax = 9 := by decide

/-- R366. -/
theorem test_daa :
    let t := after [0x27] (base.setR16 .ax 0x9A)
    t.r8 .al = 0 := by decide

/-- R367. -/
theorem test_das :
    let t := after [0x2F] ((base.setR16 .ax 0x2D).setFlags 0xF012)
    t.r8 .al = 0x27 := by decide

/-- R368. -/
theorem test_mul_byte :
    let t := after [0xF6, 0xE3] ((base.setR16 .ax 0x10).setR16 .bx 0x10)
    t.r16 .ax = 0x100 := by decide

/-- R369. -/
theorem test_imul_byte :
    let t := after [0xF6, 0xE9] ((base.setR16 .ax 0xFE).setR16 .cx 3)
    t.r16 .ax = 0xFFFA := by decide

/-- R370. -/
theorem test_div_byte :
    let t := after [0xF6, 0xF3] ((base.setR16 .ax 0x64).setR16 .bx 7)
    t.r16 .ax = 0x020E ∧ t.ip = 2 := by decide

/-- R371. -/
theorem test_idiv_byte :
    let t := after [0xF6, 0xFB] ((base.setR16 .ax 0xFFF9).setR16 .bx 2)
    t.r16 .ax = 0xFFFD := by decide

/-- R372. -/
theorem test_aam :
    let t := after [0xD4, 0x0A] (base.setR16 .ax 0x3F)
    t.r16 .ax = 0x603 := by decide

/-- R373. -/
theorem test_aad :
    let t := after [0xD5, 0x0A] (base.setR16 .ax 0x603)
    t.r16 .ax = 0x3F := by decide

/-- R374. -/
theorem test_cbw :
    let t := after [0x98] (base.setR16 .ax 0x80)
    t.r16 .ax = 0xFF80 := by decide

/-- R375. -/
theorem test_cwd :
    let t := after [0x99] (base.setR16 .ax 0x8000)
    t.r16 .dx = 0xFFFF := by decide

/-! ### Logic, shifts and rotates (42_logic_shift_rotate.md) -/

/-- R401. -/
theorem test_and :
    let t := after [0x24, 0x3C] (base.setR16 .ax 0xF0)
    t.r8 .al = 0x30 ∧ t.flags = 0xF006 := by decide

/-- R402. -/
theorem test_or :
    let t := after [0x0D, 0x01, 0x00] (base.setR16 .ax 0x8000)
    t.r16 .ax = 0x8001 ∧ t.flags = 0xF082 := by decide

/-- R403. -/
theorem test_xor :
    let t := after [0x31, 0xC0] ((base.setR16 .ax 0x1234).setFlags 0xF893)
    t.r16 .ax = 0 ∧ t.flags = 0xF046 := by decide

/-- R404. -/
theorem test_test :
    let t := after [0xA8, 0x80] (base.setR16 .ax 0x81)
    t.r8 .al = 0x81 ∧ t.flags = 0xF082 := by decide

/-- R405. -/
theorem test_not :
    let t := after [0xF7, 0xD0] ((base.setR16 .ax 0xFF).setFlags 0xF8D7)
    t.r16 .ax = 0xFF00 ∧ t.flags = 0xF8D7 := by decide

/-- R409. -/
theorem test_shl :
    let t := after [0xD0, 0xE0] ((base.setR16 .ax 0x81).setFlags 0xF012)
    t.r8 .al = 2 ∧ t.flags = 0xF803 := by decide

/-- R410. -/
theorem test_shr :
    let t := after [0xD0, 0xE8] (base.setR16 .ax 0x81)
    t.r8 .al = 0x40 ∧ t.flags = 0xF803 := by decide

/-- R411. -/
theorem test_sar :
    let t := after [0xD0, 0xF8] (base.setR16 .ax 0x81)
    t.r8 .al = 0xC0 ∧ t.flags = 0xF087 := by decide

/-- R412. -/
theorem test_rol :
    let t := after [0xD0, 0xC0] (base.setR16 .ax 0x81)
    t.r8 .al = 3 ∧ t.flags = 0xF803 := by decide

/-- R413. -/
theorem test_ror :
    let t := after [0xD0, 0xC8] (base.setR16 .ax 0x81)
    t.r8 .al = 0xC0 ∧ t.flags = 0xF003 := by decide

/-- R414. -/
theorem test_rcl :
    let t := after [0xD0, 0xD0] ((base.setR16 .ax 0x40).setFlags 0xF003)
    t.r8 .al = 0x81 ∧ t.flags = 0xF802 := by decide

/-- R415. -/
theorem test_rcr :
    let t := after [0xD0, 0xD8] ((base.setR16 .ax 0x01).setFlags 0xF003)
    t.r8 .al = 0x80 ∧ t.flags = 0xF803 := by decide

/-- R407. -/
theorem test_shift_by_zero :
    let t := after [0xD2, 0xE0] ((base.setR16 .ax 0x81).setFlags 0xF8D7)
    t.r8 .al = 0x81 ∧ t.flags = 0xF8D7 := by decide

/-! ### Strings (43_string.md) -/

/-- R442. -/
theorem test_rep_movsb_first :
    let t := after [0xA4] (underRep .repe (put 0 0x100 [0x48, 0x45, 0x4C, 0x4C, 0x4F] (((((base.setSreg .ds 0).setSreg .es 0).setR16 .si 0x100).setR16 .di 0x200).setR16 .cx 5)))
    t.byteAt 0x200 = 0x48 ∧ t.r16 .cx = 4 ∧ t.r16 .si = 0x101 ∧ t.r16 .di = 0x201 ∧ t.life = .execute := by decide

/-- R442. -/
theorem test_rep_movsb_last :
    let t := after [0xA4] (underRep .repe (put 0 0x104 [0x4F] (((((base.setSreg .ds 0).setSreg .es 0).setR16 .si 0x104).setR16 .di 0x204).setR16 .cx 1)))
    t.byteAt 0x204 = 0x4F ∧ t.r16 .cx = 0 ∧ t.r16 .si = 0x105 ∧ t.r16 .di = 0x205 ∧ t.life = .fetch := by decide

/-- R443. -/
theorem test_repe_cmpsb_differs :
    let t := after [0xA6] (underRep .repe (put 0x2000 0 [0x44] (put 0x4000 0 [0x58] (base.setR16 .cx 5))))
    t.r16 .cx = 4 ∧ t.r16 .si = 1 ∧ t.r16 .di = 1 ∧ flagZF t.flags = false ∧ flagCF t.flags = false ∧ t.life = .fetch := by decide

/-- R444. -/
theorem test_repne_scasb_found :
    let t := after [0xAE] (underRep .repne ((base.setR16 .cx 0xFFFD).setR16 .di 2))
    t.r16 .cx = 0xFFFC ∧ t.r16 .di = 3 ∧ flagZF t.flags = true ∧ t.life = .fetch := by decide

/-- R445. -/
theorem test_lodsb_down :
    let t := after [0xAC] (put 0x4000 0x10 [0x41] ((base.setR16 .si 0x10).setFlags 0xF402))
    t.r8 .al = 0x41 ∧ t.r16 .si = 0xF := by decide

/-- R446. -/
theorem test_rep_stosw_last :
    let t := after [0xAB] (underRep .repe ((((base.setSreg .es 0xB800).setR16 .ax 0x720).setR16 .di 4).setR16 .cx 1))
    t.wordAt 0xB800 4 = 0x720 ∧ t.r16 .cx = 0 ∧ t.r16 .di = 6 := by decide

/-! ### Control transfer (44_control_transfer.md) -/

/-- R472. -/
theorem test_jz_taken :
    let t := after [0x74, 0x10] (base.setFlags 0xF042)
    t.ip = 0x12 ∧ t.pc = 0x12 ∧ t.queue = [] := by decide

/-- R472. -/
theorem test_jz_not_taken :
    let t := after [0x74, 0x10] base
    t.ip = 2 := by decide

/-- R473. -/
theorem test_jmp_short :
    let t := after [0xEB, 0x05] (base.setIp 0x100)
    t.ip = 0x107 := by decide

/-- R474. -/
theorem test_jmp_near :
    let t := after [0xE9, 0xFD, 0xFF] (base.setIp 0x50)
    t.ip = 0x50 := by decide

/-- R475. -/
theorem test_jmp_register :
    let t := after [0xFF, 0xE3] (base.setR16 .bx 0x1234)
    t.ip = 0x1234 := by decide

/-- R476. -/
theorem test_jmp_far :
    let t := after [0xEA, 0x5B, 0xE0, 0x00, 0xF0] base
    t.seg.cs = 0xF000 ∧ t.ip = 0xE05B := by decide

/-- R477. -/
theorem test_jmp_far_memory :
    let t := after [0xFF, 0x2E, 0x00, 0x05] (put 0x4000 0x500 [0x00, 0x01, 0x00, 0x20] base)
    t.seg.cs = 0x2000 ∧ t.ip = 0x100 := by decide

/-- R478. -/
theorem test_call_near :
    let t := after [0xE8, 0x10, 0x00] ((base.setIp 0x100).setR16 .sp 0x200)
    t.wordAt 0x3000 0x1FE = 0x103 ∧ t.r16 .sp = 0x1FE ∧ t.ip = 0x113 := by decide

/-- R480. -/
theorem test_call_far :
    let t := after [0x9A, 0x00, 0x01, 0x00, 0x20] base
    t.wordAt 0x3000 0xFE = 0x1000 ∧ t.wordAt 0x3000 0xFC = 5 ∧ t.r16 .sp = 0xFC ∧ t.seg.cs = 0x2000 ∧ t.ip = 0x100 := by decide

/-- R483. -/
theorem test_ret_immediate :
    let t := after [0xC2, 0x04, 0x00] (put 0x3000 0x1FE [0x03, 0x01] (base.setR16 .sp 0x1FE))
    t.ip = 0x103 ∧ t.r16 .sp = 0x204 := by decide

/-- R484. -/
theorem test_retf :
    let t := after [0xCB] (put 0x3000 0xFC [0x05, 0x00, 0x00, 0x10] (base.setR16 .sp 0xFC))
    t.ip = 5 ∧ t.seg.cs = 0x1000 ∧ t.r16 .sp = 0x100 := by decide

/-- R486. -/
theorem test_loop_last :
    let t := after [0xE2, 0xFE] (base.setR16 .cx 1)
    t.r16 .cx = 0 ∧ t.ip = 2 := by decide

/-- R488. -/
theorem test_loopnz :
    let t := after [0xE0, 0xF0] ((base.setR16 .cx 5).setIp 0x1E)
    t.r16 .cx = 4 ∧ t.ip = 0x10 := by decide

/-- R489. -/
theorem test_jcxz :
    let t := after [0xE3, 0x02] (base.setIp 0xE)
    t.ip = 0x12 := by decide

/-- R490. -/
theorem test_int :
    let t := after [0xCD, 0x21] ((put 0 0x84 [0x60, 0x14, 0xA7, 0x00] base).setFlags 0xF202)
    t.seg.cs = 0xA7 ∧ t.ip = 0x1460 ∧ t.flags = 0xF002 ∧ t.wordAt 0x3000 0xFE = 0xF202 ∧ t.wordAt 0x3000 0xFC = 0x1000 ∧ t.wordAt 0x3000 0xFA = 2 := by decide

/-- R493. -/
theorem test_iret :
    let t := after [0xCF] (put 0x3000 0xFA [0x05, 0x00, 0x00, 0x10, 0x02, 0x02] (base.setR16 .sp 0xFA))
    t.ip = 5 ∧ t.seg.cs = 0x1000 ∧ t.flags = 0xF202 ∧ t.r16 .sp = 0x100 := by decide

/-! ### Processor control (45_processor_control.md) and undocumented encodings (46_undefined_opcodes.md) -/

/-- R522. -/
theorem test_cmc :
    let t := after [0xF5] (base.setFlags 0xF003)
    t.flags = 0xF002 := by decide

/-- R524. -/
theorem test_std :
    let t := after [0xFD] base
    t.flags = 0xF402 := by decide

/-- R526. -/
theorem test_sti :
    let t := after [0xFB] base
    t.flags = 0xF202 := by decide

/-- R527. -/
theorem test_hlt :
    let t := after [0xF4] base
    t.halted = true ∧ t.ip = 1 ∧ t.demands = [.halt] := by decide

/-- R528. -/
theorem test_wait :
    let t := after [0x9B] base
    t.ip = 1 ∧ t.demands = [] := by decide

/-- R529. -/
theorem test_esc :
    let t := after [0xD9, 0x06, 0x00, 0x02] base
    t.ip = 4 ∧ t.lastEa = 0x200 ∧ t.demands.length = 2 := by decide

/-- R531. -/
theorem test_segment_prefix :
    let t := after [0x26, 0x8A, 0x05] (put 0x4000 0 [0x77] (put 0x2000 0 [0x5A] base))
    t.r8 .al = 0x5A ∧ t.dec.segOverride = none ∧ t.life = .fetch ∧ t.ip = 3 := by decide

/-- R551. -/
theorem test_jz_duplicate :
    let t := after [0x64, 0x10] (base.setFlags 0xF042)
    t.ip = 0x12 := by decide

/-- R556. -/
theorem test_salc :
    let t := after [0xD6] ((base.setFlags 0xF003).setR16 .ax 0x1200)
    t.r16 .ax = 0x12FF := by decide

/-- R557. -/
theorem test_setmo :
    let t := after [0xD0, 0xF0] base
    t.r8 .al = 0xFF := by decide

/-- R560. -/
theorem test_mov_to_segment_high :
    let t := after [0x8E, 0xE0] (base.setR16 .ax 0x1234)
    t.seg.es = 0x1234 := by decide

/-- R561. -/
theorem test_mov_immediate_high :
    let t := after [0xC6, 0xC8, 0x12] base
    t.r8 .al = 0x12 := by decide

/-- R564. -/
theorem test_lea_register :
    let t := after [0x8D, 0xC3] ((base.setR16 .bx 0x1111).setLastEa 0x2222)
    t.r16 .ax = 0x2222 ∧ t.lastEa = 0x2222 := by decide

/-! ### V20/V30 (47_v20_v30_extensions.md) -/

/-- R585. -/
theorem test_pusha :
    let t := after [0x60] ((nec.setR16 .ax 0x11).setR16 .di 0x22)
    t.r16 .sp = 0xF0 ∧ t.wordAt 0x3000 0xF0 = 0x22 ∧ t.wordAt 0x3000 0xFE = 0x11 ∧ t.wordAt 0x3000 0xF6 = 0x100 := by decide

/-- R587. -/
theorem test_bound_above :
    let t := after [0x62, 0x06, 0x00, 0x02] (put 0 0x14 [0x00, 0x01, 0x00, 0x20] (put 0x4000 0x200 [0x00, 0x00, 0x04, 0x00] (nec.setR16 .ax 5)))
    t.seg.cs = 0x2000 ∧ t.ip = 0x100 ∧ t.wordAt 0x3000 0xFA = 0 := by decide

/-- R588. -/
theorem test_push_immediate :
    let t := after [0x6A, 0xFF] nec
    t.wordAt 0x3000 0xFE = 0xFFFF := by decide

/-- R589. -/
theorem test_imul_immediate :
    let t := after [0x6B, 0xC3, 0x0A] (nec.setR16 .bx 7)
    t.r16 .ax = 70 := by decide

/-- R590. -/
theorem test_rep_outsb_first :
    let t := after [0x6E] (underRep .repe (put 0x4000 0 [0x41] ((nec.setR16 .cx 3).setR16 .dx 0x60)))
    t.bus.head? = some (.ioWrite 0x60 0x41) ∧ t.r16 .cx = 2 ∧ t.r16 .si = 1 := by decide

/-- R591. -/
theorem test_shl_immediate :
    let t := after [0xC1, 0xE0, 0x04] (nec.setR16 .ax 0x123)
    t.r16 .ax = 0x1230 := by decide

/-- R592. -/
theorem test_enter :
    let t := after [0xC8, 0x10, 0x00, 0x00] (nec.setR16 .bp 0x200)
    t.wordAt 0x3000 0xFE = 0x200 ∧ t.r16 .bp = 0xFE ∧ t.r16 .sp = 0xEE := by decide

/-- R593. -/
theorem test_leave :
    let t := after [0xC9] (put 0x3000 0xFE [0x00, 0x02] ((nec.setR16 .sp 0xEE).setR16 .bp 0xFE))
    t.r16 .bp = 0x200 ∧ t.r16 .sp = 0x100 := by decide

/-- R594. -/
theorem test_add4s :
    let t := after [0x0F, 0x20] (put 0x2000 0 [0x15] (put 0x4000 0 [0x27] (nec.setR16 .cx 2)))
    t.byteAt 0x20000 = 0x42 := by decide

/-- R583. -/
theorem test_undefined_opcode :
    let t := after [0x63] (put 0 0x18 [0x00, 0x01, 0x00, 0x20] nec)
    t.seg.cs = 0x2000 ∧ t.ip = 0x100 ∧ t.wordAt 0x3000 0xFA = 0 := by decide

/-! ### Results whose flags or memory hold free values, at the level of a meaning -/

/-- The state a meaning answers. -/
def ran (i : Instr) (s : State) : State :=
  match exec i s with
  | .next t => t
  | .fault _ => State.reset
  | .refused _ => State.reset

/-- R553: `0F` is POP CS on the 8088. -/
theorem test_pop_cs : decode .i8088 [0x0F, 0x90] = .ok .popCs [0x90] := by decide

/-- R370: the divide error pushes three words and changes no other register. -/
theorem test_div_by_zero :
    let t := ran (.divEbEv (.byte (.reg .cl))) (base.setR16 .ax 1)
    t.r16 .sp = 0xFA ∧ t.r16 .ax = 1 := by decide

/-- R366, R367: the adjustments and their carries. -/
theorem test_decimal_adjusted :
    decimalAdjusted false 0x9A 0xF002 = (0x00, true) ∧ decimalAdjusted true 0x2D 0xF012 = (0x27, false) := by decide

/-! ### Ill-formed terms are refused -/

/-- `mod = 00` with `r/m = 110` is the direct address: there is no BP form without displacement. -/
theorem test_wf_bp : (Instr.movGvEv .ax (.mem (.ind .bp))).wf = false := by decide

theorem test_wf_lea_mod01 : (Instr.leaMod01 .ax (.disp16 .bx 0x1234)).wf = false := by decide
theorem test_wf_lea_mod2 : (Instr.leaMod2 .ax (.disp8 .bx 0x12)).wf = false := by decide
theorem test_wf_jmp_mod2 : (Instr.jmpMpMod2 (.ind .bx)).wf = false := by decide
theorem test_wf_call_mod01 : (Instr.callMpMod01 (.disp16 .si 0)).wf = false := by decide

/-- `0F 20` has an instruction of its own. -/
theorem test_wf_ext0F : (Instr.ext0F 0x20).wf = false ∧ (Instr.ext0F 0x55).wf = true := by decide

/-- An instruction of the V20/V30 is none of the 8088, and the other way round. -/
theorem test_wf_cpu : Instr.pusha.on .i8088 = false ∧ (Instr.joDup60 0).on .v20 = false ∧ Instr.popCs.on .v30 = false := by
  decide

/-! ### Instruction words written out from the encodings of the spec, one family each -/

/-- 41: `81 /7 iw` with `mod = 10`, `r/m = 010` (BP + SI + disp16). -/
theorem test_decode_cmp :
    decode .i8088 [0x81, 0b10111010, 0x34, 0x12, 0x78, 0x56] = .ok (.cmpEvIv (.mem (.disp16 .bpsi 0x1234)) 0x5678) [] := by
  decide

/-- 41: `FE /1` and `F7 /5`. -/
theorem test_decode_unary :
    decode .i8088 [0xFE, 0b11001001] = .ok (.decEbEv (.byte (.reg .cl))) [] ∧
    decode .i8088 [0xF7, 0b11101011] = .ok (.imulEbEv (.word (.reg .bx))) [] := by decide

/-- 42: `D2 /5` on a byte in memory at DI, by CL. -/
theorem test_decode_shift : decode .i8088 [0xD2, 0b00101101] = .ok (.shrEbEv (.byte (.mem (.ind .di))) .cl) [] := by decide

/-- 40: the register field of `8A` and `88`, and the segment field of `8C`. -/
theorem test_decode_mov :
    decode .i8088 [0x8A, 0b11100001] = .ok (.movGbEb .ah (.reg .cl)) [] ∧
    decode .i8088 [0x88, 0b01001111, 0x80] = .ok (.movEbGb (.mem (.disp8 .bx 0x80)) .cl) [] ∧
    decode .i8088 [0x8C, 0b00011110, 0x00, 0x02] = .ok (.movEwSw (.mem (.direct 0x0200)) .ds) [] := by decide

/-- 43: `AE`. -/
theorem test_decode_scas : decode .i8088 [0b10101110] = .ok .scasb [] := by decide

/-- 44: `7C`, `E2`, `9A` with the offset first, `FF /3`. -/
theorem test_decode_control :
    decode .i8088 [0x7C, 0xFE] = .ok (.jl 0xFE) [] ∧ decode .i8088 [0xE2, 0x10] = .ok (.loop 0x10) [] ∧
    decode .i8088 [0x9A, 0x00, 0x01, 0x00, 0x20] = .ok (.callAp 0x0100 0x2000) [] ∧
    decode .i8088 [0xFF, 0b00011111] = .ok (.callMpMod01 (.ind .bx)) [] := by decide

/-- 45: ESC carries the low bits of the opcode and the register field. -/
theorem test_decode_processor :
    decode .i8088 [0xD9, 0b11000000 ||| 0b00101010] = .ok (.esc 1 5 (.reg .dx)) [] ∧
    decode .i8088 [0xF4] = .ok .hlt [] ∧ decode .i8088 [0x2E] = .ok .segCs [] := by decide

/-- 46: `82 /0`, `D6`, `F1`, `FF /7`. -/
theorem test_decode_undocumented :
    decode .i8088 [0x82, 0b11000011, 0x05] = .ok (.addEbIb82 (.reg .bl) 0x05) [] ∧ decode .i8088 [0xD6] = .ok .salc [] ∧
    decode .i8088 [0xF1] = .ok .lockF1 [] ∧ decode .i8088 [0xFF, 0b11111000] = .ok (.pushEvReg7 (.reg .ax)) [] := by
  decide

/-- 47: `6B`, `C1 /4`, `0F FF`. -/
theorem test_decode_nec :
    decode .v20 [0x6B, 0b11000011, 0x0A] = .ok (.imulGvEvIbs .ax (.reg .bx) 0x0A) [] ∧
    decode .v20 [0xC1, 0b11100000, 0x04] = .ok (.shlEbEvIb (.word (.reg .ax)) 0x04) [] ∧
    decode .v20 [0x0F, 0xFF, 0x21] = .ok .brkem [] := by decide

/-! ### Ticks (98_test_vectors_cycle_level.md) -/

/-- No wait states, and nothing from a device. -/
def still : BusIn := { wait := 0, data := 0 }

/-- A number of idle ticks. -/
def idleTicks : Nat → State → State
  | 0, s => s
  | n + 1, s => idleTicks n (tick .idle still s)

/-- R131, R151: from reset the first code fetch passes Tr, Ts and T0 and begins with T1 at 0xFFFF0. -/
theorem test_first_fetch :
    (idleTicks 1 State.reset).biu.ta = .tr ∧ (idleTicks 3 State.reset).biu.ta = .t0 ∧
    (idleTicks 4 State.reset).biu.tState = .t1 ∧ (idleTicks 5 State.reset).biu.busState = .codeFetch ∧
    (idleTicks 5 State.reset).biu.address = 0xFFFF0 := by decide

/-- R144: the byte is in the queue after T4. -/
theorem test_fetch_ends :
    (idleTicks 7 State.reset).biu.tState = .t4 ∧ (idleTicks 8 State.reset).queue = [0] ∧
    (idleTicks 8 State.reset).pc = 1 := by decide

/-- R173: the refresh countdown reloads and asks for the bus. -/
theorem test_refresh_request :
    (tick .idle still (State.reset.setDma { st := .idle, refreshCtr := 1 })).dma =
      { st := .dreq, refreshCtr := State.reset.cfg.refreshPeriod } := by decide

/-! ### Witnesses: for every statement with hypotheses, a state and operands that meet them -/

/-- ROM at the top, a hole and a device below it; RAM elsewhere. -/
def mapped : State :=
  { base with cfg := { Cfg.reset with regions :=
      [⟨0xF0000, 0x10000, .rom⟩, ⟨0xE0000, 0x1000, .unmapped⟩, ⟨0xD0000, 0x1000, .device⟩] } }

theorem witness_DecodeOfEncode :
    (Instr.movEvIv (.mem (.direct 0xFFFF)) 0xFFFF).wf = true ∧ (Instr.movEvIv (.mem (.direct 0xFFFF)) 0xFFFF).on .i8086 = true ∧
    (Instr.enter 0xFFFF 0xFF).wf = true ∧ (Instr.enter 0xFFFF 0xFF).on .v20 = true := by decide

theorem witness_DecodeSound :
    decode .i8088 [0x90] = .ok .nop [] ∧ maxInstrBytes ≤ [0x0F, 0xFF, 0xFF, 0xFF, 0xFF, (0xFF : Byte)].length := by decide

theorem witness_FlagComputations : ((8 : Nat) = 8 ∨ (8 : Nat) = 16) ∧ ((16 : Nat) = 8 ∨ (16 : Nat) = 16) := by decide
theorem witness_ShiftRotateResults : ((16 : Nat) = 8 ∨ (16 : Nat) = 16) ∧ 0 < 1 ∧ 0 < 255 := by decide
theorem witness_ShiftFlags : ((8 : Nat) = 8 ∨ (8 : Nat) = 16) ∧ 0 < 1 ∧ 0 < 2 := by decide

theorem witness_MemoryAccess_ram : mapped.kindAt (lin 0xD100 0) = .ram ∧ mapped.kindAt (lin 0 0) = .ram := by decide
theorem witness_MemoryAccess_rom : mapped.kindAt (lin 0xF000 0) = .rom ∧ mapped.kindAt (lin 0xF000 0xFFFF) = .rom := by decide
theorem witness_MemoryAccess_unmapped : mapped.kindAt (lin 0xE000 0x0FFF) = .unmapped := by decide
theorem witness_MemoryAccess_device :
    (mapped.setDevIn [0x5A]).kindAt (lin 0xD000 0) = .device ∧ (mapped.setDevIn [0x5A]).devIn = [0x5A] := by decide
theorem witness_MemoryAccess_word : mapped.wordInMemory 0x3000 0xFFFF := by
  unfold State.wordInMemory State.isMemory; decide
theorem witness_MemoryAccess_cycles :
    ({ base with cfg := Cfg.ofCpu .i8086 } : State).oneCycle (lin 0x3000 0xFE) = true ∧
    base.oneCycle (lin 0x3000 0xFE) = false := by decide

/-- A store to the byte after the queued ones, which a fill of the schedule fetches before it: the old byte is queued. -/
theorem witness_StoreAndCode :
    let s := ((put 0x1000 2 [0x90] base).setQueue [0xAA, 0xBB]).setPc 2 |>.setFills [1]
    s.biu.inFlight = 0 ∧ s.stale = [] ∧ s.kindAt (lin (s.codeSeg 2) 2) = .ram ∧
    (writeByte .ds 0x1000 2 0x40 s).queue = [0xAA, 0xBB, 0x90] ∧ (writeByte .ds 0x1000 2 0x40 s).byteAt 0x10002 = 0x40 := by decide

theorem witness_PushAndPop :
    base.wordInMemory base.seg.ss (base.r16 .sp) ∧ Memory.wf base.mem = true ∧
    base.isRam (lin base.seg.ss (base.r16 .sp - 2)) ∧ base.isRam (lin base.seg.ss (base.r16 .sp - 1)) := by
  unfold State.wordInMemory State.isMemory State.isRam; decide

theorem witness_OperandValues :
    base.isMemory (lin (base.sreg (eaSeg (.ind .bpsi) base)) (eaOff (.ind .bpsi) base)) ∧
    base.wordInMemory (base.sreg (eaSeg (.direct 0xFFFF) base)) (eaOff (.direct 0xFFFF) base) ∧
    base.wordInMemory (base.sreg .es) (0xFFFE + 2) := by
  unfold State.wordInMemory State.isMemory; decide

theorem witness_IretUndoesInterrupt :
    Memory.wf base.mem = true ∧ flagsPinned base.flags = true ∧ ∀ a ∈ stackBytes base 3, base.isRam a :=
  ⟨by decide, by decide, fun _ _ => rfl⟩

/-- With LOCK asserted by a prefix, and without. -/
theorem witness_BoundaryWithoutInterrupt :
    (let s := (base.setLock true).setDec { base.dec with lockPrefix := true }
     s.nmiLatch = false ∧ s.pins.intr = false ∧ s.dec.tfAtStart = false ∧ (s.lock && !s.dec.lockPrefix) = false) ∧
    base.nmiLatch = false ∧ (base.pins.intr = false ∨ flagIF base.flags = false ∨ base.inhibit = true) ∧
    base.dec.tfAtStart = false := by decide

/-- The INTR input active, with this vector. -/
def asking (v : Byte) (s : State) : State := s.setPins { s.pins with intr := true, vector := v }

/-- TF was set when the instruction began. -/
def tracing (s : State) : State := s.setDec { s.dec with tfAtStart := true }

theorem witness_BoundaryNmi :
    let s := base.setNmiLatch true
    s.nmiLatch = true ∧ s.dec.tfAtStart = false ∧ s.script = [] ∧ s.wordInMemory 0 8 ∧ s.wordInMemory 0 10 := by
  unfold State.wordInMemory State.isMemory; decide

theorem witness_BoundaryIntr :
    let s := asking 0xFF (base.setFlags 0xF202)
    s.nmiLatch = false ∧ s.pins.intr = true ∧ flagIF s.flags = true ∧ s.inhibit = false ∧ s.dec.tfAtStart = false ∧
    s.script = [] ∧ s.wordInMemory 0 (BitVec.ofNat 16 (4 * s.pins.vector.toNat)) ∧
    s.wordInMemory 0 (BitVec.ofNat 16 (4 * s.pins.vector.toNat + 2)) := by
  unfold State.wordInMemory State.isMemory; decide

theorem witness_BoundarySingleStep :
    let s := tracing ((asking 8 (base.setFlags 0xF302)).setInhibit true)
    s.nmiLatch = false ∧ (s.pins.intr = false ∨ flagIF s.flags = false ∨ s.inhibit = true) ∧ s.dec.tfAtStart = true ∧
    s.script = [] ∧ s.wordInMemory 0 4 ∧ s.wordInMemory 0 6 := by
  unfold State.wordInMemory State.isMemory; decide

theorem witness_BoundaryBoth_nmi :
    let s := tracing (base.setNmiLatch true)
    (s.nmiLatch = true ∨ (s.pins.intr = true ∧ flagIF s.flags = true ∧ s.inhibit = false)) ∧ s.dec.tfAtStart = true ∧
    s.script = [] ∧ s.wordInMemory 0 (BitVec.ofNat 16 (4 * 2)) ∧ s.wordInMemory 0 (BitVec.ofNat 16 (4 * 2 + 2)) ∧ s.wordInMemory 0 4 ∧
    s.wordInMemory 0 6 := by
  unfold State.wordInMemory State.isMemory; decide

theorem witness_BoundaryBoth_intr :
    let s := tracing (asking 8 (base.setFlags 0xF302))
    s.nmiLatch = false ∧ (s.pins.intr = true ∧ flagIF s.flags = true ∧ s.inhibit = false) ∧ s.dec.tfAtStart = true ∧
    s.wordInMemory 0 (BitVec.ofNat 16 (4 * 8)) ∧ s.wordInMemory 0 (BitVec.ofNat 16 (4 * 8 + 2)) := by
  unfold State.wordInMemory State.isMemory; decide

theorem witness_SequenceStep :
    let s := checkInterrupts (tracing (asking 8 (base.setFlags 0xF302)))
    let u := checkInterrupts (base.setNmiLatch true)
    s.script = [] ∧ s.sequences = .intr :: [.singleStep] ∧ s.wordInMemory 0 (BitVec.ofNat 16 (4 * 8)) ∧
    s.wordInMemory 0 (BitVec.ofNat 16 (4 * 8 + 2)) ∧ u.script = [] ∧ u.sequences = .nmi :: [] := by
  unfold State.wordInMemory State.isMemory; decide

/-- R8, R629: an NMI and the single-step trap at one boundary are two steps after the instruction's. The frame of the second returns to
the handler of the first. -/
theorem test_two_sequences :
    let s := (put 0 4 [0x00, 0x02, 0x00, 0x50, 0x00, 0x03, 0x00, 0x60] base).setFlags 0xF102
    let t := after [0x90] (s.setNmiLatch true)
    let u := after [] t
    let w := after [] u
    t.ip = 1 ∧ t.sequences = [.nmi, .singleStep] ∧ u.sequences = [.singleStep] ∧ u.seg.cs = 0x6000 ∧ u.ip = 0x0300 ∧
    w.sequences = [] ∧ w.seg.cs = 0x5000 ∧ w.ip = 0x0200 ∧ w.life = .fetch ∧ w.byteAt 0x300F4 = 0x00 ∧ w.byteAt 0x300F5 = 0x03 := by
  decide

/-- R530, R278: LOCK is asserted during its instruction and released at its boundary; the prefix and the instruction are one step. -/
theorem test_lock_released :
    let s := put 0x1000 0 [0xF0, 0x90] base
    (lockPrefixOp s).lock = true ∧ (after [] s).lock = false ∧ (after [] s).ip = 2 ∧ (after [] s).dec = DecodeState.clear := by decide

theorem witness_ResetInput : (base.setScript [.reset, .eu]).script = .reset :: [.eu] := by decide

theorem witness_StepRunsDecoded :
    base.script = [] ∧ base.halted = false ∧ base.sequences = [] ∧ (beginStep base).biu.fetchState ≠ .halted ∧ base.biu.fetchState ≠ .halted ∧ base.life ≠ .execute ∧ base.life ≠ .decodePrefix ∧
    base.biu.cycle = none ∧ base.fills = [] ∧ base.biu.prep ≠ .fetch ∧
    decode base.cfg.cpu (beginStep base).window = .ok (.addEbGb (.mem (.ind .bxsi)) .al) [0, 0, 0, 0] ∧ (beginStep base).codeAt 0 = 0 ∧
    (let u := put 0x1000 0 [0x0F, 0x20] nec
     u.cfg.cpu.isNec = true ∧ (beginStep u).codeAt 0 = 0x0F ∧ (beginStep u).codeAt 1 = 0x20 ∧
     decode u.cfg.cpu (beginStep u).window = .ok .add4s [0, 0, 0, 0]) := by decide

/-- A code fetch in T3: the step completes it. Then the prefetcher makes the fill of the schedule. -/
theorem witness_StepRunsDecoded_fetch_on_the_bus :
    let s := (idleTicks 6 State.reset).setFills [1]
    s.script = [] ∧ s.halted = false ∧ s.sequences = [] ∧ s.biu.fetchState ≠ .halted ∧ s.life ≠ .execute ∧ s.life ≠ .decodePrefix ∧
    s.biu.cycle ≠ none ∧ (beginStep s).queue.length = 2 ∧
    decode s.cfg.cpu (beginStep s).window = .ok (.addEbGb (.mem (.ind .bxsi)) .al) [0, 0, 0, 0] := by decide

/-- A code fetch in T1 (R149): its two bytes, of a word at an even PC, are queued. -/
theorem witness_StepRunsDecoded_fetch_in_t1 :
    let s := idleTicks 4 (put 0x1000 0 [0x90, 0xF4] { base with cfg := Cfg.ofCpu .i8086 })
    s.script = [] ∧ s.halted = false ∧ s.sequences = [] ∧ s.biu.fetchState ≠ .halted ∧ s.life ≠ .execute ∧
    s.biu.cycle = none ∧ s.fills = [] ∧
    s.biu.tState = .t1 ∧ s.biu.prep = .fetch ∧ s.cfg.busWidth = .word ∧ s.pc.toNat % 2 = 0 ∧ (beginStep s).queue = [0x90, 0xF4] ∧
    decode s.cfg.cpu (beginStep s).window = .ok .nop [0xF4, 0, 0, 0, 0] ∧
    (let u := idleTicks 4 { base with ip := 3, pc := 3 }
     u.biu.tState = .t1 ∧ u.biu.prep = .fetch ∧ (beginStep u).pc = 4) := by decide

theorem witness_StepRunsDecoded_after_prefix :
    let s := underRep .repe (put 0x1000 0 [0xA4] base)
    s.script = [] ∧ s.halted = false ∧ s.sequences = [] ∧ s.biu.fetchState ≠ .halted ∧ s.life = .decodePrefix ∧
    s.life ≠ .execute ∧ (beginStep s).biu.fetchState ≠ .halted ∧ decode s.cfg.cpu (beginStep s).window = .ok .movsb [0, 0, 0, 0, 0] := by decide

/-- The outcomes of a meaning: the boundary, a prefix, an instruction that goes on. -/
theorem witness_StepRunsDecoded_outcomes :
    (∃ t, exec .nop (base.setLife .checkInterrupts) = .next t ∧ t.life = .checkInterrupts) ∧
    (∃ t, exec .lock base = .next t ∧ t.life = .decodePrefix) ∧
    (∃ t, exec .wait (base.setPins { base.pins with test := false }) = .next t ∧ t.life = .execute) :=
  ⟨⟨_, rfl, rfl⟩, ⟨_, rfl, rfl⟩, ⟨_, rfl, rfl⟩⟩

theorem witness_StepRunsDecoded_next : ∃ t, exec .nop base = .next t := ⟨base, rfl⟩
theorem witness_StepRunsDecoded_refused : exec .fe2 base = .refused .byteFormOfGroup5 := rfl

theorem witness_NextBytes :
    let s := base.setQueue [0x90, 0xF4]
    s.queue[1]? = some 0xF4 ∧ s.queue.length ≤ 2 ∧ 5 < maxInstrBytes ∧ s.stale = [] ∧
    s.isMemory (lin (s.codeSeg (s.ip + BitVec.ofNat 16 5)) (s.ip + BitVec.ofNat 16 5)) := by
  unfold State.isMemory; decide

theorem witness_StepGoesOn :
    let s := (base.setDec { base.dec with instr := some .wait }).setLife .execute
    s.script = [] ∧ s.halted = false ∧ s.sequences = [] ∧ s.biu.fetchState ≠ .halted ∧ s.life = .execute ∧
    s.dec.instr = some .wait ∧
    (let h := base.setHalted true
     h.script = [] ∧ h.halted = true ∧ h.sequences = [] ∧ h.nmiLatch = false ∧ h.pins.intr = false ∧ h.dec.tfAtStart = false ∧
     (h.setNmiLatch true).nmiLatch = true) ∧
    (let u := tick (.request haltRequest) still State.reset
     u.script = [] ∧ u.halted = false ∧ u.sequences = [] ∧ u.biu.fetchState = .halted) := by decide

/-- R631: an NMI ends a halt, and its sequence is that same step; with nothing to accept the CPU stays halted. -/
theorem test_wake :
    let s := (put 0 8 [0x00, 0x03, 0x00, 0x60] base).setHalted true
    let t := after [] (s.setNmiLatch true)
    t.halted = false ∧ t.seg.cs = 0x6000 ∧ t.ip = 0x0300 ∧ t.sequences = [] ∧ t.life = .fetch ∧
    (after [] s).halted = true ∧ (after [] s).ip = 0 := by decide

theorem witness_InterruptInputs :
    (base.setScript [.nmi true]).script = .nmi true :: [] ∧ (base.setScript [.intr true 8]).script = .intr true 8 :: [] ∧
    (base.setScript [.test false]).script = .test false :: [] := by decide

/-- The outcome is a next state. -/
def answersNext (o : Host.Outcome State Fault Refusal) : Bool :=
  match o with
  | .next _ => true
  | .fault _ => false
  | .refused _ => false

theorem next_of_answersNext {o : Host.Outcome State Fault Refusal} (h : answersNext o = true) : ∃ t, o = .next t := by
  cases o with
  | next t => exact ⟨t, rfl⟩
  | fault f => cases h
  | refused r => cases h

theorem witness_StepKeepsInvariant : State.reset.Inv ∧ ∃ t, step State.reset = .next t := by
  exact ⟨⟨by decide, by decide, by decide, by decide, by decide⟩, next_of_answersNext (by decide)⟩

theorem witness_WhatStepsLeaveAlone : ∃ t, exec .hlt base = .next t ∧ t.halted = true := ⟨_, rfl, rfl⟩

/-- Each of the cases: no access and no immediate, an immediate after the operand, a load of CS, a flush. -/
theorem witness_WhatInstructionsDoToTheQueue :
    (∃ t, exec .cbw base = .next t ∧ t.demands = base.demands) ∧ Instr.lateBytes .cbw = 0 ∧ loadsCs .cbw = false ∧
    base.fills = [] ∧ base.biu.inFlight = 0 ∧ base.biu.prep ≠ .fetch ∧ Instr.lateBytes (.cmpEvIv (.mem (.direct 0xFFFF)) 0xFFFF) = 2 ∧
    base.pc = base.ip + BitVec.ofNat 16 base.queue.length ∧ loadsCs .popCs = true ∧ mayFlush (.jz 0x80) = true :=
  ⟨⟨_, rfl, rfl⟩, by decide⟩

theorem witness_TwoOperandBytes :
    (AluOp.add, Instr.addEbGb) ∈ aluEbGbForms ∧ (AluOp.cmp, Instr.cmpGbEb) ∈ aluGbEbForms ∧
    (AluOp.xor, Instr.xorEbIb82) ∈ aluEbIbForms ∧ (AluOp.test, Instr.testAlIb) ∈ aluAlIbForms := by
  simp [aluEbGbForms, aluGbEbForms, aluEbIbForms, aluAlIbForms]

theorem witness_TwoOperandWords :
    (AluOp.adc, Instr.adcEvGv) ∈ aluEvGvForms ∧ (AluOp.sbb, Instr.sbbGvEv) ∈ aluGvEvForms ∧
    (AluOp.test, Instr.testEvIvReg1) ∈ aluEvIvForms ∧ (AluOp.cmp, Instr.cmpEvIbs) ∈ aluEvIbsForms ∧
    (AluOp.sub, Instr.subAxIv) ∈ aluAxIvForms := by
  simp [aluEvGvForms, aluGvEvForms, aluEvIvForms, aluEvIbsForms, aluAxIvForms]

theorem witness_ShiftRotateForms_zero :
    (ShiftOp.rcl, Instr.rclEbEv) ∈ shiftForms ∧ ((base.setR8 .cl 0).r8 .cl &&& base.cfg.shiftCountMask).toNat = 0 ∧
    (ShiftOp.rol, Instr.rolEbEvIb) ∈ shiftImmForms ∧ ((0x20 : Byte) &&& nec.cfg.shiftCountMask).toNat = 0 := by
  refine ⟨by simp [shiftForms], by decide, by simp [shiftImmForms], by decide⟩

theorem witness_ShiftRotateForms_counted :
    (ShiftOp.sar, Instr.sarEbEv) ∈ shiftForms ∧ 0 < ((base.setR8 .cl 0xFF).r8 .cl &&& base.cfg.shiftCountMask).toNat ∧
    (ShiftOp.shr, Instr.shrEbEvIb) ∈ shiftImmForms ∧ 0 < ((0x1F : Byte) &&& nec.cfg.shiftCountMask).toNat := by
  refine ⟨by simp [shiftForms], by decide, by simp [shiftImmForms], by decide⟩

theorem witness_OneOperand : (base.setR8 .cl 1).r8 .cl ≠ 0 ∧ base.r8 .cl = 0 := by decide

theorem witness_MultiplyProducts : base.repBefore = false := by decide

/-- The largest quotients: 255 from a byte, 65535 from a word. -/
theorem witness_DivideUnsigned :
    let s := (base.setR16 .ax 0xFFFF).setR16 .bx 0xFFFF
    let u := (s.setR16 .dx 0xFFFE)
    (RM8.reg .bl).value ((base.setR16 .ax 0x00FF).setR16 .bx 1) ≠ 0 ∧ (0x00FF : Word).toNat / 1 ≤ 255 ∧
    (RM16.reg .bx).value u ≠ 0 ∧
    ((u.r16 .dx).toNat * 65536 + (u.r16 .ax).toNat) / ((RM16.reg .bx).value u).toNat ≤ 65535 ∧ u.repBefore = false := by
  decide

/-- -127 by the general rule, and -128 where the parameter lets it be. -/
theorem witness_DivideSigned :
    let s := (base.setR16 .ax 0xFF81).setR16 .bx 1
    let u := { (s.setR16 .ax 0xFF80) with cfg := { Cfg.reset with idivMinTraps := false } }
    (RM8.reg .bl).value s ≠ 0 ∧ (s.r16 .ax).toInt.tdiv ((RM8.reg .bl).value s).toInt = -127 ∧
    (RM8.reg .bl).value u ≠ 0 ∧ (u.r16 .ax).toInt.tdiv ((RM8.reg .bl).value u).toInt = -128 ∧
    u.cfg.cpu.isNec = false ∧ u.cfg.idivMinTraps = false ∧ u.repBefore = false := by decide

theorem witness_DivideSigned_nec :
    let s := (nec.setR16 .ax 0xFF80).setR16 .bx 1
    let u := ((nec.setR16 .ax 0x8000).setR16 .dx 0xFFFF).setR16 .bx 1
    s.cfg.cpu.isNec = true ∧ (RM8.reg .bl).value s ≠ 0 ∧ (s.r16 .ax).toInt.tdiv ((RM8.reg .bl).value s).toInt = -128 ∧
    (RM16.reg .bx).value u ≠ 0 ∧ (u.r16 .dx ++ u.r16 .ax).toInt.tdiv ((RM16.reg .bx).value u).toInt = -32768 := by decide

theorem witness_DivideSigned_word :
    let s := ((base.setR16 .ax 0x8001).setR16 .dx 0xFFFF).setR16 .bx 1
    (RM16.reg .bx).value s ≠ 0 ∧ (s.r16 .dx ++ s.r16 .ax).toInt.tdiv ((RM16.reg .bx).value s).toInt = -32767 := by decide

theorem witness_DivideError :
    (RM8.reg .bl).value base = 0 ∧ (RM16.reg .bx).value base = 0 ∧
    255 < (0x0100 : Word).toNat / ((RM8.reg .bl).value (base.setR16 .bx 1)).toNat ∧
    65535 < (((base.setR16 .dx 1).r16 .dx).toNat * 65536 + 0) / ((RM16.reg .bx).value (base.setR16 .bx 1)).toNat ∧
    127 < ((0x0080 : Word).toInt).tdiv ((RM8.reg .bl).value (base.setR16 .bx 1)).toInt ∧
    base.cfg.idivMinTraps = true ∧ ((0xFF80 : Word).toInt).tdiv ((RM8.reg .bl).value (base.setR16 .bx 1)).toInt = -128 ∧
    base.cfg.cpu.isNec = false := by decide

theorem witness_AsciiAndDecimalAdjust :
    (decide (9 < ((base.setR16 .ax 0x0A).r8 .al).toNat % 16) || flagAF base.flags) = true ∧
    (decide (9 < (base.r8 .al).toNat % 16) || flagAF base.flags) = false ∧
    (decide (0x99 < ((base.setR16 .ax 0x9A).r8 .al).toNat) || flagCF base.flags) = true ∧
    (flagAF base.flags = false ∨ (0x99 : Byte).toNat < 0x9A ∨ 0x9F < (0xA0 : Byte).toNat) ∧
    (flagAF (0xF013 : Word) = true ∧ flagCF (0xF013 : Word) = true) := by decide

theorem witness_BaseAndSign :
    nec.cfg.cpu.isNec = true ∧ (16 : Byte) ≠ 10 ∧ base.cfg.cpu.isNec = false ∧ (0xFF : Byte) ≠ 0 ∧ (10 : Byte) ≠ 0 := by decide

theorem witness_MoveForms : Instr.movEbIb ∈ movEbIbForms ∧ Instr.movEvIvReg7 ∈ movEvIvForms := by
  simp [movEbIbForms, movEvIvForms]

/-- R121, R685: MOV CS with a byte queued keeps it, and the old segment is remembered. -/
theorem test_mov_to_cs :
    let t := after [0x8E, 0xC8] ((base.setR16 .ax 0x1234).setFills [4])
    t.seg.cs = 0x1234 ∧ t.stale = [0x1000] ∧ t.queue = [0x00, 0x00] ∧ t.pc = t.ip + 2 := by decide

/-- R553: the next flush ends it. -/
theorem test_flush_after_cs_load : (nearTransfer 5 (base.setStale [0x1000])).stale = [] := by decide

theorem witness_LoadSegment : (SReg.ds, Instr.movDsEw7) ∈ movSregForms ∧ (SReg.cs, Instr.popCs) ∈ popSregForms := by
  simp [movSregForms, popSregForms]

theorem witness_PushForms : (SReg.es, Instr.pushEs) ∈ pushSregForms ∧ Reg16.bp ≠ .sp ∧ RM16.mem (.direct 0) ≠ .reg .sp := by decide

theorem witness_PopForms :
    Instr.popR16 .sp ∈ (Instr.popR16 .sp :: popEvForms.map fun f => f (.reg .sp)) ∧ Instr.popEvReg7 ∈ popEvForms ∧
    Reg16.ax ≠ .sp := by simp [popEvForms]

theorem witness_ExchangeForms : (Reg16.di, Instr.xchgAxDi) ∈ xchgAxForms := by decide

theorem witness_LoadAddress :
    (Instr.leaMod2 .ax (.disp16 .bp 0xFFFF) = .leaMod01 .ax (.disp16 .bp 0xFFFF) ∨
      Instr.leaMod2 .ax (.disp16 .bp 0xFFFF) = .leaMod2 .ax (.disp16 .bp 0xFFFF)) ∧
    (SReg.ds = .es ∧ (Instr.ldsMod01 .si (.direct 0) = .lesMod01 .si (.direct 0) ∨
        Instr.ldsMod01 .si (.direct 0) = .lesMod2 .si (.direct 0)) ∨
      SReg.ds = .ds ∧ (Instr.ldsMod01 .si (.direct 0) = .ldsMod01 .si (.direct 0) ∨
        Instr.ldsMod01 .si (.direct 0) = .ldsMod2 .si (.direct 0))) ∧
    (SReg.es = .es ∧ Instr.lesMod3 .di .ax = .lesMod3 .di .ax ∨ SReg.es = .ds ∧ Instr.lesMod3 .di .ax = .ldsMod3 .di .ax) := by
  decide

theorem witness_InputOutput :
    (∃ b : Byte, Instr.inAxIb 0xFF = .inAxIb b ∧ (0xFF : Word) = b.setWidth 16) ∧
    (base.setDevIn [0x12, 0x34]).devIn = 0x12 :: 0x34 :: [] ∧
    (∃ b : Byte, Instr.outIbAl 0x80 = .outIbAl b ∧ (0x80 : Word) = b.setWidth 16) ∧
    (Instr.outDxAx = .outDxAx ∧ (0 : Word) = base.r16 .dx) :=
  ⟨⟨0xFF, rfl, rfl⟩, rfl, ⟨0x80, rfl, rfl⟩, rfl, rfl⟩

theorem witness_ConditionalJumps :
    ((4 : Nat), Instr.jz) ∈ jccForms ∧ condition 4 0xF042 = true ∧ condition 4 base.flags = false ∧
    (base.setR16 .cx 1).r16 .cx = 1 ∧ base.r16 .cx ≠ 1 ∧ base.r16 .cx = 0 ∧ flagZF (0xF042 : Word) = true ∧
    (!flagZF (0xF042 : Word)) = false := by
  refine ⟨by simp [jccForms], by decide⟩

theorem witness_JumpForms : Instr.jmpMpMod2 (.disp16 .bx 0) ∈ [Instr.jmpMpMod01 (.disp16 .bx 0), .jmpMpMod2 (.disp16 .bx 0)] := by
  decide
theorem witness_CallForms : Instr.callMpMod01 (.ind .bx) ∈ [Instr.callMpMod01 (.ind .bx), .callMpMod2 (.ind .bx)] := by decide

theorem witness_ReturnForms :
    ((0 : Word) = 0 ∧ (Instr.retC1 = .ret ∨ Instr.retC1 = .retC1)) ∧ Instr.retfIwC8 0xFFFF = .retfIwC8 0xFFFF ∧
    base.wordInMemory base.seg.ss (base.r16 .sp + 2) ∧ base.wordInMemory base.seg.ss (base.r16 .sp + 4) := by
  unfold State.wordInMemory State.isMemory; decide

theorem witness_InterruptInstructions :
    flagOF (0xF802 : Word) = true ∧ flagOF base.flags = false ∧ Instr.undef8DMod3 ∈ undefinedForms ∧
    Instr.undefFe7 ∈ undefinedGroupForms ∧ ((0xFE : Byte), (7 : BitVec 3)) ∈ undefinedGroupCodes ∧ CpuModel.v20.isNec = true ∧
    (RMW.byte (.mem (.disp16 .bp 0xFFFF))).wf = true ∧ (0xFE : Byte) &&& 1 = (RMW.byte (.mem (.disp16 .bp 0xFFFF))).wBit ∧
    ((0xC1 : Byte), (6 : BitVec 3)) ∈ undefinedGroupCodes ∧ (0xC1 : Byte) &&& 1 = (RMW.word (.reg .di)).wBit ∧
    (0xC5 : Byte) ∈ [(0x62 : Byte), 0x8D, 0xC4, 0xC5] ∧ (5 : BitVec 3) ∈ [(3 : BitVec 3), 5] ∧ CpuModel.i8086.isNec = false := by decide

/-- R262, R583: the record of C1 /6 with a memory operand, of D3 /6 with a register, of 62 with mod 3, of FE /7, and of 0F 20. -/
theorem test_record_of_c1 :
    let d := (readyToExec .undefC0Reg6 4 (put 0x1000 0 [0xC1, 0x70, 0x10, 0x05] nec)).dec
    d.opcode = some 0xC1 ∧ d.mandatory = none ∧ d.length = 4 ∧
    d.operands = { first := .addressingMode (.disp8 .bxsi 0x10), second := .immediate8 5, size := .operand16 } := by decide
theorem test_record_of_d3 :
    let d := (readyToExec .undefD0Reg6 2 (put 0x1000 0 [0xD3, 0xF1] nec)).dec
    d.opcode = some 0xD3 ∧ d.operands = { first := .register16 .cx, second := .implicit, size := .operand16 } := by decide
theorem test_record_of_62 :
    let d := (readyToExec .undef62Mod3 2 (put 0x1000 0 [0x62, 0xC1] nec)).dec
    d.opcode = some 0x62 ∧ d.operands = { first := .register16 .ax, second := .register16 .cx, size := .operand16 } := by decide
theorem test_record_of_fe7 :
    let d := (readyToExec .undefFe7 2 (put 0x1000 0 [0xFE, 0xFC] nec)).dec
    d.opcode = some 0xFE ∧ d.operands = { first := .register8 .ah, second := .none, size := .operand8 } := by decide
theorem test_record_of_0f20 :
    let d := (readyToExec .add4s 2 (put 0x1000 0 [0x0F, 0x20] nec)).dec
    d.opcode = some 0x20 ∧ d.mandatory = some 0x0F ∧ d.operands = OperandPair.empty := by decide

theorem witness_FlagInstructions : (ifMask, true, Instr.sti) ∈ flagForms := by decide

theorem witness_HaltWaitEscape :
    base.testActive = true ∧ ((base.setPins { base.pins with test := false }).setNmiLatch true).nmiLatch = true ∧
    (let s := asking 8 ((base.setPins { base.pins with test := false }).setFlags 0xF202)
     s.testActive = false ∧ s.pins.intr = true ∧ flagIF s.flags = true ∧ s.inhibit = false) ∧
    (let s := (asking 8 ((base.setPins { base.pins with test := false }).setFlags 0xF202)).setInhibit true
     s.testActive = false ∧ s.nmiLatch = false ∧ s.inhibit = true) ∧
    ({ base with cfg := { Cfg.reset with testPin := .tied false } } : State).testActive = false ∧
    SReg.ds = base.dec.segOverride.getD (defaultSeg (.direct 0x200)) ∧ (0x200 : Word) = eaOff (.direct 0x200) base := by decide

/-- R529: ESC reads its memory operand. -/
theorem test_esc_reads :
    (after [0xD9, 0x06, 0x00, 0x02] base).bus.take 2 = [.memRead .ds 0x40201 false 0, .memRead .ds 0x40200 false 0] := by decide

/-- R590: INSW reads port DX, then DX + 1. -/
theorem test_insw_ports :
    (after [0x6D] ((nec.setR16 .dx 0x60).setDevIn [1, 2])).bus.reverse.drop 1 =
      [.ioRead 0x60 1, .ioRead 0x61 2, .memWrite .es 0x20000 false 1, .memWrite .es 0x20001 false 2] := by decide

theorem witness_PrefixesRecorded : ∃ f, (Instr.lockF1, f) ∈ prefixForms := ⟨fun d => { d with lockPrefix := true }, by simp [prefixForms]⟩

theorem witness_StringElements :
    base.dec.rep = none ∧ SReg.ds = base.dec.segOverride.getD .ds ∧
    base.isMemory (lin (base.sreg .ds) (base.r16 .si)) ∧ base.wordInMemory (base.sreg .ds) (base.r16 .si) ∧
    base.isMemory (lin base.seg.es (base.r16 .di)) ∧ base.wordInMemory base.seg.es (base.r16 .di) := by
  unfold State.wordInMemory State.isMemory; decide

theorem witness_RepeatedStrings :
    (Instr.cmpsw, true, cmpsElem16) ∈ stringForms ∧ (underRep .repe base).dec.rep ≠ none ∧ (underRep .repe base).r16 .cx = 0 := by
  refine ⟨by simp [stringForms], by decide, by decide⟩

/-- The four ends of an iteration: by the flag test, by CX, by an interrupt, or none of them. -/
theorem witness_Repetition :
    let s := underRep .repne (base.setR16 .cx 0xFFFF)
    let u := s.setNmiLatch true
    (Instr.scasb, true, scasElem8) ∈ stringForms ∧ s.dec.rep = some .repne ∧ s.r16 .cx ≠ 0 ∧ s.r16 .cx ≠ 1 ∧
    flagZF (scasElem8 s).flags = true ∧ flagZF (scasElem8 (s.setR8 .al 1)).flags = false ∧
    (s.nmiLatch || (s.pins.intr && flagIF s.flags && !s.inhibit) || (s.cfg.repTfPerIteration && s.dec.tfAtStart)) = false ∧
    (u.nmiLatch || (u.pins.intr && flagIF u.flags && !u.inhibit) || (u.cfg.repTfPerIteration && u.dec.tfAtStart)) = true ∧
    (s.setR16 .cx 1).r16 .cx = 1 := by
  refine ⟨by simp [stringForms], by decide⟩

theorem witness_PushPopAll :
    ((0, Reg16.di) : Nat × Reg16) ∈
      [(0, Reg16.di), (2, Reg16.si), (4, Reg16.bp), (8, Reg16.bx), (10, Reg16.dx), (12, Reg16.cx), (14, Reg16.ax)] ∧
    nec.wordInMemory nec.seg.ss (nec.r16 .sp + BitVec.ofNat 16 14) := by
  unfold State.wordInMemory State.isMemory; decide

/-- Below, at both bounds, and above. -/
theorem witness_BoundCheck :
    let s := put 0x4000 0x0200 [0xFF, 0xFF, 0x01, 0x00] nec
    let p := readFar (eaSeg (.direct 0x0200) s) (eaOff (.direct 0x0200) s) (s.setLastEa 0x0200)
    Instr.boundMod01 .ax (.direct 0x0200) ∈ [Instr.boundMod01 .ax (.direct 0x0200), .boundMod2 .ax (.direct 0x0200)] ∧
    p.1 = 0xFFFF ∧ p.2.1 = 0x0001 ∧ (0xFFFE : Word).toInt < p.1.toInt ∧ p.2.1.toInt < (0x0002 : Word).toInt ∧
    p.1.toInt ≤ (0xFFFF : Word).toInt ∧ (0x0001 : Word).toInt ≤ p.2.1.toInt := by decide

theorem witness_StackFrames :
    let s := nec.setR16 .bp 0x8000
    Memory.wf s.mem = true ∧ s.wordInMemory s.seg.ss (s.r16 .bp - BitVec.ofNat 16 2) ∧
    (∀ j ≤ 0, ∀ a ∈ [lin s.seg.ss (s.r16 .bp - BitVec.ofNat 16 2), lin s.seg.ss (s.r16 .bp - BitVec.ofNat 16 2 + 1)],
      a ≠ lin s.seg.ss (stackSlot s j) ∧ a ≠ lin s.seg.ss (stackSlot s j + 1)) ∧
    s.wordInMemory s.seg.ss (s.r16 .bp) ∧ (0x02 : Byte).toNat % 32 = 2 ∧ (0xE0 : Byte).toNat % 32 = 0 := by
  refine ⟨by decide, by unfold State.wordInMemory State.isMemory; decide, ?_,
    by unfold State.wordInMemory State.isMemory; decide, by decide, by decide⟩
  intro j hj
  obtain rfl : j = 0 := by omega
  intro a ha
  simp only [List.mem_cons, List.not_mem_nil, or_false] at ha
  rcases ha with rfl | rfl <;> decide

theorem witness_DecimalStringOperations :
    (0x99 : Byte).toNat % 16 ≤ 9 ∧ (0x99 : Byte).toNat / 16 ≤ 9 ∧ (0x00 : Byte).toNat % 16 ≤ 9 ∧ (0x00 : Byte).toNat / 16 ≤ 9 := by
  decide

/-- 0127 in ES:DI and 0015 in DS:SI, four digits. -/
theorem witness_DecimalDigits_even :
    let s := put 0x2000 0 [0x27, 0x01] (put 0x4000 0 [0x15, 0x00] (nec.setR16 .cx 4))
    (s.r8 .cl).toNat = 4 ∧ s.digits s.seg.es (s.r16 .di) 4 = 127 ∧
    s.digits (s.sreg (s.dec.segOverride.getD .ds)) (s.r16 .si) 4 = 15 ∧ Memory.wf s.mem = true ∧
    (∀ k < 4, s.digit s.seg.es (s.r16 .di) k ≤ 9 ∧ s.digit (s.sreg (s.dec.segOverride.getD .ds)) (s.r16 .si) k ≤ 9) ∧
    (∀ k < 2, s.kindAt (lin s.seg.es (s.r16 .di + BitVec.ofNat 16 k)) = .ram ∧
      s.kindAt (lin (s.sreg .ds) (s.r16 .si + BitVec.ofNat 16 k)) = .ram) ∧
    (∀ k < 2, ∀ j < k, lin (s.sreg .ds) (s.r16 .si + BitVec.ofNat 16 k) ≠ lin s.seg.es (s.r16 .di + BitVec.ofNat 16 j)) := by
  decide

/-- One digit: the high digits of the bytes may be anything. -/
theorem witness_DecimalDigits_odd :
    let s := put 0x2000 0 [0xF7] (put 0x4000 0 [0xA3] (nec.setR16 .cx 1))
    (s.r8 .cl).toNat = 1 ∧ s.digits s.seg.es (s.r16 .di) 1 = 7 ∧ s.digits (s.sreg .ds) (s.r16 .si) 1 = 3 ∧
    (∀ k < 1, s.digit s.seg.es (s.r16 .di) k ≤ 9 ∧ s.digit (s.sreg .ds) (s.r16 .si) k ≤ 9) := by decide

/-- R594: 0127 plus 0015 is 0142, 0127 minus 0015 is 0112. -/
theorem test_decimal_strings :
    let s := put 0x2000 0 [0x27, 0x01] (put 0x4000 0 [0x15, 0x00] (nec.setR16 .cx 4))
    (after [0x0F, 0x20] s).digits 0x2000 0 4 = 142 ∧ (after [0x0F, 0x22] s).digits 0x2000 0 4 = 112 := by decide

theorem witness_RefusedEncodings : Instr.fe7 ∈ byteGroup5Forms ∧ Instr.brkem ∈ necOnlyForms := by decide

theorem witness_NextTState :
    State.reset.biu.tState = .tinit ∧ (idleTicks 4 State.reset).biu.tState = .t1 ∧ (idleTicks 5 State.reset).biu.tState = .t2 ∧
    (idleTicks 6 State.reset).biu.tState = .t3 ∧ (idleTicks 7 State.reset).biu.tState = .t4 ∧
    (tick .idle { wait := 2, data := 0 } (idleTicks 6 State.reset)).biu.tState = .tw ∧
    (idleTicks 6 State.reset).biu.busState = .codeFetch ∧
    State.waitCount { wait := 2, data := 0 } (idleTicks 6 State.reset) = 2 ∧
    State.waitCount still { idleTicks 6 State.reset with cfg := { Cfg.reset with readWait := [⟨0xF0000, 0x10000, 3⟩] } } = 3 ∧
    State.waitCount { wait := 2, data := 0 }
      { idleTicks 6 State.reset with cfg := { Cfg.reset with regions := [⟨0xF0000, 0x10000, .unmapped⟩] } } = 0 ∧
    (idleTicks 4 (tick .suspendFetch still (idleTicks 4 State.reset))).biu.tState = .ti ∧
    (tick .idle still (idleTicks 3 State.reset)).biu.tState = .t1 := by decide

theorem witness_RefreshScheduler :
    let s := State.reset
    (s.setDma { st := .idle, refreshCtr := 1 }).dma.refreshCtr ≤ 1 ∧ 1 < (s.setDma { st := .idle, refreshCtr := 2 }).dma.refreshCtr ∧
    (tick .idle still (s.setDma { st := .idle, refreshCtr := 1 })).dma.st = .dreq ∧
    (tick .idle still (s.setDma { st := .dreq, refreshCtr := 9 })).dma.st = .hrq ∧
    (tick .idle still (s.setDma { st := .hrq, refreshCtr := 9 })).dma.st = .holdA ∧
    (tick .idle still (s.setDma { st := .holdA, refreshCtr := 9 })).dma.st = .operating 0 ∧
    (tick .idle still ((s.setDma { st := .holdA, refreshCtr := 9 }).setLock true)).dma.st = .holdA ∧
    (tick .idle still (s.setDma { st := .idle, refreshCtr := 0 })).dma.st = .dreq ∧
    (tick .idle still (s.setDma { st := .operating 4, refreshCtr := 9 })).dma.st = .operating 5 ∧
    (tick .idle still (s.setDma { st := .operating 5, refreshCtr := 9 })).dma.st = .ending := by decide

theorem witness_TicksAndArchitecture :
    State.reset.biu.busState ≠ .memWrite ∧ (State.reset.biu.tState ≠ .t4 ∨ State.reset.biu.busState ≠ .codeFetch) ∧
    (let s := (idleTicks 4 (hltOp base)).setHalted false
     s.halted = false ∧ s.biu.tState = .t1 ∧ (tick .idle still s).halted = true) := by decide

/-- R51, R158: after HLT the ticks show one Halt cycle, and no code fetch. -/
theorem test_halt_cycle :
    (idleTicks 5 (hltOp base)).biu.busState = .halt ∧ (idleTicks 8 (hltOp base)).biu.tState = .ti ∧
    (idleTicks 14 (hltOp base)).biu.busState = .passive ∧ (idleTicks 14 (hltOp base)).queue = [] := by decide

/-- R149: a code fetch in its T1 completes before the Halt cycle, and before the cycles of an interrupt that ends a halt; one in T0 is
dropped. -/
theorem test_halt_after_fetch :
    (hltOp (idleTicks 4 base)).bus = [.halt, .codeFetch 0x10000 false 0] ∧ (hltOp (idleTicks 4 base)).queue = [0] ∧
    (hltOp (idleTicks 3 base)).bus = [.halt] := by decide
theorem test_wake_after_fetch :
    let s := tick (.request haltRequest) still (idleTicks 4 base)
    let t := after [] (((s.setHalted true).setFlags 0xF202).setPins { s.pins with intr := true, vector := 8 })
    s.biu.tState = .t2 ∧ s.biu.busState = .codeFetch ∧ s.biu.fetchState = .halted ∧
    t.bus.reverse.take 3 = [.codeFetch 0x10000 false 0, .intAck true none, .intAck false (some 8)] := by decide

/-- R113: after a flush to 0x2000:0101 on the 16-bit bus, by ticks as in vector T11 of 98_test_vectors_cycle_level.md, and by an EU step. -/
def oddTarget : State := put 0x2000 0x100 [0x34, 0x12] { base with cfg := Cfg.ofCpu .i8086 }
theorem test_odd_fetch_ticks :
    let s := idleTicks 6 (tick (.flush 0x2000 0x0101) still oddTarget)
    s.bus = [.codeFetch 0x20101 false 0x1234] ∧ s.biu.tState = .t4 ∧ (idleTicks 1 s).queue = [0x12] ∧
    (idleTicks 1 s).pc = 0x0102 := by decide
theorem test_odd_fetch_step :
    let s := takeByte ((oddTarget.setSreg .cs 0x2000).setIp 0x0101)
    s.bus = [.codeFetch 0x20101 false 0x1234] ∧ s.ip = 0x0102 ∧ s.pc = 0x0102 ∧ s.queue = [] := by decide

/-- A write in T3 without waits, a read in Tw at its last wait, and a read at its T4. -/
theorem witness_TickTransfersData :
    let r : BusReq := { kind := .memWrite, access := .ds, seg := 0x4000, off := 2, wide := false, data := 0x55, last := true }
    let w := idleTicks 5 (tick (.request r) still base)
    let q := idleTicks 5 (tick (.request { r with kind := .memRead }) still base)
    let u := tick .idle { wait := 1, data := 0 } q
    w.biu.tState = .t3 ∧ w.biu.busState = .memWrite ∧ (tick .idle still w).biu.tState = .t4 ∧ w.biu.cycle ≠ none ∧
    w.kindAt w.biu.address = .ram ∧ (tick .idle still w).byteAt 0x40002 = 0x55 ∧
    q.biu.tState = .t3 ∧ q.biu.busState = .memRead ∧ u.biu.tState = .tw ∧ (tick .idle still u).biu.tState = .t4 ∧
    q.kindAt q.biu.address = .ram := by decide

/-- The T1 of a code fetch; the T1s of both cycles of a word read at offset 0xFFFF on the 8-bit bus (R149), and of both of a word of I/O. -/
theorem witness_CycleBegins :
    let r : BusReq := { kind := .memRead, access := .ds, seg := 0x4000, off := 0xFFFF, wide := true, data := 0, last := true }
    let s := idleTicks 3 (tick (.request r) still base)
    let u := idleTicks 7 (tick (.request r) still base)
    let p := idleTicks 7 (tick (.request { r with kind := .ioRead }) still base)
    (idleTicks 4 base).biu.prep = .fetch ∧ (idleTicks 4 base).biu.tState = .t1 ∧ (idleTicks 5 base).biu.address = 0x10000 ∧
    base.biu.ta = .td ∧ (tick (.request r) still base).biu.pending ≠ none ∧
    s.biu.tState = .t1 ∧ s.biu.prep = .eu ∧ s.biu.pending = some r ∧ (tick .idle still s).biu.address = 0x4FFFF ∧
    u.biu.tState = .t1 ∧ u.biu.prep = .eu ∧ u.biu.pending = some r ∧ u.biu.cycle.any (fun c => c.more) = true ∧
    (tick .idle still u).biu.address = 0x40000 ∧ (tick .idle still p).biu.address = 0x00000 := by decide

/-- An I/O read in T3, with a wait and without; an I/O write and a second acknowledge cycle in T3; a code fetch in T3. -/
theorem witness_TickTransfersPorts :
    let r : BusReq := { kind := .ioRead, access := .none, seg := 0, off := 0x61, wide := false, data := 0x55, last := true }
    let q := idleTicks 5 (tick (.request r) still base)
    let u := tick .idle { wait := 1, data := 0x77 } q
    let w := idleTicks 5 (tick (.request { r with kind := .ioWrite }) still base)
    let k := idleTicks 9 (tick (.request { r with kind := .interruptAck }) still (base.setPins { base.pins with vector := 8 }))
    q.biu.tState = .t3 ∧ q.biu.busState = .ioRead ∧ q.biu.cycle ≠ none ∧ (tick .idle still q).biu.tState = .t4 ∧
    u.biu.tState = .tw ∧ u.bus = [.ioRead 0x61 0x77] ∧ (tick .idle still u).biu.tState = .t4 ∧ (tick .idle still u).biu.dataBus = 0x77 ∧
    w.biu.tState = .t3 ∧ w.biu.busState = .ioWrite ∧ (tick .idle still w).bus = [.ioWrite 0x61 0x55] ∧
    k.biu.tState = .t3 ∧ k.biu.busState = .interruptAck ∧ k.biu.cycle.any (fun c => c.second) = true ∧
    (tick .idle still k).biu.dataBus = 8 ∧
    (idleTicks 6 base).biu.busState = .codeFetch ∧ (idleTicks 6 base).biu.tState = .t3 := by decide

/-- R117, R154: a flush in the tick that ends a code fetch. -/
theorem test_flush_at_t4 :
    let t := tick (.flush 0x2000 0x0101) still (idleTicks 7 State.reset)
    t.ip = 0x0101 ∧ t.pc = 0x0101 ∧ t.queue = [] := by decide

/-- R115: a pop in the tick that ends a code fetch. -/
theorem test_pop_at_t4 :
    let s := idleTicks 11 State.reset
    s.biu.tState = .t4 ∧ s.queue = [0] ∧ (tick .pop still s).queue = [0] ∧ (tick .pop still s).ip = 1 ∧ (tick .pop still s).pc = 2 := by
  decide

/-- R267: the immediate of ADD byte [0x0200], 5 is fetched after the load of the operand. -/
theorem test_late_immediate :
    let t := after [0x80, 0x06, 0x00, 0x02, 0x05] (put 0x4000 0x200 [0x10] base)
    t.byteAt 0x40200 = 0x15 ∧ t.ip = 5 ∧
    t.bus.reverse.drop 4 = [.memRead .ds 0x40200 false 0x10, .codeFetch 0x10004 false 0x05, .memWrite .ds 0x40200 false 0x15] := by
  decide

/-- R111: a fill between the load and the store, by the schedule. -/
theorem test_fill_between_accesses :
    let t := after [0xFE, 0x07] (base.setFills [0, 0, 2])
    t.bus.reverse.drop 2 =
      [.memRead .ds 0x40000 false 0, .codeFetch 0x10002 false 0, .codeFetch 0x10003 false 0, .memWrite .ds 0x40000 false 1] ∧
    t.queue = [0, 0] := by decide

/-- R631, R111: fetching is no longer halted once INTR is accepted, so a fill can come before the acknowledge cycles. -/
theorem test_fill_in_wake :
    let s := ((((base.setHalted true).setFetch .halted).setFlags 0xF202).setPins { base.pins with intr := true, vector := 8 }).setFills [1]
    (after [] s).bus.reverse.take 3 = [.codeFetch 0x10000 false 0, .intAck true none, .intAck false (some 8)] := by decide

/-- R112 after a load of CS: a fetch at an even PC of a 16-bit bus still brings two bytes. -/
theorem test_word_fill_after_cs_load :
    let s := ({ base with cfg := Cfg.ofCpu .i8086 }.setStale [0x2000]).fillOnce
    s.queue.length = 2 ∧ s.pc = base.pc + 2 := by decide

/-- R136: the first code fetch ends Tinit. -/
theorem test_tinit_ends : (after [0x90] base).biu.tState = .ti := by decide

/-- R116, R674: the first read after reset waits on the empty queue, the EU is stalled (its flush and its request are passed over), and the
byte that the fetch has queued at T4 is popped as First in the next tick. -/
theorem test_queue_read_waits :
    let w := tick .popFirst still State.reset
    let v := tick (.flush 0 5) still (tick (.request haltRequest) still w)
    let q := idleTicks 5 v
    w.biu.queueRead = true ∧ w.ip = 0 ∧ v.biu.pending = none ∧ v.pc = 0 ∧ q.queue = [0] ∧ q.ip = 0 ∧
    (let r := tick .suspendFetch still q
     r.queue = [] ∧ r.ip = 1 ∧ r.biu.queueRead = false ∧ r.biu.fetchState = .normal ∧
     r.record.map (fun c => (c.queueOp, c.queueByte)) = some (.first, some 0)) := by decide

/-- R116: a read of the empty queue resumes suspended fetching; an EU step takes the byte that a read waits for. -/
theorem test_queue_read_resumes :
    (tick .pop still (tick .suspendFetch still base)).biu.fetchState = .normal ∧
    (after [0x90] (tick .popFirst still base)).biu.queueRead = false := by decide

/-- The end of a code fetch; of one at an odd address of the 16-bit bus; a flush and a pop; a read that waits, and that ends. -/
theorem witness_QueueTicks :
    let s := idleTicks 7 State.reset
    s.biu.tState = .t4 ∧ s.biu.busState = .codeFetch ∧
    s.biu.cycle = some { wide := false, data := 0, more := false, second := false, last := false, discard := false } ∧
    s.biu.fetchState = .normal ∧ s.halted = false ∧ s.biu.stalled = false ∧ s.queue = [] ∧
    (idleTicks 8 State.reset).queue = 0 :: [] ∧ (idleTicks 8 State.reset).biu.stalled = false ∧
    (idleTicks 8 State.reset).biu.queueRead = false ∧ s.biu.queueRead = false ∧
    (let w := tick .pop still State.reset
     w.biu.queueRead = true ∧ w.queue = [] ∧ w.halted = false ∧ w.biu.stalled = false ∧ (idleTicks 7 w).readEnds = true ∧
     (tick .suspendFetch still State.reset).biu.fetchState = .suspended ∧
     (tick .suspendFetch still State.reset).arriving = []) ∧
    (tick (.flush 0 0) still (idleTicks 6 State.reset)).biu.cycle =
      some { wide := false, data := 0, more := false, second := false, last := false, discard := true } ∧
    (tick (.request haltRequest) still State.reset).biu.stalled = true ∧ (hltOp base).halted = true ∧
    (let o := idleTicks 6 (tick (.flush 0x2000 0x0101) still oddTarget)
     o.biu.tState = .t4 ∧ o.biu.busState = .codeFetch ∧ o.cfg.busWidth = .word ∧ o.biu.address.toNat % 2 = 1 ∧
     o.biu.cycle = some { wide := false, data := 0, more := false, second := false, last := false, discard := false } ∧
     o.arriving = [0x12] ∧ (tick .idle still (idleTicks 5 (tick (.flush 0x2000 0x0101) still oddTarget))).biu.tState = .t4) := by decide

/-- R120: the fetch that fills the queue of four pauses fetching. -/
theorem test_queue_full :
    let s := (idleTicks 7 State.reset).setQueue [1, 2, 3]
    (tick .idle still s).queue = [1, 2, 3, 0] ∧ (tick .idle still s).biu.fetchState = .pausedFull := by decide


end Sys2Proof.Tests
end

namespace Sys2Proof.Machine
open Sys2Proof

/-! ### The refresh scheduler (23_dma_refresh_scheduler.md R171 to R178) -/

section RefreshScheduler
variable (a : EuAct) (inp : BusIn) (s : State)

@[simp] theorem beforeDma_dma : (beforeDma a inp s).dma = s.dma := by simp [beforeDma]
@[simp] theorem beforeDma_cfg : (beforeDma a inp s).cfg = s.cfg := by simp [beforeDma]

/-- The scheduler after a tick: the countdown reloads as it expires and starts a request then; else the handshake moves on (R172 to
R174). -/
theorem tickDma_dma : (tickDma s).dma =
    { st := if s.dma.refreshCtr ≤ 1 ∧ s.dma.st = .idle then .dreq
        else s.dma.st.next s.cfg.dmaOperatingSteps (holdAcknowledged s)
      refreshCtr := if s.dma.refreshCtr ≤ 1 then s.cfg.refreshPeriod else s.dma.refreshCtr - 1 } := by
  simp [tickDma, apply_ite State.dma]

/-- The hold that a tick grants loads the wait states (R178). -/
theorem tickDma_dmaWait_of_granted (h : s.dma.st = .holdA) (ha : holdAcknowledged s = true) :
    (tickDma s).biu.dmaWait = s.cfg.dmaWaitStates := by
  simp [tickDma, h, ha, DmaState.next]

theorem tick_refreshCtr : (tick a inp s).dma.refreshCtr =
    if s.dma.refreshCtr ≤ 1 then s.cfg.refreshPeriod else s.dma.refreshCtr - 1 := by
  simp [tick_dma, tickDma_dma]

theorem tick_dmaSt : (tick a inp s).dma.st =
    if s.dma.refreshCtr ≤ 1 ∧ s.dma.st = .idle then .dreq
    else s.dma.st.next s.cfg.dmaOperatingSteps (holdAcknowledged (beforeDma (s.euAct a) inp s)) := by
  simp [tick_dma, tickDma_dma]

/-- What a tick's hold is granted on, as its outputs show it (R175). -/
theorem holdAcknowledged_iff : holdAcknowledged (beforeDma (s.euAct a) inp s) = true ↔
    (tick a inp s).lock = false ∧
      ((recordOf s.dma.st.holds (tickDma (beforeDma (s.euAct a) inp s))).busState = .passive ∨
        (recordOf s.dma.st.holds (tickDma (beforeDma (s.euAct a) inp s))).tState = .t3 ∨
        (recordOf s.dma.st.holds (tickDma (beforeDma (s.euAct a) inp s))).tState = .tw ∨
        (recordOf s.dma.st.holds (tickDma (beforeDma (s.euAct a) inp s))).tState = .t4) := by
  rw [tick_lock]
  simp [holdAcknowledged, recordOf, beforeDma, or_assoc]

theorem tick_dmaWait : (tick a inp s).biu.dmaWait = (tickDma (beforeDma (s.euAct a) inp s)).biu.dmaWait := by
  rw [tick_eq]
  simp

/-- A hold that is asked for is granted when the record of the tick lets it be (R175, R178). -/
theorem tick_holdA (h : s.dma.st = .holdA) : ∃ r, (tick a inp s).record = some r ∧
    (if (tick a inp s).lock = false ∧ (r.busState = .passive ∨ r.tState = .t3 ∨ r.tState = .tw ∨ r.tState = .t4) then
      (tick a inp s).dma.st = .operating 0 ∧ (tick a inp s).biu.dmaWait = s.cfg.dmaWaitStates
    else (tick a inp s).dma.st = .holdA) := by
  refine ⟨_, tick_record s a inp, ?_⟩
  have hst := tick_dmaSt a inp s
  split
  · next hg =>
    have ha := (holdAcknowledged_iff a inp s).mpr hg
    refine ⟨by simpa [h, ha, DmaState.next] using hst, ?_⟩
    rw [tick_dmaWait, tickDma_dmaWait_of_granted _ (by simpa using h) ha, beforeDma_cfg]
  · next hg =>
    have ha : holdAcknowledged (beforeDma (s.euAct a) inp s) = false := by
      rw [Bool.eq_false_iff]
      exact fun e => hg ((holdAcknowledged_iff a inp s).mp e)
    simpa [h, ha, DmaState.next] using hst

end RefreshScheduler

/-- Settles O58: the countdown and the handshake are one transition each, and the grant of a hold reads what the record shows. -/
theorem refreshScheduler : Obligations.RefreshScheduler := by
  intro a inp s
  have hctr := tick_refreshCtr a inp s
  have hst := tick_dmaSt a inp s
  refine ⟨fun h => ⟨by rw [hctr, if_pos h], fun hi => by rw [hst, if_pos ⟨h, hi⟩]⟩,
    fun h => ⟨by rw [hctr, if_neg (by omega)], fun hi => ?_⟩, fun h => ?_, fun h => ?_, tick_holdA a inp s, fun n h => ?_,
    fun h => ?_⟩
  · rw [hst, if_neg (by omega), hi]; rfl
  all_goals rw [hst, if_neg (by simp [h]), h]; rfl

end Sys2Proof.Machine

namespace Sys2Proof.Machine
open Sys2Proof

/-! ### Words pushed on top of others -/

/-- The words pushed from `u` on stand in the slots after those that lead to `u`. -/
theorem PushedWords.append {s u t : State} {vs ws : List Word} (h : PushedWords vs s u) (g : PushedWords ws u t)
    (hs : u.seg.ss = s.seg.ss) (hc : u.cfg = s.cfg) (hw : Memory.wf s.mem = true → Memory.wf u.mem = true)
    (hl : vs.length + ws.length ≤ 32768) : PushedWords (vs ++ ws) s t := by
  obtain ⟨hsp, hr, hm, hv⟩ := h
  obtain ⟨gsp, gr, gm, gv⟩ := g
  have slot : ∀ k, stackSlot u k = stackSlot s (vs.length + k) := fun k => by
    rw [stackSlot, stackSlot, hsp, BitVec.sub_sub, ← BitVec.ofNat_add]
    congr 2
    omega
  have bytes : stackBytes s (vs ++ ws).length = stackBytes s vs.length ++ stackBytes u ws.length := by
    simp [stackBytes, List.range_add, List.flatMap_append, List.flatMap_map, slot, hs]
  have isRam : ∀ a, s.isRam a → u.isRam a := fun a h => (kindAt_of_cfg hc a).trans h
  refine ⟨?_, fun r h => (gr r h).trans (hr r h), fun a ha => ?_, fun k w hk hwf => ?_⟩
  · rw [gsp, hsp, BitVec.sub_sub, ← BitVec.ofNat_add, List.length_append, Nat.mul_add]
  · rw [bytes, List.mem_append, not_or] at ha
    exact (gm a ha.2).trans (hm a ha.1)
  · rw [List.getElem?_append] at hk
    split at hk
    · next hlt =>
      have kept : ∀ a, a = lin s.seg.ss (stackSlot s k) ∨ a = lin s.seg.ss (stackSlot s k + 1) → t.byteAt a = u.byteAt a := by
        refine fun a ha => gm a fun hmem => ?_
        simp only [stackBytes, List.mem_flatMap, List.mem_range, slot, hs, List.mem_pair] at hmem
        obtain ⟨j, hj, hmem⟩ := hmem
        obtain ⟨a1, a2, a3, a4⟩ := stackSlot_apart s (j := k) (k := vs.length + j) (by omega) (by omega)
        rcases ha with rfl | rfl
        · exact hmem.elim a1 a2
        · exact hmem.elim a3 a4
      obtain ⟨l1, l2⟩ := hv k w hk hwf
      exact ⟨fun h => (kept _ (.inl rfl)).trans (l1 h), fun h => (kept _ (.inr rfl)).trans (l2 h)⟩
    · next hge =>
      obtain ⟨l1, l2⟩ := gv _ w hk (hw hwf)
      rw [slot, hs, Nat.add_sub_cancel' (Nat.le_of_not_lt hge)] at l1 l2
      exact ⟨fun h => l1 (isRam _ h), fun h => l2 (isRam _ h)⟩

/-! ### An interrupt sequence -/

section InterruptSequence
variable (s : State)

@[simp] theorem interrupt_mem (n : Byte) (r : Word) : (interrupt n r s).mem = (afterPushes r s).mem := by
  rw [interrupt_eq]
  simp

theorem interrupt_wf (n : Byte) (r : Word) (h : Memory.wf s.mem = true) : Memory.wf (interrupt n r s).mem = true := by
  rw [interrupt_mem]
  exact push16_wf _ _ (push16_wf _ _ (push16_wf s _ h))

theorem interrupt_ran (n : Byte) : SequenceRan n.toNat s (interrupt n s.ip s) := by
  obtain ⟨⟨hw, hf, hc, hi, hs, -⟩, -⟩ := interrupt_entered s n s.ip
  exact ⟨hw, hf, hc, hi, hs⟩

/-- A sequence that has run from `u` has run from any state with the registers, the flags and the memory of `u`. -/
theorem SequenceRan.of_start {s u t : State} {v : Nat} (h : SequenceRan v u t) (hg : u.gpr = s.gpr) (hm : u.mem = s.mem)
    (hf : u.flags = s.flags) (hi : u.ip = s.ip) (hs : u.seg = s.seg) (hc : u.cfg = s.cfg) : SequenceRan v s t := by
  obtain ⟨hw, hfl, hfe, hip, hcs⟩ := h
  rw [hf, hs, hi] at hw
  rw [hf] at hfl
  exact ⟨(pushedWords_congr (pushedWords_nil s) hg hm).append hw (congrArg Segs.ss hs) hc (fun h => hm ▸ h)
    (by simp), hfl, hfe,
    fun h => hip (wordInMemory_of_cfg hc _ _ h), fun h => hcs (wordInMemory_of_cfg hc _ _ h)⟩

/-! The bus in a sequence: one acknowledgement, in that of INTR only. -/

/-- Bus operations have been added that acknowledge nothing. -/
def AddsNoAck (s t : State) : Prop := ∃ l, (∀ e ∈ l, e.isAck = false) ∧ t.bus = l ++ s.bus

theorem AddsNoAck.trans {s t u : State} : AddsNoAck s t → AddsNoAck t u → AddsNoAck s u
  | ⟨l, hl, ht⟩, ⟨m, hm, hu⟩ =>
    ⟨m ++ l, fun e he => (List.mem_append.mp he).elim (hm e) (hl e), by rw [hu, ht, List.append_assoc]⟩

theorem AddsNoAck.of_bus {s t : State} (h : t.bus = s.bus) : AddsNoAck s t := ⟨[], by simp, h⟩

theorem isAck_of_isFetch {e : BusEvent} (h : e.isFetch = true) : e.isAck = false := by
  cases e with
  | intAck => exact nomatch h
  | _ => rfl

theorem Fetched.addsNoAck {s t : State} (h : Fetched s t) : AddsNoAck s t :=
  let ⟨l, e, hl⟩ := h.bus
  ⟨l, fun _ he => isAck_of_isFetch (hl _ he), e⟩

theorem logBus_addsNoAck {e : BusEvent} (h : e.isAck = false) : AddsNoAck s (s.logBus e) := ⟨[e], by simpa using h, rfl⟩

@[simp] theorem takeDevice_bus : s.takeDevice.2.bus = s.bus := by unfold State.takeDevice; split <;> rfl
@[simp] theorem fetchData_bus (a : BitVec 20) : (s.fetchData a).2.bus = s.bus := by
  unfold State.fetchData
  split
  case h_4 => exact takeDevice_bus s
  all_goals rfl

theorem storeAfter_addsNoAck (old : Bool) (a : BitVec 20) (v : Byte) : AddsNoAck s (s.storeAfter old a v) := by
  have stored : ∀ u : State, AddsNoAck u (u.storeData a v) := fun u => .of_bus (storeData_bus u a v)
  cases old
  · exact stored s
  · exact (fetchUpTo_fetched s a).addsNoAck.trans (stored _)

theorem storePair_addsNoAck (a b : BitVec 20) (v w : Byte) : AddsNoAck s (s.storePair a b v w) := by
  refine (drawOld_fetched s a).addsNoAck.trans ((drawOld_fetched _ b).addsNoAck.trans ?_)
  simp only [State.storePair]
  split <;> exact (storeAfter_addsNoAck _ _ _ _).trans (storeAfter_addsNoAck _ _ _ _)

theorem readByte_addsNoAck (acc : Access) (sv off : Word) : AddsNoAck s (readByte acc sv off s).2 :=
  (prefetch_fetched s).addsNoAck.trans ((AddsNoAck.of_bus (fetchData_bus _ _)).trans (logBus_addsNoAck _ rfl))

theorem readWord_addsNoAck (acc : Access) (sv off : Word) : AddsNoAck s (readWord acc sv off s).2 := by
  unfold readWord
  split
  · exact (prefetch_fetched s).addsNoAck.trans ((AddsNoAck.of_bus (fetchData_bus _ _)).trans
      ((AddsNoAck.of_bus (fetchData_bus _ _)).trans (logBus_addsNoAck _ rfl)))
  · exact (readByte_addsNoAck s _ _ _).trans (readByte_addsNoAck _ _ _ _)

theorem writeByte_addsNoAck (acc : Access) (sv off : Word) (v : Byte) : AddsNoAck s (writeByte acc sv off v s) :=
  (prefetch_fetched s).addsNoAck.trans ((drawOld_fetched _ _).addsNoAck.trans
    ((storeAfter_addsNoAck _ _ _ _).trans (logBus_addsNoAck _ rfl)))

theorem writeWord_addsNoAck (acc : Access) (sv off v : Word) : AddsNoAck s (writeWord acc sv off v s) := by
  unfold writeWord
  split
  · exact (prefetch_fetched s).addsNoAck.trans ((storePair_addsNoAck _ _ _ _ _).trans (logBus_addsNoAck _ rfl))
  · exact (writeByte_addsNoAck s _ _ _ _).trans (writeByte_addsNoAck _ _ _ _ _)

theorem push16_addsNoAck (v : Word) : AddsNoAck s (push16 v s) := writeWord_addsNoAck (s.setR16 .sp (s.r16 .sp - 2)) _ _ _ _

theorem farTransfer_addsNoAck (sv t : Word) : AddsNoAck s (farTransfer sv t s) := (prefetch_fetched s).addsNoAck

theorem afterPushes_addsNoAck (r : Word) : AddsNoAck s (afterPushes r s) :=
  have h := (push16_addsNoAck s s.flags).trans (.of_bus (setFlags_bus _ (s.flags &&& ~~~(tfMask ||| ifMask))))
  (h.trans (push16_addsNoAck _ s.seg.cs)).trans (push16_addsNoAck _ r)

theorem interrupt_addsNoAck (n : Byte) (r : Word) : AddsNoAck s (interrupt n r s) := by
  rw [interrupt_eq]
  exact (afterPushes_addsNoAck s r).trans ((readWord_addsNoAck _ _ _ _).trans ((readWord_addsNoAck _ _ _ _).trans
    (farTransfer_addsNoAck _ _ _)))

/-- The acknowledge cycles of a sequence, with the code fetches that come before them. -/
theorem acknowledged_bus (q : IntSequence) : ∃ l, FetchesOnly l ∧
    (acknowledged q s).bus = (if q = .intr then ackCycles (vectorOf q s) else []) ++ (l ++ s.bus) := by
  cases q
  case intr => exact acknowledge_bus s
  all_goals exact ⟨[], nofun, rfl⟩

end InterruptSequence

/-! ### The step that runs a sequence -/

section SequenceStep
variable (s : State) (q : IntSequence) (rest : List IntSequence)

theorem beginStep_fetched : Fetched (s.setSteps (s.steps + 1)) (beginStep s) :=
  (completeFetch_fetched _).trans (prefetch_fetched _)

@[simp] theorem vectorOf_setSequences (qs : List IntSequence) : vectorOf q (s.setSequences qs) = vectorOf q s := by cases q <;> rfl

@[simp] theorem acknowledged_seg : (acknowledged q s).seg = s.seg := by cases q <;> simp [acknowledged]
@[simp] theorem acknowledged_cfg : (acknowledged q s).cfg = s.cfg := by cases q <;> simp [acknowledged]
@[simp] theorem acknowledged_ip : (acknowledged q s).ip = s.ip := by cases q <;> simp [acknowledged]

/-- The last sequence is followed by the move to the Fetch state; any other by nothing. -/
theorem runSequence_eq : runSequence q rest s =
    if rest = [] then enterFetch (sequenceOp q (s.setSequences rest)) else sequenceOp q (s.setSequences rest) := by
  cases rest <;> rfl

theorem enterFetch_ran {v : Nat} {s t : State} (h : SequenceRan v s t) : SequenceRan v s (enterFetch t) := by
  obtain ⟨hw, hfl, ⟨hip, hpc, hq, hn, hst⟩, hi, hs⟩ := h
  unfold enterFetch
  split
  · exact ⟨hw, hfl, ⟨hip, hpc, hq, hn, hst⟩, hi, hs⟩
  · exact ⟨hw, hfl, ⟨hip, hpc, hq, rfl, hst⟩, hi, hs⟩

theorem runSequence_ran : SequenceRan (vectorOf q s).toNat s (runSequence q rest s) := by
  have h : SequenceRan (vectorOf q s).toNat s (sequenceOp q (s.setSequences rest)) := by
    have hr := interrupt_ran (acknowledged q (s.setSequences rest)) (vectorOf q s)
    rw [sequenceOp_eq, vectorOf_setSequences]
    rw [acknowledged_ip] at hr
    exact hr.of_start (by simp) (by simp) (by simp) (by simp) (by simp) (by simp)
  rw [runSequence_eq]
  split
  · exact enterFetch_ran h
  · exact h

theorem sequenceOp_system : (sequenceOp q s).system =
    { s.system with
      seg := { s.seg with cs := (sequenceOp q s).seg.cs }
      pins := if q = .intr then { s.pins with intr := false } else s.pins
      lock := if q = .intr then false else s.lock } := by
  have h : (sequenceOp q s).system = { (acknowledged q s).system with
      seg := { (acknowledged q s).seg with cs := (sequenceOp q s).seg.cs } } := by
    rw [sequenceOp_eq, interrupt_system]
    rfl
  rw [h, acknowledged_seg, acknowledged_system]
  cases q <;> rfl

theorem sequenceOp_halted : (sequenceOp q s).halted = s.halted := congrArg System.halted (sequenceOp_system s q)

theorem enterFetch_system : (enterFetch s).system = { s.system with life := if s.halted then .checkInterrupts else .fetch } := by
  unfold enterFetch
  split <;> rfl

@[simp] theorem enterFetch_seg : (enterFetch s).seg = s.seg := by unfold enterFetch; split <;> rfl

/-- What a sequence leaves of the system part: CS, and after the last one the lifecycle; INTR drops its request and LOCK (R626). -/
theorem runSequence_system : (runSequence q rest s).system =
    { s.system with
      seg := { s.seg with cs := (runSequence q rest s).seg.cs }
      sequences := rest
      pins := if q = .intr then { s.pins with intr := false } else s.pins
      lock := if q = .intr then false else s.lock
      life := if rest = [] then (if s.halted then .checkInterrupts else .fetch) else s.life } := by
  rw [runSequence_eq]
  cases rest with
  | nil =>
    simp only [if_true, enterFetch_system, enterFetch_seg, sequenceOp_system, sequenceOp_halted]
    rfl
  | cons r rs =>
    rw [if_neg (List.cons_ne_nil r rs), sequenceOp_system]
    rfl

theorem step_of_script {s : State} (h : s.script = []) : step s = euStep s := by
  show runStep s = _
  rw [runStep, h]

/-- The step of a sequence: code fetches, then the sequence. -/
theorem step_sequence (hs : s.script = []) (h : s.sequences = q :: rest) : step s = .next (runSequence q rest (beginStep s)) :=
  (step_of_script hs).trans (euStep_sequence s h)

theorem vectorOf_beginStep : vectorOf q (beginStep s) = vectorOf q s := by
  have h : (beginStep s).pins = s.pins := congrArg System.pins (beginStep_fetched s).system
  cases q
  case intr => exact congrArg Pins.vector h
  all_goals rfl

theorem sequenceStep_ran : SequenceRan (vectorOf q s).toNat s (runSequence q rest (beginStep s)) := by
  have hb := beginStep_fetched s
  have h := runSequence_ran (beginStep s) q rest
  rw [vectorOf_beginStep] at h
  exact h.of_start hb.gpr hb.mem hb.flags hb.ip hb.seg hb.cfg

theorem sequenceStep_system : (runSequence q rest (beginStep s)).system =
    { s.system with
      seg := { s.seg with cs := (runSequence q rest (beginStep s)).seg.cs }
      sequences := rest
      pins := if q = .intr then { s.pins with intr := false } else s.pins
      lock := if q = .intr then false else s.lock
      life := if rest = [] then (if s.halted then .checkInterrupts else .fetch) else s.life
      steps := s.steps + 1 } := by
  have hb : (beginStep s).system = { s.system with steps := s.steps + 1 } := (beginStep_fetched s).system
  rw [runSequence_system, hb]
  have e : ∀ {α : Type} (f : System → α), f (beginStep s).system = f { s.system with steps := s.steps + 1 } := fun f => congrArg f hb
  rw [show (beginStep s).seg = s.seg from e System.seg, show (beginStep s).pins = s.pins from e System.pins,
    show (beginStep s).lock = s.lock from e System.lock, show (beginStep s).halted = s.halted from e System.halted,
    show (beginStep s).life = s.life from e System.life]

theorem sequenceStep_lastEa : (runSequence q rest (beginStep s)).lastEa = s.lastEa := by
  have h : (runSequence q rest (beginStep s)).lastEa = (beginStep s).lastEa := by
    rw [runSequence_eq]
    split
    · unfold enterFetch
      split <;> exact (sequenceOp_entered _ q).2
    · exact (sequenceOp_entered _ q).2
  exact h.trans (beginStep_fetched s).lastEa

theorem sequenceStep_bus : ∃ later l, FetchesOnly l ∧ (∀ e ∈ later, e.isAck = false) ∧ (runSequence q rest (beginStep s)).bus =
    later ++ ((if q = .intr then ackCycles (vectorOf q s) else []) ++ (l ++ s.bus)) := by
  obtain ⟨l₀, e₀, h₀⟩ := (beginStep_fetched s).bus
  obtain ⟨l, hl, e⟩ := acknowledged_bus ((beginStep s).setSequences rest) q
  obtain ⟨later, hlater, el⟩ := interrupt_addsNoAck (acknowledged q ((beginStep s).setSequences rest))
    (vectorOf q ((beginStep s).setSequences rest)) (beginStep s).ip
  have hb : (runSequence q rest (beginStep s)).bus = (sequenceOp q ((beginStep s).setSequences rest)).bus := by
    rw [runSequence_eq]
    split
    · unfold enterFetch
      split <;> rfl
    · rfl
  refine ⟨later, l ++ l₀, fun e he => (List.mem_append.mp he).elim (hl e) (h₀ e), hlater, ?_⟩
  rw [hb, sequenceOp_eq]
  refine el.trans ?_
  rw [e, vectorOf_setSequences, vectorOf_beginStep, setSequences_bus, e₀, setSteps_bus, List.append_assoc l]

end SequenceStep

theorem sequenceStep : Claim.SequenceStep := by
  intro s q rest v hs hq hv
  obtain rfl : v = vectorOf q s := hv.trans (by cases q <;> rfl)
  have e : ∀ {α : Type} (f : System → α), f (runSequence q rest (beginStep s)).system = _ :=
    fun f => congrArg f (sequenceStep_system s q rest)
  exact ⟨_, step_sequence s q rest hs hq, sequenceStep_ran s q rest, e System.sequences, e System.halted, e System.inhibit,
    e System.nmiLatch, e System.dec, sequenceStep_lastEa s q rest, e System.lock, e System.pins, sequenceStep_bus s q rest,
    e System.life⟩

/-! ### The check, and the steps after it -/

section Check
variable {s : State}

theorem boundaryWithoutInterrupt : Claim.BoundaryWithoutInterrupt := by
  intro s hn hi ht
  have h : s.accepted = [] := (accepted_eq_nil s).mpr ⟨hn, by rcases hi with h | h | h <;> simp [h], ht⟩
  rw [checkInterrupts_none s h]
  unfold enterFetch
  cases hh : s.halted <;> simp [hh, hn, NothingWritten, MemKept, State.byteAt]

theorem checkInterrupts_accepts {q : IntSequence} {qs : List IntSequence} (h : s.accepted = q :: qs) :
    Accepts (q :: qs) s (checkInterrupts s) := by
  rw [checkInterrupts_some s (by simp [h]), h]
  simp [Accepts, NothingWritten, MemKept, State.byteAt, woken_ne_halted]

@[simp] theorem checkInterrupts_mem : (checkInterrupts s).mem = s.mem := by
  unfold checkInterrupts enterFetch
  split
  · split <;> simp
  · simp

@[simp] theorem checkInterrupts_cfg : (checkInterrupts s).cfg = s.cfg := by
  unfold checkInterrupts enterFetch
  split
  · split <;> simp
  · simp

theorem checked_ran {v : Nat} {t : State} {q : IntSequence} {qs : List IntSequence} (h : s.accepted = q :: qs)
    (hr : SequenceRan v (checkInterrupts s) t) : SequenceRan v s t := by
  obtain ⟨-, -, -, -, -, -, -, ⟨hg, -⟩, hf, hi, hs, -⟩ := checkInterrupts_accepts h
  exact hr.of_start hg checkInterrupts_mem hf hi hs checkInterrupts_cfg

theorem vectorOf_checked {q : IntSequence} {qs : List IntSequence} (h : s.accepted = q :: qs) (q' : IntSequence) :
    vectorOf q' (checkInterrupts s) = vectorOf q' s := by
  obtain ⟨-, -, -, -, -, -, hp, -⟩ := checkInterrupts_accepts h
  cases q'
  case intr => exact congrArg Pins.vector hp
  all_goals rfl

/-- The step after a check that has accepted the one sequence `q`. -/
theorem entersNext {q : IntSequence} (h : s.accepted = [q]) : EntersNext (vectorOf q s).toNat s fun t =>
    t.pins = (if q = .intr then { s.pins with intr := false } else s.pins) ∧
    t.lock = (if q = .intr then false else s.lock && !s.dec.lockPrefix) ∧
    ∃ later l, FetchesOnly l ∧ t.bus = later ++ ((if q = .intr then ackCycles (vectorOf q s) else []) ++ (l ++ s.bus)) := by
  intro hs
  obtain ⟨hq, hh, hi, hn, hl, hd, hp, -, -, -, -, hea, -, hb, hscr, -, -⟩ := checkInterrupts_accepts h
  obtain ⟨t, ht, hr, tq, th, ti, tn, td, tea, tl, tp, ⟨later, l, hf, -, tb⟩, tlife⟩ :=
    sequenceStep (checkInterrupts s) q [] (vectorOf q (checkInterrupts s)) (hscr.trans hs) hq (by cases q <;> rfl)
  rw [vectorOf_checked h] at hr tb
  rw [hb] at tb
  rw [hp] at tp
  rw [hl] at tl
  rw [hh] at tlife
  exact ⟨t, ht, checked_ran h hr, tq, th.trans hh, ti.trans hi, tn.trans hn, td.trans hd, tea.trans hea, tlife, tp, tl,
    later, l, hf, tb⟩

theorem EntersNext.mono {v : Nat} {P Q : State → Prop} (h : EntersNext v s P) (hPQ : ∀ t, P t → Q t) : EntersNext v s Q := by
  intro hs
  obtain ⟨t, ht, hr, hq, hh, hi, hn, hd, he, hl, hP⟩ := h hs
  exact ⟨t, ht, hr, hq, hh, hi, hn, hd, he, hl, hPQ t hP⟩

theorem boundaryNmi : Claim.BoundaryNmi := by
  intro s hn ht
  have h : s.accepted = [.nmi] := by simp [State.accepted, hn, ht]
  exact ⟨checkInterrupts_accepts h, (entersNext h).mono fun t ⟨hp, hl, _⟩ => ⟨hp, hl⟩⟩

theorem boundaryIntr : Claim.BoundaryIntr := by
  intro s hn hp hf hi ht
  have h : s.accepted = [.intr] := by simp [State.accepted, hn, hp, hf, hi, ht]
  exact ⟨checkInterrupts_accepts h, (entersNext h).mono fun t ⟨hp, hl, hb⟩ => ⟨hp, hl, hb⟩⟩

theorem boundarySingleStep : Claim.BoundarySingleStep := by
  intro s hn hi ht
  have h : s.accepted = [.singleStep] := by rcases hi with h | h | h <;> simp [State.accepted, hn, ht, h]
  exact ⟨checkInterrupts_accepts h, (entersNext h).mono fun t ⟨hp, hl, _⟩ => ⟨hp, hl⟩⟩

/-! Two sequences: the second begins where the first has led. -/

theorem runSequence_wf (q : IntSequence) (rest : List IntSequence) (h : Memory.wf s.mem = true) :
    Memory.wf (runSequence q rest s).mem = true := by
  have hm : (runSequence q rest s).mem = (sequenceOp q (s.setSequences rest)).mem := by
    rw [runSequence_eq]
    split
    · unfold enterFetch
      split <;> rfl
    · rfl
  rw [hm, sequenceOp_eq]
  exact interrupt_wf _ _ _ (by simpa using h)

/-- The trap on top of another sequence: its frame returns to that one's handler, with TF clear. -/
theorem trap_ran {s u t : State} {v w : Nat} (hu : SequenceRan v s u) (ht : SequenceRan w u t) (hs : u.seg.ss = s.seg.ss)
    (hc : u.cfg = s.cfg) (hw : Memory.wf s.mem = true → Memory.wf u.mem = true) :
    PushedWords [s.flags, s.seg.cs, s.ip, s.flags &&& ~~~(tfMask ||| ifMask), u.seg.cs, u.ip] s t ∧
      t.flags = s.flags &&& ~~~(tfMask ||| ifMask) := by
  obtain ⟨hp, hf, -⟩ := hu
  obtain ⟨tp, tf, -⟩ := ht
  rw [hf] at tp tf
  exact ⟨hp.append tp hs hc hw (by simp), by rw [tf, BitVec.and_assoc, BitVec.and_self]⟩

theorem boundaryBoth : Claim.BoundaryBoth := by
  intro s v hq ht hv
  have h : s.accepted = [if s.nmiLatch then .nmi else .intr, .singleStep] := by
    rcases hq with hn | ⟨hp, hf, hi⟩
    · simp [State.accepted, hn, ht]
    · cases hn : s.nmiLatch <;> simp [State.accepted, hn, hp, hf, hi, ht]
  generalize hqq : (if s.nmiLatch then IntSequence.nmi else .intr) = q at h
  obtain rfl : v = (vectorOf q s).toNat := by
    rw [hv, ← hqq]
    cases s.nmiLatch <;> rfl
  refine ⟨checkInterrupts_accepts h, fun hs => ?_⟩
  obtain ⟨cq, ch, ci, cn, cl, cd, cp, -, cf, cip, cseg, -, -, -, cscr, clife, -⟩ := checkInterrupts_accepts h
  have sys := sequenceStep_system (checkInterrupts s) q [.singleStep]
  have ran := sequenceStep_ran (checkInterrupts s) q [.singleStep]
  have stp := step_sequence (checkInterrupts s) q [.singleStep] (cscr.trans hs) cq
  have wf : Memory.wf (checkInterrupts s).mem = true →
      Memory.wf (runSequence q [.singleStep] (beginStep (checkInterrupts s))).mem = true :=
    fun hw => runSequence_wf q _ (by rw [(beginStep_fetched _).mem]; exact hw)
  generalize runSequence q [.singleStep] (beginStep (checkInterrupts s)) = u at sys ran stp wf
  have e : ∀ {α : Type} (f : System → α), f u.system = _ := fun f => congrArg f sys
  rw [vectorOf_checked h] at ran
  rw [checkInterrupts_mem] at wf
  have uran := checked_ran h ran
  obtain ⟨t, tstp, tran, tq, th, ti, tn, td, -, tl, tp, -, tlife⟩ := sequenceStep u .singleStep [] 1
    ((e System.script).trans (cscr.trans hs)) (e System.sequences) rfl
  have ss : u.seg.ss = s.seg.ss := (congrArg Segs.ss (e System.seg)).trans (congrArg Segs.ss cseg :)
  obtain ⟨tw, tf⟩ := trap_ran uran tran ss
    ((e System.cfg).trans checkInterrupts_cfg) wf
  obtain ⟨-, -, tfe, tip, tcs⟩ := tran
  have tlock : t.lock = (s.nmiLatch && s.lock && !s.dec.lockPrefix) := by
    rw [show t.lock = u.lock from tl, show u.lock = _ from e System.lock, cl, ← hqq]
    cases s.nmiLatch <;> rfl
  have tpins : t.pins = if s.nmiLatch then s.pins else { s.pins with intr := false } := by
    rw [show t.pins = u.pins from tp, show u.pins = _ from e System.pins, cp, ← hqq]
    cases s.nmiLatch <;> rfl
  have uh : u.halted = false := (e System.halted).trans ch
  exact ⟨u, t, stp, tstp, uran, e System.sequences, tw, tf, tfe,
    fun h => tip (wordInMemory_of_cfg ((e System.cfg).trans checkInterrupts_cfg) _ _ h),
    fun h => tcs (wordInMemory_of_cfg ((e System.cfg).trans checkInterrupts_cfg) _ _ h), tq,
    tn.trans ((e System.nmiLatch).trans cn), th.trans uh, ti.trans ((e System.inhibit).trans ci),
    td.trans ((e System.dec).trans cd), tlock, tpins, by rw [tlife, if_pos rfl, uh]; rfl⟩

end Check

/-- Settles O13: the check by what it accepts, and each sequence as the step that runs it; the frame of a trap on top of another
sequence is that of two steps. -/
theorem instructionBoundary : Obligations.InstructionBoundary :=
  ⟨boundaryWithoutInterrupt, boundaryNmi, boundaryIntr, boundarySingleStep, boundaryBoth, sequenceStep⟩

end Sys2Proof.Machine

namespace Sys2Proof.Machine
open Sys2Proof

/-! ### The bus interface unit in a tick -/

section TickBiu
variable (s : State) (a : EuAct) (inp : BusIn) (hold : Bool) (c : BusCycle)

/-! After steps 1 and 2 only the fetch side moves, and the wait of a hold that is granted. -/

@[simp] theorem addressCycle_latches : (addressCycle hold a s).latches = s.biu.latches := by
  unfold addressCycle
  simp only []
  repeat' split
  all_goals rfl

theorem tickDma_biu : (tickDma s).biu = s.biu ∨ (tickDma s).biu = { s.biu with dmaWait := s.cfg.dmaWaitStates } := by
  unfold tickDma
  extract_lets expires st s1
  split
  · exact .inr rfl
  · exact .inl rfl

theorem tickDma_latches : (tickDma s).biu.latches = { s.biu.latches with dmaWait := (tickDma s).biu.dmaWait } := by
  rcases tickDma_biu s with h | h <;> rw [h] <;> rfl

@[simp] theorem tickDma_prep : (tickDma s).biu.prep = s.biu.prep := by
  rcases tickDma_biu s with h | h <;> rw [h]

@[simp] theorem tickDma_cycle : (tickDma s).biu.cycle = s.biu.cycle := by
  rcases tickDma_biu s with h | h <;> rw [h]

@[simp] theorem enterTState_latches (t : TState) (b : Biu) : (enterTState t b).latches = b.latches := by
  unfold enterTState
  simp only []
  split <;> rfl

@[simp] theorem enterTState_prep (t : TState) (b : Biu) : (enterTState t b).prep = b.prep := by
  unfold enterTState
  simp only []
  split <;> rfl

/-- In a bus cycle the bus state and the access type stay; outside one the bus is passive (R134). -/
theorem enterTState_busState_access {t : TState} (b : Biu) (h : t ≠ .ti) (h' : t ≠ .tinit) :
    (enterTState t b).busState = b.busState ∧ (enterTState t b).access = b.access := by
  simp [enterTState, h, h']

theorem enterTState_cycle {t : TState} (b : Biu) (h : b.tState ≠ .t4) : (enterTState t b).cycle = b.cycle := by
  unfold enterTState
  simp only [h, false_and, if_false]
  split <;> rfl

/-- The latches after a tick are those after steps 1 and 2. -/
theorem tick_latches : (tick a inp s).biu.latches =
    { (afterTwo (s.euAct a) inp s).biu.latches with dmaWait := (tick a inp s).biu.dmaWait } := by
  have h : (tick a inp s).biu.latches = (tickDma (beforeDma (s.euAct a) inp s)).biu.latches := by
    rw [tick_eq]
    exact enterTState_latches _ _
  have hd : (beforeDma (s.euAct a) inp s).biu.latches = (afterTwo (s.euAct a) inp s).biu.latches :=
    addressCycle_latches _ _ _
  rw [h, tickDma_latches, hd, ← tick_dmaWait]

theorem tick_address : (tick a inp s).biu.address = (afterTwo (s.euAct a) inp s).biu.address :=
  (congrArg Biu.address (tick_latches s a inp) :)
theorem tick_dataBus : (tick a inp s).biu.dataBus = (afterTwo (s.euAct a) inp s).biu.dataBus :=
  (congrArg Biu.dataBus (tick_latches s a inp) :)
theorem tick_ioLatch : (tick a inp s).biu.ioLatch = (afterTwo (s.euAct a) inp s).biu.ioLatch :=
  (congrArg Biu.ioLatch (tick_latches s a inp) :)
theorem tick_euData : (tick a inp s).biu.euData = (afterTwo (s.euAct a) inp s).biu.euData :=
  (congrArg Biu.euData (tick_latches s a inp) :)
theorem tick_euReady : (tick a inp s).biu.euReady = (afterTwo (s.euAct a) inp s).biu.euReady :=
  (congrArg Biu.euReady (tick_latches s a inp) :)
theorem tick_pending : (tick a inp s).biu.pending = (afterTwo (s.euAct a) inp s).biu.pending :=
  (congrArg Biu.pending (tick_latches s a inp) :)

theorem tick_prep : (tick a inp s).biu.prep = (addressCycle s.dma.st.holds (s.euAct a) (afterTwo (s.euAct a) inp s)).prep := by
  rw [tick_eq]
  simp [beforeDma]

/-- `T1` leads to `T2`, in the bus cycle that it has begun (R146). -/
theorem tick_t1 (h : s.biu.tState = .t1) :
    (tick a inp s).biu.busState = (afterTwo (s.euAct a) inp s).biu.busState ∧
      (tick a inp s).biu.access = (afterTwo (s.euAct a) inp s).biu.access ∧
      (tick a inp s).biu.cycle = (afterTwo (s.euAct a) inp s).biu.cycle := by
  rw [tick_eq, h]
  obtain ⟨hb, ha⟩ := enterTState_busState_access (t := .t2) (tickDma (beforeDma (s.euAct a) inp s)).biu nofun nofun
  have hc := enterTState_cycle (t := .t2) (tickDma (beforeDma (s.euAct a) inp s)).biu (by simp [beforeDma, h])
  exact ⟨hb.trans (by simp [beforeDma]), ha.trans (by simp [beforeDma]), hc.trans (by simp [beforeDma])⟩

/-! What the EU's action leaves of the bus interface unit. -/

/-- The state in which step 1 begins. -/
def acted (a : EuAct) (s : State) : State := euActs a (s.setBiu { s.biu with queueOp := .idle, queueByte := none, euReady := false })

theorem afterTwo_acted : afterTwo a inp s = stepsOneTwo s.dma.st.holds inp (acted a s) := rfl

/-- The same bus cycle, which a flush may have discarded (R154). -/
def SameCycle (x y : Option BusCycle) : Prop := ∀ c, x = some c → ∃ d, y = some { c with discard := d }

theorem SameCycle.refl (x : Option BusCycle) : SameCycle x x := fun c h => ⟨c.discard, h⟩

theorem popQueue_biu : ∃ f o q r, (popQueue s).biu = { s.biu with fetchState := f, queueOp := o, queueByte := q, queueRead := r } := by
  unfold popQueue
  split <;> exact ⟨_, _, _, _, rfl⟩

theorem discardFetch_sameCycle (b : Biu) : ∃ y, b.discardFetch = { b with cycle := y } ∧ SameCycle b.cycle y := by
  unfold Biu.discardFetch
  split
  · exact ⟨_, rfl, fun c h => ⟨true, by rw [h]; rfl⟩⟩
  · exact ⟨_, rfl, .refl _⟩

/-- No action of the EU touches the bus cycle in progress, but that a flush discards a code fetch. -/
theorem euActs_biu : ∃ p f o q r y, (euActs a s).biu = { s.biu with
    pending := p, fetchState := f, queueOp := o, queueByte := q, queueRead := r, cycle := y } ∧ SameCycle s.biu.cycle y := by
  cases a with
  | pop =>
    obtain ⟨f, o, q, r, h⟩ := popQueue_biu s
    exact ⟨_, f, o, q, r, _, h, .refl _⟩
  | popFirst =>
    obtain ⟨f, o, q, r, h⟩ := popQueue_biu (s.setNextIsFirst true)
    exact ⟨_, f, o, q, r, _, h, .refl _⟩
  | flush cs ip =>
    obtain ⟨y, h, hy⟩ := discardFetch_sameCycle s.biu
    refine ⟨s.biu.pending, .normal, .flush, s.biu.queueByte, false, y, ?_, hy⟩
    show ({ s.biu.discardFetch with fetchState := .normal, queueRead := false, queueOp := .flush } : Biu) = _
    rw [h]
  | beginFetch =>
    simp only [euActs]
    split <;> exact ⟨_, _, _, _, _, _, rfl, .refl _⟩
  | resumeFetch =>
    simp only [euActs]
    split <;> exact ⟨_, _, _, _, _, _, rfl, .refl _⟩
  | _ => exact ⟨_, _, _, _, _, _, rfl, .refl _⟩

theorem acted_biu : ∃ p f o q r y, (acted a s).biu = { s.biu with
    pending := p, fetchState := f, queueOp := o, queueByte := q, queueRead := r, euReady := false, cycle := y } ∧
    SameCycle s.biu.cycle y := by
  obtain ⟨p, f, o, q, r, y, h, hy⟩ := euActs_biu (s.setBiu { s.biu with queueOp := .idle, queueByte := none, euReady := false }) a
  exact ⟨p, f, o, q, r, y, h, hy⟩

@[simp] theorem acted_mem : (acted a s).mem = s.mem := by simp [acted]
@[simp] theorem acted_cfg : (acted a s).cfg = s.cfg := by simp [acted]
@[simp] theorem acted_pins : (acted a s).pins = s.pins := by simp [acted]
@[simp] theorem acted_bus : (acted a s).bus = s.bus := by simp [acted]
@[simp] theorem acted_tState : (acted a s).biu.tState = s.biu.tState := by simp [acted]
@[simp] theorem acted_busState : (acted a s).biu.busState = s.biu.busState := by
  obtain ⟨_, _, _, _, _, _, h, -⟩ := acted_biu s a
  rw [h]
@[simp] theorem acted_prep : (acted a s).biu.prep = s.biu.prep := by
  obtain ⟨_, _, _, _, _, _, h, -⟩ := acted_biu s a
  rw [h]

/-- A stalled EU does nothing (R149). -/
theorem euAct_of_stalled (h : s.biu.stalled = true) : s.euAct a = .idle := by simp [State.euAct, h]

theorem stalled_of_pending {r : BusReq} (h : s.biu.pending = some r) : s.biu.stalled = true := by simp [Biu.stalled, h]

theorem stalled_of_cycle {c : BusCycle} (h : s.biu.cycle = some c) (hb : s.biu.busState.demanded = true) :
    s.biu.stalled = true := by simp [Biu.stalled, h, hb]

theorem acted_of_stalled (h : s.biu.stalled = true) :
    acted (s.euAct a) s = s.setBiu { s.biu with queueOp := .idle, queueByte := none, euReady := false } := by
  rw [euAct_of_stalled s a h]
  rfl

theorem stepsOneTwo_t1 (h : s.biu.tState = .t1) : stepsOneTwo hold inp s = actionT1 (s.setBiu (drainWaits hold s.biu)) := by
  simp [stepsOneTwo, h]
theorem stepsOneTwo_t2 (h : s.biu.tState = .t2) : stepsOneTwo hold inp s = actionT2 (s.setBiu (drainWaits hold s.biu)) := by
  simp [stepsOneTwo, h]
theorem stepsOneTwo_t4 (h : s.biu.tState = .t4) : stepsOneTwo hold inp s = actionT4 (s.setBiu (drainWaits hold s.biu)) := by
  simp [stepsOneTwo, h]

theorem stepsOneTwo_idle (h : s.biu.tState = .tinit ∨ s.biu.tState = .ti) :
    stepsOneTwo hold inp s = s.setBiu (drainWaits hold s.biu) := by
  rcases h with h | h <;> simp [stepsOneTwo, h]

/-! The T-states that transfer: `T3` and `Tw`. -/

/-- The state in which a tick in `T3` or `Tw` comes to its transfer. -/
def beforeTransfer (hold : Bool) (inp : BusIn) (s : State) : State :=
  let drained := s.setBiu (drainWaits hold s.biu)
  if s.biu.tState = .t3 then callIoRead inp (drained.setBiu (loadWait (drained.waitCount inp) drained.biu)) else drained

theorem stepsOneTwo_transfer (h : s.biu.tState = .t3 ∨ s.biu.tState = .tw) :
    stepsOneTwo hold inp s = transferIfDone inp (beforeTransfer hold inp s) := by
  rcases h with h | h <;> simp [stepsOneTwo, beforeTransfer, h]

theorem loadWait_waits (w : Nat) (b : Biu) : ∃ m n, loadWait w b = { b with busWait := m, ioWait := n } := by
  unfold loadWait
  split <;> exact ⟨_, _, rfl⟩

/-- The call of an I/O read, in `T3` (R142). -/
theorem callIoRead_called : (callIoRead inp s).biu =
      { s.biu with ioLatch := if s.biu.busState = .ioRead then zext16 (loByte inp.data) else s.biu.ioLatch } ∧
    (callIoRead inp s).bus =
      (if s.biu.busState = .ioRead then .ioRead (s.biu.address.setWidth 16) (loByte inp.data) :: s.bus else s.bus) := by
  unfold callIoRead
  split
  · exact ⟨rfl, by rw [portOf_eq]; rfl⟩
  · exact ⟨rfl, rfl⟩

theorem beforeTransfer_eq : ∃ b : Biu, (∃ l m n, b = { s.biu with busWait := l, ioWait := m, dmaWait := n }) ∧
    beforeTransfer hold inp s = if s.biu.tState = .t3 then callIoRead inp (s.setBiu b) else s.setBiu b := by
  by_cases h : s.biu.tState = .t3
  · obtain ⟨l, m, e⟩ := loadWait_waits ((s.setBiu (drainWaits hold s.biu)).waitCount inp) (drainWaits hold s.biu)
    refine ⟨_, ⟨l, m, s.biu.dmaWait - 1, rfl⟩, ?_⟩
    rw [if_pos h, beforeTransfer, if_pos h]
    exact congrArg (fun b => callIoRead inp (s.setBiu b)) e
  · exact ⟨_, ⟨_, _, _, rfl⟩, by rw [if_neg h, beforeTransfer, if_neg h]; rfl⟩

theorem beforeTransfer_biu : ∃ l m n, (beforeTransfer hold inp s).biu =
    { s.biu with busWait := l, ioWait := m, dmaWait := n, ioLatch :=
        if s.biu.tState = .t3 ∧ s.biu.busState = .ioRead then zext16 (loByte inp.data) else s.biu.ioLatch } := by
  obtain ⟨b, ⟨l, m, n, rfl⟩, e⟩ := beforeTransfer_eq s inp hold
  refine ⟨l, m, n, ?_⟩
  rw [e]
  by_cases h : s.biu.tState = .t3
  · rw [if_pos h, (callIoRead_called _ inp).1]
    simp only [h, true_and]
    rfl
  · simp [h]

theorem beforeTransfer_bus : (beforeTransfer hold inp s).bus =
    if s.biu.tState = .t3 ∧ s.biu.busState = .ioRead then .ioRead (s.biu.address.setWidth 16) (loByte inp.data) :: s.bus
    else s.bus := by
  obtain ⟨b, ⟨l, m, n, rfl⟩, e⟩ := beforeTransfer_eq s inp hold
  rw [e]
  by_cases h : s.biu.tState = .t3
  · rw [if_pos h, (callIoRead_called _ inp).2]
    simp only [h, true_and]
    rfl
  · simp [h]

@[simp] theorem beforeTransfer_mem : (beforeTransfer hold inp s).mem = s.mem := by
  unfold beforeTransfer
  split <;> simp
@[simp] theorem beforeTransfer_cfg : (beforeTransfer hold inp s).cfg = s.cfg := by
  unfold beforeTransfer
  split <;> simp
@[simp] theorem beforeTransfer_pins : (beforeTransfer hold inp s).pins = s.pins := by
  unfold beforeTransfer
  split <;> simp
@[simp] theorem callIoRead_lock : (callIoRead inp s).lock = s.lock := by unfold callIoRead; split <;> rfl
@[simp] theorem beforeTransfer_lock : (beforeTransfer hold inp s).lock = s.lock := by
  unfold beforeTransfer
  split <;> simp

/-- Of the bus interface unit a transfer sets the data bus. -/
theorem transfer_biu : (transfer c inp s).biu = { s.biu with dataBus := (transfer c inp s).biu.dataBus } := by
  unfold transfer
  cases s.biu.busState with
  | memWrite => simp only []; split <;> simp
  | interruptAck => simp only []; split <;> simp
  | _ => rfl

theorem transfer_discard (d : Bool) : transfer { c with discard := d } inp s = transfer c inp s := rfl

/-- Whether the transfer takes place is what decides the next T-state (R142, R146). -/
theorem transferIfDone_noWait : (transferIfDone inp s).biu.noWait = s.biu.noWait := by
  unfold transferIfDone
  split
  · split
    · rw [transfer_biu]
      rfl
    · rfl
  · rfl

/-- The state in which the tick `tick a inp s`, in `T3` or `Tw`, comes to its transfer. -/
def ready (a : EuAct) (inp : BusIn) (s : State) : State := beforeTransfer s.dma.st.holds inp (acted (s.euAct a) s)

@[simp] theorem ready_mem : (ready a inp s).mem = s.mem := by simp [ready]
@[simp] theorem ready_cfg : (ready a inp s).cfg = s.cfg := by simp [ready]
@[simp] theorem ready_pins : (ready a inp s).pins = s.pins := by simp [ready]

/-- Until the transfer the bus interface unit has kept what it has latched, and the call of an I/O read has been made. -/
theorem ready_biu : ∃ l m n p f o q r y, (ready a inp s).biu = { s.biu with
      busWait := l, ioWait := m, dmaWait := n, pending := p, fetchState := f, queueOp := o, queueByte := q, queueRead := r
      euReady := false, cycle := y
      ioLatch := if s.biu.tState = .t3 ∧ s.biu.busState = .ioRead then zext16 (loByte inp.data) else s.biu.ioLatch } ∧
    SameCycle s.biu.cycle y := by
  obtain ⟨l, m, n, e⟩ := beforeTransfer_biu (acted (s.euAct a) s) inp s.dma.st.holds
  obtain ⟨p, f, o, q, r, y, e', hy⟩ := acted_biu s (s.euAct a)
  rw [acted_tState, acted_busState, e'] at e
  exact ⟨l, m, n, p, f, o, q, r, y, e, hy⟩

@[simp] theorem ready_address : (ready a inp s).biu.address = s.biu.address := by
  obtain ⟨_, _, _, _, _, _, _, _, _, h, -⟩ := ready_biu s a inp
  rw [h]
@[simp] theorem ready_dataBus : (ready a inp s).biu.dataBus = s.biu.dataBus := by
  obtain ⟨_, _, _, _, _, _, _, _, _, h, -⟩ := ready_biu s a inp
  rw [h]
@[simp] theorem ready_busState : (ready a inp s).biu.busState = s.biu.busState := by
  obtain ⟨_, _, _, _, _, _, _, _, _, h, -⟩ := ready_biu s a inp
  rw [h]
@[simp] theorem ready_access : (ready a inp s).biu.access = s.biu.access := by
  obtain ⟨_, _, _, _, _, _, _, _, _, h, -⟩ := ready_biu s a inp
  rw [h]
@[simp] theorem ready_ioLatch : (ready a inp s).biu.ioLatch = 
    if s.biu.tState = .t3 ∧ s.biu.busState = .ioRead then zext16 (loByte inp.data) else s.biu.ioLatch := by
  obtain ⟨_, _, _, _, _, _, _, _, _, h, -⟩ := ready_biu s a inp
  rw [h]

theorem ready_sameCycle : SameCycle s.biu.cycle (ready a inp s).biu.cycle := by
  obtain ⟨_, _, _, _, _, _, _, _, _, h, hy⟩ := ready_biu s a inp
  rw [h]
  exact hy

theorem ready_bus : (ready a inp s).bus =
    if s.biu.tState = .t3 ∧ s.biu.busState = .ioRead then .ioRead (s.biu.address.setWidth 16) (loByte inp.data) :: s.bus
    else s.bus := by
  obtain ⟨_, _, _, _, _, _, h, -⟩ := acted_biu s (s.euAct a)
  rw [ready, beforeTransfer_bus, acted_tState, acted_busState, acted_bus, h]

/-- But for the call of an I/O read no bus operation comes before the transfer. -/
theorem ready_bus_of_ne (h : s.biu.busState ≠ .ioRead) : (ready a inp s).bus = s.bus := by simp [ready_bus, h]

theorem ready_lock (h : s.biu.stalled = true) : (ready a inp s).lock = s.lock := by
  rw [ready, beforeTransfer_lock, acted_of_stalled s a h]
  rfl

theorem afterTwo_ready (h : s.biu.tState = .t3 ∨ s.biu.tState = .tw) :
    afterTwo (s.euAct a) inp s = transferIfDone inp (ready a inp s) := by
  rw [afterTwo_acted, stepsOneTwo_transfer _ _ _ (by simpa using h)]
  rfl

theorem tick_tState_of_ready (h : s.biu.tState = .t3 ∨ s.biu.tState = .tw) :
    (tick a inp s).biu.tState = if (ready a inp s).biu.noWait then .t4 else .tw := by
  rw [tick_tState, afterTwo_ready s a inp h, transferIfDone_noWait]
  rcases h with h | h <;> rw [h] <;> rfl

/-- The tick that gives `T4` makes the transfer of the cycle. -/
theorem afterTwo_of_t4 (h : s.biu.tState = .t3 ∨ s.biu.tState = .tw) (hc : s.biu.cycle = some c)
    (h4 : (tick a inp s).biu.tState = .t4) : afterTwo (s.euAct a) inp s = transfer c inp (ready a inp s) := by
  have hn : (ready a inp s).biu.noWait = true := by
    rw [tick_tState_of_ready s a inp h] at h4
    by_contra hn
    rw [if_neg hn] at h4
    cases h4
  obtain ⟨d, hd⟩ := ready_sameCycle s a inp c hc
  rw [afterTwo_ready s a inp h, transferIfDone, if_pos hn, hd]
  exact transfer_discard _ _ _ _

/-- The tick that gives `Tw` makes none. -/
theorem afterTwo_of_tw (h : s.biu.tState = .t3 ∨ s.biu.tState = .tw) (hw : (tick a inp s).biu.tState = .tw) :
    afterTwo (s.euAct a) inp s = ready a inp s := by
  have hn : ¬ (ready a inp s).biu.noWait = true := by
    rw [tick_tState_of_ready s a inp h] at hw
    intro hn
    rw [if_pos hn] at hw
    cases hw
  rw [afterTwo_ready s a inp h, transferIfDone, if_neg hn]

/-! What a transfer does, by the bus state. -/

theorem transfer_memWrite (h : s.biu.busState = .memWrite) : transfer c inp s =
    (if c.wide then (s.storeData s.biu.address (loByte c.data)).storeData (s.biu.address + 1) (hiByte c.data)
      else s.storeData s.biu.address (loByte c.data)).logBus (.memWrite s.biu.access s.biu.address c.wide c.data) := by
  simp [transfer, h]

theorem transfer_memRead (h : s.biu.busState = .memRead) : transfer c inp s =
    (s.setBiu { s.biu with dataBus := busRead c.wide inp s }).logBus
      (.memRead s.biu.access s.biu.address c.wide (busRead c.wide inp s)) := by
  simp [transfer, h]

theorem transfer_codeFetch (h : s.biu.busState = .codeFetch) : transfer c inp s =
    (s.setBiu { s.biu with dataBus := busFetch c.wide inp s }).logBus
      (.codeFetch s.biu.address c.wide (busFetch c.wide inp s)) := by
  simp [transfer, h]

theorem transfer_ioRead (h : s.biu.busState = .ioRead) : transfer c inp s = s.setBiu { s.biu with dataBus := s.biu.ioLatch } := by
  simp [transfer, h]

theorem transfer_ioWrite (h : s.biu.busState = .ioWrite) : transfer c inp s =
    s.logBus (.ioWrite (s.biu.address.setWidth 16) (loByte c.data)) := by
  simp [transfer, h]

theorem transfer_interruptAck (h : s.biu.busState = .interruptAck) : transfer c inp s =
    if c.second then (s.setBiu { s.biu with dataBus := zext16 s.pins.vector }).logBus (.intAck s.lock (some s.pins.vector))
    else (s.setBiu { s.biu with dataBus := inp.data }).logBus (.intAck s.lock none) := by
  simp [transfer, h]

theorem transfer_halt (h : s.biu.busState = .halt) : transfer c inp s = s := by simp [transfer, h]

/-- A transfer makes one bus operation, but that of an I/O read, which has been made, and a Halt cycle, which makes none. -/
theorem transfer_bus : (transfer c inp s).bus = s.bus ∨
    (s.biu.busState ≠ .ioRead ∧ s.biu.busState ≠ .halt) ∧ ∃ e, (transfer c inp s).bus = e :: s.bus := by
  cases h : s.biu.busState with
  | codeFetch => exact .inr ⟨⟨nofun, nofun⟩, _, by rw [transfer_codeFetch s inp c h]; rfl⟩
  | memRead => exact .inr ⟨⟨nofun, nofun⟩, _, by rw [transfer_memRead s inp c h]; rfl⟩
  | memWrite =>
    refine .inr ⟨⟨nofun, nofun⟩, .memWrite s.biu.access s.biu.address c.wide c.data, ?_⟩
    rw [transfer_memWrite s inp c h]
    split <;> simp [State.logBus]
  | ioRead => exact .inl (by rw [transfer_ioRead s inp c h]; rfl)
  | ioWrite => exact .inr ⟨⟨nofun, nofun⟩, _, by rw [transfer_ioWrite s inp c h]; rfl⟩
  | interruptAck =>
    refine .inr ⟨⟨nofun, nofun⟩, .intAck s.lock (if c.second then some s.pins.vector else none), ?_⟩
    rw [transfer_interruptAck s inp c h]
    split <;> rfl
  | halt => exact .inl (by rw [transfer_halt s inp c h])
  | passive => exact .inl (by simp [transfer, h])

theorem transfer_mem (h : s.biu.busState ≠ .memWrite) : (transfer c inp s).mem = s.mem := by
  cases hb : s.biu.busState with
  | memWrite => exact absurd hb h
  | interruptAck =>
    rw [transfer_interruptAck s inp c hb]
    split <;> rfl
  | _ => simp [transfer, hb]

/-- In a tick of another T-state no bus operation is made and memory stays. -/
theorem stepsOneTwo_mem_bus (h : s.biu.tState ≠ .t3) (h' : s.biu.tState ≠ .tw) :
    (stepsOneTwo hold inp s).mem = s.mem ∧ (stepsOneTwo hold inp s).bus = s.bus := by
  unfold stepsOneTwo
  cases ht : s.biu.tState with
  | t3 => exact absurd ht h
  | tw => exact absurd ht h'
  | _ => simp

theorem tick_bus_of_ne (h : s.biu.tState ≠ .t3) (h' : s.biu.tState ≠ .tw) : (tick a inp s).bus = s.bus := by
  rw [tick_bus, afterTwo_acted, (stepsOneTwo_mem_bus _ _ _ (by simpa using h) (by simpa using h')).2, acted_bus]

theorem transferIfDone_bus : (transferIfDone inp s).bus = s.bus ∨
    (s.biu.busState ≠ .ioRead ∧ s.biu.busState ≠ .halt) ∧ ∃ e, (transferIfDone inp s).bus = e :: s.bus := by
  unfold transferIfDone
  split
  · split
    · exact transfer_bus _ _ _
    · exact .inl rfl
  · exact .inl rfl

end TickBiu

theorem oneBusOperationPerTick : Claim.OneBusOperationPerTick := by
  intro a inp s
  by_cases h : s.biu.tState = .t3 ∨ s.biu.tState = .tw
  · rw [tick_bus, afterTwo_ready s a inp h]
    rcases transferIfDone_bus (ready a inp s) inp with e | ⟨⟨hb, -⟩, ev, e⟩
    · rw [e, ready_bus]
      split
      · exact .inr ⟨_, rfl⟩
      · exact .inl rfl
    · rw [ready_busState] at hb
      exact .inr ⟨ev, by rw [e, ready_bus_of_ne s a inp hb]⟩
  · rw [not_or] at h
    exact .inl (tick_bus_of_ne s a inp h.1 h.2)

end Sys2Proof.Machine

namespace Sys2Proof.Machine
open Sys2Proof

/-! ### What a bus cycle transfers -/

section Transfers
variable (s : State) (a : EuAct) (inp : BusIn) (c : BusCycle)

/-- The low bit of an address is its parity. -/
theorem getLsbD_zero_iff {n : Nat} (x : BitVec n) : x.getLsbD 0 = true ↔ x.toNat % 2 = 1 := by
  simp [BitVec.getLsbD, Nat.testBit_zero]

theorem busWidth_word_iff : s.busWidth = 2 ↔ s.cfg.busWidth = .word := by
  unfold State.busWidth
  cases s.cfg.busWidth <;> simp

theorem fetchesHigh_iff (x : BitVec 20) : s.fetchesHigh x = true ↔ s.cfg.busWidth = .word ∧ x.toNat % 2 = 1 := by
  rw [State.fetchesHigh, Bool.and_eq_true, beq_iff_eq, busWidth_word_iff, getLsbD_zero_iff]

theorem fetchWide_iff : s.fetchWide = true ↔ s.cfg.busWidth = .word ∧ s.pc.toNat % 2 = 0 := by
  rw [State.fetchWide, Bool.and_eq_true, beq_iff_eq, busWidth_word_iff, Bool.not_eq_true', Bool.eq_false_iff, ne_eq,
    getLsbD_zero_iff, Nat.mod_two_not_eq_one]

/-! The data of a read. -/

theorem busByte_eq_answer (x : BitVec 20) (d : Byte) : busByte s x d = s.answer x d := by
  unfold busByte State.answer State.byteAt
  cases s.kindAt x <;> simp

theorem ready_answer (x : BitVec 20) (d : Byte) : (ready a inp s).answer x d = s.answer x d := by
  simp only [State.answer, kindAt_of_cfg (ready_cfg s a inp), byteAt_of_mem (ready_mem s a inp), ready_cfg]

theorem ready_fetchesHigh (x : BitVec 20) : (ready a inp s).fetchesHigh x = s.fetchesHigh x := by
  simp [State.fetchesHigh, State.busWidth]

theorem busRead_wide (h : c.wide = true) : busRead c.wide inp (ready a inp s) =
    wordOf (s.answer s.biu.address (loByte inp.data)) (s.answer (s.biu.address + 1) (hiByte inp.data)) := by
  simp only [busRead, busByte_eq_answer, ready_answer, ready_address, h, if_true]

theorem busRead_narrow (h : c.wide = false) : busRead c.wide inp (ready a inp s) =
    (s.answer s.biu.address (loByte inp.data)).setWidth 16 := by
  simp only [busRead, busByte_eq_answer, ready_answer, ready_address, h, Bool.false_eq_true, if_false]
  rfl

/-- What a read or a code fetch puts on the data bus. -/
def State.brought (c : BusCycle) (inp : BusIn) (s : State) : Word :=
  if s.biu.busState = .memRead then busRead c.wide inp s else busFetch c.wide inp s

theorem transfer_read (h : s.biu.busState = .memRead ∨ s.biu.busState = .codeFetch) :
    (transfer c inp s).biu.dataBus = s.brought c inp ∧ (transfer c inp s).bus =
      (if s.biu.busState = .memRead then .memRead s.biu.access s.biu.address c.wide (s.brought c inp)
        else .codeFetch s.biu.address c.wide (s.brought c inp)) :: s.bus := by
  rcases h with h | h
  · rw [transfer_memRead s inp c h, State.brought, if_pos h, if_pos h]
    exact ⟨rfl, rfl⟩
  · have hn : ¬ s.biu.busState = .memRead := by simp [h]
    rw [transfer_codeFetch s inp c h, State.brought, if_neg hn, if_neg hn]
    exact ⟨rfl, rfl⟩

theorem brought_wide (h : c.wide = true) : (ready a inp s).brought c inp =
    wordOf (s.answer s.biu.address (loByte inp.data)) (s.answer (s.biu.address + 1) (hiByte inp.data)) := by
  rw [← busRead_wide s a inp c h, State.brought, busFetch]
  simp [h]

theorem brought_high (h : s.bringsHighByte c) : (ready a inp s).brought c inp =
    wordOf (s.answer (s.biu.address - 1) (loByte inp.data)) (s.answer s.biu.address (hiByte inp.data)) := by
  obtain ⟨hb, hw, hcfg, hodd⟩ := h
  have hh : s.fetchesHigh s.biu.address = true := (fetchesHigh_iff s _).mpr ⟨hcfg, hodd⟩
  rw [State.brought, if_neg (by simp [hb]), busFetch, if_pos (by simp [hw, ready_fetchesHigh, hh])]
  simp only [busByte_eq_answer, ready_answer, ready_address]

theorem brought_narrow (hb : s.biu.busState = .memRead ∨ s.biu.busState = .codeFetch) (hw : c.wide = false)
    (hn : ¬ s.bringsHighByte c) : (ready a inp s).brought c inp = (s.answer s.biu.address (loByte inp.data)).setWidth 16 := by
  have h : ¬ s.biu.busState = .memRead → s.fetchesHigh s.biu.address = false := by
    intro h
    rw [Bool.eq_false_iff, ne_eq, fetchesHigh_iff]
    exact fun ⟨hcfg, hodd⟩ => hn ⟨hb.resolve_left h, hw, hcfg, hodd⟩
  rw [← busRead_narrow s a inp c hw, State.brought]
  split
  · rfl
  · next hm => rw [busFetch, ready_fetchesHigh, ready_address, h (by simpa using hm)]; simp

theorem tick_reads (h : s.biu.tState = .t3 ∨ s.biu.tState = .tw) (hc : s.biu.cycle = some c)
    (hb : s.biu.busState = .memRead ∨ s.biu.busState = .codeFetch) (h4 : (tick a inp s).biu.tState = .t4) :
    (tick a inp s).biu.dataBus = (ready a inp s).brought c inp ∧ (tick a inp s).bus =
      (if s.biu.busState = .memRead then .memRead s.biu.access s.biu.address c.wide (tick a inp s).biu.dataBus
        else .codeFetch s.biu.address c.wide (tick a inp s).biu.dataBus) :: s.bus := by
  obtain ⟨hd, hbus⟩ := transfer_read (ready a inp s) inp c (by simpa using hb)
  rw [← afterTwo_of_t4 s a inp c h hc h4] at hd hbus
  rw [← tick_dataBus] at hd
  rw [← tick_bus, ← hd, ready_bus_of_ne s a inp (by rcases hb with hb | hb <;> simp [hb])] at hbus
  simp only [ready_busState, ready_access, ready_address] at hbus
  exact ⟨hd, hbus⟩

/-! The data of a write. -/

theorem addr_succ_ne (x : BitVec 20) : x ≠ x + 1 := by
  intro h
  have h := congrArg BitVec.toNat h
  have hx := x.isLt
  simp only [BitVec.toNat_add, BitVec.reduceToNat] at h
  omega

/-- The bytes that a memory cycle writes, at the latched address and no other (20_memory.md R81). -/
theorem transfer_stores (h : s.biu.busState = .memWrite) :
    MemKeptBut (if c.wide then [s.biu.address, s.biu.address + 1] else [s.biu.address]) s (transfer c inp s) ∧
    (Memory.wf s.mem = true → s.isRam s.biu.address → (transfer c inp s).byteAt s.biu.address = loByte c.data) ∧
    (Memory.wf s.mem = true → c.wide = true → s.isRam (s.biu.address + 1) →
      (transfer c inp s).byteAt (s.biu.address + 1) = hiByte c.data) := by
  have hne := addr_succ_ne s.biu.address
  rw [transfer_memWrite s inp c h]
  cases hw : c.wide with
  | false =>
    refine ⟨fun x hx => storeData_byteAt_ne s _ x _ (by simpa using hx), fun wf hr => storeData_byteAt_same s _ _ wf hr, nofun⟩
  | true =>
    refine ⟨fun x hx => ?_, fun wf hr => ?_, fun wf _ hr => ?_⟩
    · simp only [if_true, List.mem_pair, not_or] at hx
      exact (storeData_byteAt_ne _ _ x _ hx.2).trans (storeData_byteAt_ne s _ x _ hx.1)
    · exact (storeData_byteAt_ne _ _ _ _ hne).trans (storeData_byteAt_same s _ _ wf hr)
    · exact storeData_byteAt_same _ _ _ (storeData_wf s _ _ wf) ((kindAt_of_cfg (storeData_cfg s _ _) _).trans hr)

theorem tick_stores (h : s.biu.tState = .t3 ∨ s.biu.tState = .tw) (hc : s.biu.cycle = some c)
    (hb : s.biu.busState = .memWrite) (h4 : (tick a inp s).biu.tState = .t4) :
    MemKeptBut (if c.wide then [s.biu.address, s.biu.address + 1] else [s.biu.address]) s (tick a inp s) ∧
    (Memory.wf s.mem = true → s.isRam s.biu.address → (tick a inp s).byteAt s.biu.address = loByte c.data) ∧
    (Memory.wf s.mem = true → c.wide = true → s.isRam (s.biu.address + 1) →
      (tick a inp s).byteAt (s.biu.address + 1) = hiByte c.data) := by
  have hm : (tick a inp s).mem = (transfer c inp (ready a inp s)).mem := by
    rw [tick_mem, afterTwo_of_t4 s a inp c h hc h4]
  obtain ⟨hk, hl, hh⟩ := transfer_stores (ready a inp s) inp c (by simpa using hb)
  rw [ready_address] at hk hl hh
  rw [ready_mem] at hl hh
  have ram : ∀ x, s.isRam x → (ready a inp s).isRam x := fun x hx => (kindAt_of_cfg (ready_cfg s a inp) x).trans hx
  exact ⟨fun x hx => ((byteAt_of_mem hm x).trans (hk x hx)).trans (byteAt_of_mem (ready_mem s a inp) x),
    fun wf hr => (byteAt_of_mem hm _).trans (hl wf (ram _ hr)), fun wf hw hr => (byteAt_of_mem hm _).trans (hh wf hw (ram _ hr))⟩

theorem tick_store_bus (h : s.biu.tState = .t3 ∨ s.biu.tState = .tw) (hc : s.biu.cycle = some c)
    (hb : s.biu.busState = .memWrite) (h4 : (tick a inp s).biu.tState = .t4) :
    (tick a inp s).bus = .memWrite s.biu.access s.biu.address c.wide c.data :: s.bus := by
  rw [tick_bus, afterTwo_of_t4 s a inp c h hc h4, transfer_memWrite _ _ _ (by simpa using hb)]
  have hr := ready_bus_of_ne s a inp (by simp [hb])
  split <;> simp [State.logBus, hr]

/-! `T2` and `T4` of a cycle that the EU has demanded: the EU is stalled (R149). -/

theorem tick_drives (h2 : s.biu.tState = .t2) (hc : s.biu.cycle = some c)
    (hb : s.biu.busState = .memWrite ∨ s.biu.busState = .ioWrite) : (tick a inp s).biu.dataBus = c.data := by
  have hs : s.biu.stalled = true := stalled_of_cycle s hc (by rcases hb with hb | hb <;> rw [hb] <;> rfl)
  rw [tick_dataBus, afterTwo_acted, acted_of_stalled s a hs]
  rw [stepsOneTwo_t2 _ _ _ (by exact h2)]
  simp [actionT2, drainWaits, hc, hb]

theorem afterTwo_t4 (h4 : s.biu.tState = .t4) (hc : s.biu.cycle = some c) (hb : s.biu.busState.demanded = true) :
    ∃ b : Biu, (b.cycle = some c ∧ b.busState = s.biu.busState ∧ b.euData = s.biu.euData ∧ b.dataBus = s.biu.dataBus) ∧
      afterTwo (s.euAct a) inp s = actionT4 (s.setBiu b) := by
  rw [afterTwo_acted, acted_of_stalled s a (stalled_of_cycle s hc hb), stepsOneTwo_t4 _ _ _ (by exact h4)]
  exact ⟨drainWaits s.dma.st.holds { s.biu with queueOp := .idle, queueByte := none, euReady := false }, ⟨hc, rfl, rfl, rfl⟩, rfl⟩

/-- `T4` delivers a read to the EU, a second byte above the first (R144). -/
theorem tick_delivers (h4 : s.biu.tState = .t4) (hc : s.biu.cycle = some c)
    (hb : s.biu.busState = .memRead ∨ s.biu.busState = .ioRead) :
    (tick a inp s).biu.euData =
        (if c.second then wordOf (loByte s.biu.euData) (loByte s.biu.dataBus) else s.biu.dataBus) ∧
      (tick a inp s).biu.euReady = !c.more := by
  obtain ⟨b, ⟨hbc, hbs, hbe, hbd⟩, e⟩ := afterTwo_t4 s a inp c h4 hc (by rcases hb with hb | hb <;> rw [hb] <;> rfl)
  rw [tick_euData, tick_euReady, e]
  rcases hb with hb | hb <;> simp [actionT4, latchForEu, hbc, hbs, hb, hbe, hbd]

theorem tick_acknowledges (h4 : s.biu.tState = .t4) (hc : s.biu.cycle = some c) (hb : s.biu.busState = .interruptAck) :
    (tick a inp s).biu.euData = s.biu.dataBus ∧ (tick a inp s).biu.euReady = !c.more := by
  obtain ⟨b, ⟨hbc, hbs, -, hbd⟩, e⟩ := afterTwo_t4 s a inp c h4 hc (by rw [hb]; rfl)
  rw [tick_euData, tick_euReady, e]
  simp [actionT4, hbc, hbs, hb, hbd]

theorem tick_written (h4 : s.biu.tState = .t4) (hc : s.biu.cycle = some c)
    (hb : s.biu.busState = .memWrite ∨ s.biu.busState = .ioWrite) : (tick a inp s).biu.euReady = !c.more := by
  obtain ⟨b, ⟨hbc, hbs, -, -⟩, e⟩ := afterTwo_t4 s a inp c h4 hc (by rcases hb with hb | hb <;> rw [hb] <;> rfl)
  rw [tick_euReady, e]
  rcases hb with hb | hb <;> simp [actionT4, hbc, hbs, hb]

end Transfers

theorem tickTransfersData : Claim.TickTransfersData := by
  intro a inp s c hc
  refine ⟨fun h2 hb => tick_drives s a inp c h2 hc (.inl hb), fun h hb h4 => ?_, fun h hb h4 => ?_, fun h hw => ?_,
    fun h4 hb => tick_delivers s a inp c h4 hc (.inl hb), fun h4 hb => tick_written s a inp c h4 hc (.inl hb)⟩
  · obtain ⟨hk, hl, hh⟩ := tick_stores s a inp c h hc hb h4
    exact ⟨hk, hl, hh, tick_store_bus s a inp c h hc hb h4⟩
  · obtain ⟨hd, hbus⟩ := tick_reads s a inp c h hc hb h4
    exact ⟨fun hw => hd.trans (brought_wide s a inp c hw), fun hh => hd.trans (brought_high s a inp c hh),
      fun hw hn => hd.trans (brought_narrow s a inp c hb hw hn), hbus⟩
  · refine fun x => byteAt_of_mem ?_ x
    rw [tick_mem, afterTwo_of_tw s a inp h hw, ready_mem]

end Sys2Proof.Machine

namespace Sys2Proof.Machine
open Sys2Proof

/-! ### Ports and acknowledgements -/

section Ports
variable (s : State) (a : EuAct) (inp : BusIn) (c : BusCycle)

/-- An I/O read makes its call in `T3`, and nothing else on the bus (R142). -/
theorem tick_ioRead_bus (h : s.biu.tState = .t3 ∨ s.biu.tState = .tw) (hb : s.biu.busState = .ioRead) :
    (tick a inp s).bus = (ready a inp s).bus := by
  rw [tick_bus, afterTwo_ready s a inp h]
  exact (transferIfDone_bus (ready a inp s) inp).resolve_right fun ⟨⟨hn, _⟩, _⟩ => hn (by simpa using hb)

theorem tick_ioRead_data (h : s.biu.tState = .t3 ∨ s.biu.tState = .tw) (hc : s.biu.cycle = some c)
    (hb : s.biu.busState = .ioRead) (h4 : (tick a inp s).biu.tState = .t4) :
    (tick a inp s).biu.dataBus = (ready a inp s).biu.ioLatch := by
  rw [tick_dataBus, afterTwo_of_t4 s a inp c h hc h4, transfer_ioRead _ _ _ (by simpa using hb)]
  rfl

theorem tick_ioLatch_of_transfer (h : s.biu.tState = .t3 ∨ s.biu.tState = .tw) :
    (tick a inp s).biu.ioLatch = (ready a inp s).biu.ioLatch := by
  rw [tick_ioLatch, afterTwo_ready s a inp h]
  unfold transferIfDone
  split
  · split
    · rw [transfer_biu]
    · rfl
  · rfl

theorem tick_ioWrite_bus (h : s.biu.tState = .t3 ∨ s.biu.tState = .tw) (hc : s.biu.cycle = some c)
    (hb : s.biu.busState = .ioWrite) (h4 : (tick a inp s).biu.tState = .t4) :
    (tick a inp s).bus = .ioWrite (s.biu.address.setWidth 16) (loByte c.data) :: s.bus := by
  rw [tick_bus, afterTwo_of_t4 s a inp c h hc h4, transfer_ioWrite _ _ _ (by simpa using hb)]
  simp [State.logBus, ready_bus_of_ne s a inp (by simp [hb])]

/-- The second acknowledge cycle brings the vector (R157). -/
theorem tick_intAck (h : s.biu.tState = .t3 ∨ s.biu.tState = .tw) (hc : s.biu.cycle = some c)
    (hb : s.biu.busState = .interruptAck) (h4 : (tick a inp s).biu.tState = .t4) :
    (c.second = false → (tick a inp s).bus = .intAck s.lock none :: s.bus) ∧
    (c.second = true → (tick a inp s).bus = .intAck s.lock (some s.pins.vector) :: s.bus ∧
      (tick a inp s).biu.dataBus = s.pins.vector.setWidth 16) := by
  have hbus := ready_bus_of_ne s a inp (by simp [hb])
  have hl := ready_lock s a inp (stalled_of_cycle s hc (by rw [hb]; rfl))
  rw [tick_bus, tick_dataBus, afterTwo_of_t4 s a inp c h hc h4, transfer_interruptAck _ _ _ (by simpa using hb), hl]
  constructor <;> intro h2 <;> simp [h2, State.logBus, hbus, zext16]

/-- `Tw` follows a tick that has waited. -/
theorem transfers_of_tw (h : (tick a inp s).biu.tState = .tw) : s.biu.tState = .t3 ∨ s.biu.tState = .tw := by
  rw [tick_tState] at h
  cases ht : s.biu.tState with
  | t3 => exact .inl rfl
  | tw => exact .inr rfl
  | t1 => rw [ht] at h; cases h
  | t2 => rw [ht] at h; cases h
  | _ =>
    rw [ht, nextTState] at h
    split at h <;> cases h

theorem tick_halt_bus (hb : s.biu.busState = .halt) : (tick a inp s).bus = s.bus := by
  by_cases h : s.biu.tState = .t3 ∨ s.biu.tState = .tw
  · rw [tick_bus, afterTwo_ready s a inp h, ← ready_bus_of_ne s a inp (by simp [hb])]
    exact (transferIfDone_bus (ready a inp s) inp).resolve_right fun ⟨⟨_, hn⟩, _⟩ => hn (by simpa using hb)
  · rw [not_or] at h
    exact tick_bus_of_ne s a inp h.1 h.2

end Ports

theorem tickTransfersPorts : Claim.TickTransfersPorts := by
  intro a inp s c hc
  refine ⟨fun hb => ⟨fun h3 => ⟨?_, fun h4 => ?_, fun _ => ?_⟩, fun hw => ⟨?_, ?_, fun h4 => ?_⟩, fun h4 =>
      tick_delivers s a inp c h4 hc (.inr hb)⟩,
    fun hb => ⟨fun h2 => tick_drives s a inp c h2 hc (.inr hb), fun h h4 => tick_ioWrite_bus s a inp c h hc hb h4, fun h4 =>
      tick_written s a inp c h4 hc (.inr hb)⟩,
    fun hb => ⟨fun h h4 => tick_intAck s a inp c h hc hb h4, fun h4 => tick_acknowledges s a inp c h4 hc hb⟩,
    tick_bus_of_ne s a inp, fun hb hw => ?_, tick_halt_bus s a inp⟩
  · rw [tick_ioRead_bus s a inp (.inl h3) hb, ready_bus, if_pos ⟨h3, hb⟩]
  · rw [tick_ioRead_data s a inp c (.inl h3) hc hb h4, ready_ioLatch, if_pos ⟨h3, hb⟩]
    rfl
  · rw [tick_ioLatch_of_transfer s a inp (.inl h3), ready_ioLatch, if_pos ⟨h3, hb⟩]
    rfl
  · rw [tick_ioRead_bus s a inp (.inr hw) hb, ready_bus, if_neg (by simp [hw])]
  · rw [tick_ioLatch_of_transfer s a inp (.inr hw), ready_ioLatch, if_neg (by simp [hw])]
  · rw [tick_ioRead_data s a inp c (.inr hw) hc hb h4, ready_ioLatch, if_neg (by simp [hw])]
  · rw [tick_bus, afterTwo_of_tw s a inp (transfers_of_tw s a inp hw) hw, ready_bus_of_ne s a inp hb]

/-! ### A bus cycle begins -/

section CycleBegins
variable (s : State) (a : EuAct) (inp : BusIn) (hold : Bool) (c : BusCycle)

theorem pushFetched_prep_halted : (pushFetched c s).biu.prep = s.biu.prep ∧ (pushFetched c s).halted = s.halted := by
  unfold pushFetched
  extract_lets
  split <;> exact ⟨rfl, rfl⟩

/-- `T4` of a cycle other than a code fetch moves only the bus interface unit. -/
theorem actionT4_setBiu (h : s.biu.busState ≠ .codeFetch) : ∃ w r, actionT4 s = s.setBiu { s.biu with euData := w, euReady := r } := by
  unfold actionT4
  cases s.biu.cycle with
  | none => exact ⟨s.biu.euData, s.biu.euReady, rfl⟩
  | some c =>
    cases hb : s.biu.busState with
    | codeFetch => exact absurd hb h
    | passive => exact ⟨s.biu.euData, s.biu.euReady, rfl⟩
    | _ => exact ⟨_, _, rfl⟩

theorem actionT4_prep_halted : (actionT4 s).biu.prep = s.biu.prep ∧ (actionT4 s).halted = s.halted := by
  by_cases h : s.biu.busState = .codeFetch
  · simp only [actionT4, h]
    split
    · exact ⟨rfl, rfl⟩
    · exact pushFetched_prep_halted s _
  · obtain ⟨w, r, e⟩ := actionT4_setBiu s h
    rw [e]
    exact ⟨rfl, rfl⟩

theorem nextTState_t1 {starts noWait : Bool} {t : TState} (h : nextTState starts noWait t = .t1) :
    starts = true ∧ (t = .tinit ∨ t = .ti ∨ t = .t4) := by
  cases t <;> cases starts <;> cases noWait <;> simp_all [nextTState]

theorem stepsOneTwo_prep (h : s.biu.tState = .tinit ∨ s.biu.tState = .ti ∨ s.biu.tState = .t4) :
    (stepsOneTwo hold inp s).biu.prep = s.biu.prep := by
  rw [← or_assoc] at h
  rcases h with h | h
  · rw [stepsOneTwo_idle _ _ _ h]
    rfl
  · rw [stepsOneTwo_t4 _ _ _ h, (actionT4_prep_halted _).1]
    rfl

theorem afterTwo_prep (h : s.biu.tState = .tinit ∨ s.biu.tState = .ti ∨ s.biu.tState = .t4) :
    (afterTwo a inp s).biu.prep = s.biu.prep := by
  rw [afterTwo_acted, stepsOneTwo_prep _ _ _ (by simpa using h), acted_prep]

/-- The bus cycle that starts is the one prepared. -/
theorem addressCycle_prep_of_starts (h : s.biu.starts hold a = true) : (addressCycle hold a s).prep = s.biu.prep := by
  obtain ⟨⟨⟨h0, -⟩, hab⟩, -⟩ : ((s.biu.ta = .t0 ∧ hold = false) ∧ s.biu.aborts a = false) ∧ s.biu.tState.betweenCycles = true := by
    simpa [Biu.starts] using h
  simp [addressCycle, h0, hab, h]

theorem tick_prep_of_t1 (h : (tick a inp s).biu.tState = .t1) : (tick a inp s).biu.prep = s.biu.prep := by
  rw [tick_tState] at h
  obtain ⟨hs, ht⟩ := nextTState_t1 h
  rw [tick_prep, addressCycle_prep_of_starts _ _ _ hs, afterTwo_prep s _ inp ht]

/-- A request of the EU has its address cycle begun before any code fetch (R149). -/
theorem tick_prepares (h : s.biu.ta = .td) (hp : (tick a inp s).biu.pending ≠ none) :
    (tick a inp s).biu.ta = .tr ∧ (tick a inp s).biu.prep = .eu := by
  rw [tick_pending, ← Option.isSome_iff_ne_none] at hp
  rw [tick_ta, tick_prep]
  simp [addressCycle, h, hp]

/-- `T1` of a code fetch (R150). -/
theorem tick_startFetch (h1 : s.biu.tState = .t1) (hp : s.biu.prep = .fetch) :
    (tick a inp s).biu.busState = .codeFetch ∧ (tick a inp s).biu.access = .cs ∧
      (tick a inp s).biu.address = lin (tick a inp s).seg.cs (tick a inp s).pc ∧
      ∃ c, (tick a inp s).biu.cycle = some c ∧ c.discard = false ∧
        (c.wide = true ↔ s.cfg.busWidth = .word ∧ (tick a inp s).pc.toNat % 2 = 0) := by
  obtain ⟨hb, ha, hc⟩ := tick_t1 s a inp h1
  rw [hb, ha, hc, tick_address, tick_seg, tick_pc, afterTwo_acted, stepsOneTwo_t1 _ _ _ (by simpa using h1)]
  have e : ∀ u : State, u.biu.prep = .fetch → actionT1 u = startFetch u := fun u hu => by simp [actionT1, hu]
  rw [e _ (by simpa [drainWaits] using hp)]
  refine ⟨rfl, rfl, rfl, _, rfl, rfl, ?_⟩
  rw [fetchWide_iff]
  simp [startFetch]

theorem tick_startEu {r : BusReq} (h1 : s.biu.tState = .t1) (hp : s.biu.prep = .eu) (hr : s.biu.pending = some r) :
    ∃ b, (b.cycle = s.biu.cycle ∧ b.address = s.biu.address) ∧ afterTwo (s.euAct a) inp s = startEu r (s.setBiu b) := by
  rw [afterTwo_acted, acted_of_stalled s a (stalled_of_pending s hr), stepsOneTwo_t1 _ _ _ (by exact h1)]
  refine ⟨drainWaits s.dma.st.holds { s.biu with queueOp := .idle, queueByte := none, euReady := false }, ⟨rfl, rfl⟩, ?_⟩
  have e : ∀ u : State, u.biu.prep = .eu → u.biu.pending = some r → actionT1 u = startEu r u :=
    fun u hu hur => by simp [actionT1, hu, hur]
  exact e _ hp hr

/-! `T1` of a transfer for the EU (R149, R157). -/

theorem secondHalf_eq (b : Biu) : b.secondHalf = b.cycle.any fun c => c.more := by
  unfold Biu.secondHalf
  cases b.cycle <;> rfl

theorem twoCycles_eq (r : BusReq) : r.twoCycles s = (r.kind == .interruptAck ||
    r.wide && (r.kind == .ioRead || r.kind == .ioWrite || r.onMemory && !s.oneCycle (lin r.seg r.off))) := by
  unfold BusReq.twoCycles BusReq.onMemory
  cases r.kind <;> cases r.wide <;> rfl

theorem startEu_busState (r : BusReq) : (startEu r s).biu.busState = r.kind.busState := rfl
theorem startEu_access (r : BusReq) : (startEu r s).biu.access = if r.onMemory then r.access else .none := rfl
theorem startEu_pending (r : BusReq) :
    (startEu r s).biu.pending = if r.twoCycles s && !s.biu.secondHalf then some r else none := rfl

theorem startEu_address (r : BusReq) : (startEu r s).biu.address = r.address s.biu.secondHalf s.biu.address := by
  simp only [startEu]
  split
  · rfl
  · split <;> rfl

theorem startEu_lock {r : BusReq} (h : r.kind = .interruptAck) : (startEu r s).lock = !s.biu.secondHalf := by
  simp [startEu, h, BusReq.twoCycles]

theorem startEu_halted {r : BusReq} (h : r.kind = .halt) : (startEu r s).halted = true := by simp [startEu, h]

/-- The bus cycle of a request, the second one or the first of `two`. -/
theorem startEu_cycle (r : BusReq) : ∃ c, (startEu r s).biu.cycle = some c ∧ c.second = s.biu.secondHalf ∧
    c.more = (r.twoCycles s && !s.biu.secondHalf) ∧ c.last = (r.last && !c.more) ∧ c.discard = false ∧
    c.wide = (r.onMemory && r.wide && !r.twoCycles s) ∧
    c.data = (if c.wide then r.data else (if s.biu.secondHalf then hiByte r.data else loByte r.data).setWidth 16) := by
  refine ⟨_, rfl, rfl, rfl, rfl, rfl, ?_, rfl⟩
  cases r.onMemory <;> cases r.wide <;> cases r.twoCycles s <;> rfl

end CycleBegins

theorem cycleBegins : Claim.CycleBegins := by
  rintro a inp s t rfl
  refine ⟨tick_prep_of_t1 s a inp, tick_prepares s a inp, tick_startFetch s a inp, ?_⟩
  intro r h1 hp hr second two off hsecond hoff htwo
  obtain ⟨hb, ha, hc⟩ := tick_t1 s a inp h1
  obtain ⟨b, ⟨hbc, hba⟩, hW⟩ := tick_startEu s a inp h1 hp hr
  have hsec : (s.setBiu b).biu.secondHalf = second := by rw [hsecond, secondHalf_eq, ← hbc]; rfl
  have htw : r.twoCycles (s.setBiu b) = two := by rw [htwo, twoCycles_eq]; rfl
  have hadr := startEu_address (s.setBiu b) r
  obtain ⟨c, hcyc⟩ := startEu_cycle (s.setBiu b) r
  rw [hsec] at hadr
  rw [hsec, htw] at hcyc
  rw [hb, ha, hc, tick_address, tick_pending, tick_lock, tick_halted, hW, hadr, startEu_busState, startEu_access,
    startEu_pending, hsec, htw]
  refine ⟨fun hk => ?_, fun hk => ?_, fun hk => ?_, fun hk => ?_, fun hk => ?_, fun hk => ?_, rfl, c, hcyc⟩
  case refine_5 => exact ⟨by rw [hk]; rfl, by simp [BusReq.onMemory, hk], (startEu_lock _ hk).trans (by rw [hsec])⟩
  case refine_6 => exact ⟨by rw [hk]; rfl, by simp [BusReq.onMemory, hk], startEu_halted _ hk⟩
  all_goals exact ⟨by rw [hk]; rfl, by simp [BusReq.onMemory, hk], by simp [BusReq.address, hk, hoff]⟩

/-! ### What an idle tick leaves alone -/

section IdleTick
variable (s : State) (inp : BusIn) (hold : Bool)

/-- An idle agenda leaves the EU the read that waits (21_prefetch_queue.md R116). -/
theorem euAct_idle : s.euAct .idle = if s.biu.queueRead && !s.halted && !s.biu.stalled then .pop else .idle := by
  unfold State.euAct
  cases s.cfg.euTiming
  cases s.halted <;> cases s.biu.stalled <;> cases s.biu.queueRead <;> rfl

theorem popQueue_takes : (popQueue s).queue = s.queue.tail ∧ (popQueue s).ip = s.ip + if s.queue.isEmpty then 0 else 1 := by
  unfold popQueue
  split
  · next h => simp [h]
  · next h => simp [h]

/-- Where the queue has a byte for the read that waits, that byte is taken. -/
theorem acted_idle : (acted (s.euAct .idle) s).queue = s.remaining ∧
    (acted (s.euAct .idle) s).ip = s.ip + (if s.readEnds then 1 else 0) ∧
    (acted (s.euAct .idle) s).seg = s.seg ∧ (acted (s.euAct .idle) s).pc = s.pc := by
  rw [euAct_idle, State.remaining, State.readEnds]
  split
  · next h =>
    obtain ⟨hq, hi⟩ := popQueue_takes (s.setBiu { s.biu with queueOp := .idle, queueByte := none, euReady := false })
    refine ⟨hq.trans ?_, hi.trans ?_, popQueue_seg _, popQueue_pc _⟩
    all_goals
      simp only [Bool.and_eq_true] at h
      obtain ⟨⟨hr, hh⟩, hs⟩ := h
      cases hl : s.queue <;> simp [hl, hr, hh, hs]
  · next h =>
    have h : (s.biu.queueRead && !s.queue.isEmpty && !s.halted && !s.biu.stalled) = false := by
      revert h
      cases s.biu.queueRead <;> cases s.queue.isEmpty <;> cases s.halted <;> cases s.biu.stalled <;> simp
    simp [h, acted, euActs]

/-- A halt begins at the `T1` of a Halt cycle only (R158). -/
theorem actionT1_halted : (actionT1 s).halted = s.halted ∨
    (actionT1 s).halted = true ∧ (actionT1 s).biu.busState = .halt := by
  unfold actionT1
  split
  · next r _ _ =>
    by_cases hk : r.kind = .halt
    · exact .inr ⟨startEu_halted s hk, by rw [startEu_busState, hk]; rfl⟩
    · refine .inl ?_
      simp only [startEu, hk, if_false]
      split <;> rfl
  · exact .inl rfl
  · exact .inl rfl
  · exact .inl rfl

@[simp] theorem actionT2_halted : (actionT2 s).halted = s.halted := by
  unfold actionT2
  split
  · split <;> rfl
  · rfl
@[simp] theorem actionT4_halted : (actionT4 s).halted = s.halted := (actionT4_prep_halted s).2
@[simp] theorem callIoRead_halted : (callIoRead inp s).halted = s.halted := by unfold callIoRead; split <;> rfl
@[simp] theorem transfer_halted (c : BusCycle) : (transfer c inp s).halted = s.halted := by
  unfold transfer
  cases s.biu.busState with
  | memWrite => simp only []; split <;> simp
  | interruptAck => simp only []; split <;> rfl
  | _ => rfl
@[simp] theorem transferIfDone_halted : (transferIfDone inp s).halted = s.halted := by
  unfold transferIfDone
  split
  · split
    · simp
    · rfl
  · rfl

theorem stepsOneTwo_halted (h : s.biu.tState ≠ .t1) : (stepsOneTwo hold inp s).halted = s.halted := by
  unfold stepsOneTwo
  cases ht : s.biu.tState with
  | t1 => exact absurd ht h
  | _ => simp

theorem tick_halted_cases (a : EuAct) : (tick a inp s).halted = s.halted ∨
    (tick a inp s).halted = true ∧ s.biu.tState = .t1 ∧ (tick a inp s).biu.busState = .halt := by
  rw [tick_halted, afterTwo_acted]
  by_cases h1 : s.biu.tState = .t1
  · obtain ⟨hb, -, -⟩ := tick_t1 s a inp h1
    rw [hb, afterTwo_acted, stepsOneTwo_t1 _ _ _ (by simpa using h1)]
    rcases actionT1_halted ((acted (s.euAct a) s).setBiu (drainWaits s.dma.st.holds (acted (s.euAct a) s).biu)) with h | h
    · exact .inl (h.trans (by simp [acted]))
    · exact .inr ⟨h.1, h1, h.2⟩
  · exact .inl ((stepsOneTwo_halted _ _ _ (by simpa using h1)).trans (by simp [acted]))

/-- Memory changes only by the transfer of a write cycle. -/
theorem tick_memKept (a : EuAct) (h : s.biu.busState ≠ .memWrite) : MemKept s (tick a inp s) := by
  refine fun x => byteAt_of_mem ?_ x
  rw [tick_mem]
  by_cases ht : s.biu.tState = .t3 ∨ s.biu.tState = .tw
  · rw [afterTwo_ready s a inp ht, transferIfDone]
    split
    · split
      · rw [transfer_mem _ _ _ (by simpa using h), ready_mem]
      · exact ready_mem s a inp
    · exact ready_mem s a inp
  · rw [not_or] at ht
    rw [afterTwo_acted, (stepsOneTwo_mem_bus _ _ _ (by simpa using ht.1) (by simpa using ht.2)).1, acted_mem]

/-- Steps 1 and 2 add to the queue only at the end of a code fetch. -/
theorem stepsOneTwo_queue_pc (h : s.biu.tState ≠ .t4 ∨ s.biu.busState ≠ .codeFetch) :
    (stepsOneTwo hold inp s).queue = s.queue ∧ (stepsOneTwo hold inp s).pc = s.pc := by
  by_cases h4 : s.biu.tState = .t4
  · obtain ⟨w, r, e⟩ := actionT4_setBiu (s.setBiu (drainWaits hold s.biu)) (h.resolve_left (not_not_intro h4))
    rw [stepsOneTwo_t4 _ _ _ h4, e]
    exact ⟨rfl, rfl⟩
  · unfold stepsOneTwo
    cases ht : s.biu.tState with
    | t4 => exact absurd ht h4
    | _ => simp

end IdleTick

theorem tickLeavesArchitecture : Claim.TickLeavesArchitecture := by
  intro inp s
  obtain ⟨hq, hi, hs, hp⟩ := acted_idle s
  refine ⟨by simp, ?_, ?_, by simp, by simp, by simp, by simp, by simp, by simp, by simp, by simp, by simp,
    tick_halted_cases s inp .idle, tick_memKept s inp .idle, fun h => ?_⟩
  · rw [tick_seg, afterTwo_acted, stepsOneTwo_seg, hs]
  · rw [tick_ip, afterTwo_acted, stepsOneTwo_ip, hi]
  · obtain ⟨h1, h2⟩ := stepsOneTwo_queue_pc (acted (s.euAct .idle) s) inp s.dma.st.holds (by simpa using h)
    rw [tick_queue, tick_pc, afterTwo_acted, h1, h2]
    exact ⟨hq, hp⟩

/-- Settles O59: each T-state by what steps 1 and 2 do in it; what they leave, the rest of the tick leaves. -/
theorem ticksAndArchitecture : Obligations.TicksAndArchitecture :=
  ⟨cycleBegins, tickTransfersData, tickTransfersPorts, oneBusOperationPerTick, tickLeavesArchitecture⟩

end Sys2Proof.Machine

namespace Sys2Proof.Machine
open Sys2Proof Host

/-! ### What an instruction does to the queue and to the rest of the machine (21_prefetch_queue.md R112 to R121) -/

/-- The system part but for the segment registers and what the sequencer records of the instruction. -/
def State.frame (s : State) : System :=
  { s.system with seg := { es := 0, cs := 0, ss := 0, ds := 0 }, dec := DecodeState.clear, life := .fetch }

/-- Nothing is fetched but by a store: no fill is scheduled, and no code fetch is on the bus or about to begin there. -/
def State.Still (s : State) : Prop :=
  s.fills = [] ∧ s.biu.inFlight = 0 ∧ (s.biu.tState ≠ .t1 ∨ s.biu.prep ≠ .fetch)

/-- The bytes `l` have come to the queue and PC has passed them, the demands `es` have been shown on the bus, and the frame, the segments
that code may come from and the tag of the next byte are as before. Without a store a still state has fetched nothing. -/
structure Moved (l : List Byte) (es : List BusEvent) (s t : State) : Prop where
  frame : t.frame = s.frame
  stale : t.stale = s.stale
  first : t.nextIsFirst = s.nextIsFirst
  queue : t.queue = s.queue ++ l
  pc : t.pc = s.pc + BitVec.ofNat 16 l.length
  demands : t.demands = es ++ s.demands
  still : s.Still → (∀ e ∈ es, e.isMemWrite = false) → l = [] ∧ t.Still

theorem Moved.trans {s t u : State} {l k : List Byte} {es fs : List BusEvent} (h : Moved l es s t) (g : Moved k fs t u) :
    Moved (l ++ k) (fs ++ es) s u where
  frame := g.frame.trans h.frame
  stale := g.stale.trans h.stale
  first := g.first.trans h.first
  queue := by rw [g.queue, h.queue, List.append_assoc]
  pc := by rw [g.pc, h.pc, List.length_append, BitVec.ofNat_add, BitVec.add_assoc]
  demands := by rw [g.demands, h.demands, List.append_assoc]
  still hs he := by
    obtain ⟨hl, ht⟩ := h.still hs fun e m => he e (List.mem_append_right _ m)
    obtain ⟨hk, hu⟩ := g.still ht fun e m => he e (List.mem_append_left _ m)
    exact ⟨by rw [hl, hk, List.append_nil], hu⟩

/-- What `Moved` looks at. -/
def State.part (s : State) : System × List Word × Bool × List Byte × Word × List BusEvent × List Nat × Biu :=
  (s.frame, s.stale, s.nextIsFirst, s.queue, s.pc, s.demands, s.fills, s.biu)

theorem Moved.of_part {s t : State} (h : t.part = s.part) : Moved [] [] s t := by
  simp only [State.part, Prod.mk.injEq] at h
  obtain ⟨hf, hs, hn, hq, hp, hd, hfi, hb⟩ := h
  exact ⟨hf, hs, hn, by rw [hq, List.append_nil], by rw [hp]; simp, by rw [hd]; rfl,
    fun hs _ => ⟨rfl, by rw [State.Still, hfi, hb]; exact hs⟩⟩

/-- An operation that fetches code only where it makes an access to memory or a port. -/
def Flow (s t : State) : Prop := ∃ l es, Moved l es s t ∧ (es = [] → l = [])

theorem Flow.of_part {s t : State} (h : t.part = s.part) : Flow s t := ⟨[], [], .of_part h, fun _ => rfl⟩

theorem Flow.refl (s : State) : Flow s s := .of_part rfl

theorem Flow.trans {s t u : State} : Flow s t → Flow t u → Flow s u
  | ⟨l, es, h, hl⟩, ⟨k, fs, g, hk⟩ => ⟨l ++ k, fs ++ es, h.trans g, fun e => by
      obtain ⟨e1, e2⟩ := List.append_eq_nil_iff.mp e
      rw [hl e2, hk e1, List.append_nil]⟩

section Setters
variable {s t : State} (h : Flow s t)
include h

theorem Flow.setR16 (r : Reg16) (v : Word) : Flow s (t.setR16 r v) := h.trans (.of_part rfl)
theorem Flow.setR8 (r : Reg8) (v : Byte) : Flow s (t.setR8 r v) := h.trans (.of_part rfl)
theorem Flow.setSreg (r : SReg) (v : Word) : Flow s (t.setSreg r v) := h.trans (.of_part (by cases r <;> rfl))
theorem Flow.setFlags (v : Word) : Flow s (t.setFlags v) := h.trans (.of_part rfl)
theorem Flow.setLastEa (v : Word) : Flow s (t.setLastEa v) := h.trans (.of_part rfl)
theorem Flow.setEaOpr (v : Word) : Flow s (t.setEaOpr v) := h.trans (.of_part rfl)
theorem Flow.setDec (d : DecodeState) : Flow s (t.setDec d) := h.trans (.of_part rfl)
theorem Flow.setLife (l : Life) : Flow s (t.setLife l) := h.trans (.of_part rfl)
theorem Flow.bumpDraws : Flow s t.bumpDraws := h.trans (.of_part rfl)
theorem Flow.havocFlags (m : Word) : Flow s (t.havocFlags m) := h.trans (.of_part rfl)

end Setters

theorem Flow.frame {s t : State} : Flow s t → t.frame = s.frame
  | ⟨_, _, h, _⟩ => h.frame

theorem frame_of_system {s t : State} (h : t.system = s.system) : t.frame = s.frame := by rw [State.frame, State.frame, h]

section Accesses
variable (s : State)

/-! The accesses to memory and ports. -/

theorem prefetch_moved : ∃ l, Moved l [] s s.prefetch := by
  obtain ⟨l, hq, hp⟩ := prefetch_grown s
  have h := prefetch_fetched s
  refine ⟨l, frame_of_system h.system, h.stale, h.nextIsFirst, hq, hp, h.demands, fun hs _ => ?_⟩
  rw [prefetch_nil s hs.1] at hq ⊢
  exact ⟨by simpa using hq, hs⟩

theorem logBus_moved {e : BusEvent} (h : e.isFetch = false) : Moved [] [e] s (s.logBus e) :=
  ⟨rfl, rfl, rfl, (List.append_nil _).symm, by simp, by simp [logBus_demands, h], fun hs _ => ⟨rfl, hs⟩⟩

@[simp] theorem takeDevice_demands : s.takeDevice.2.demands = s.demands := by unfold State.takeDevice; split <;> rfl

theorem takeDevice_part : s.takeDevice.2.part = s.part := by
  simp [State.part, State.frame]

theorem fetchData_part (a : BitVec 20) : (s.fetchData a).2.part = s.part := by
  unfold State.fetchData
  split
  case h_4 => exact takeDevice_part s
  all_goals rfl

/-- An access that a fill may come before, and that is seen on the bus. -/
theorem flow_of_access {t : State} {e : BusEvent} (h : t.part = s.prefetch.part) (he : e.isFetch = false) : Flow s (t.logBus e) := by
  obtain ⟨l, hl⟩ := prefetch_moved s
  exact ⟨_, _, (hl.trans (.of_part h)).trans (logBus_moved t he), nofun⟩

theorem readByte_flow (acc : Access) (sv off : Word) : Flow s (readByte acc sv off s).2 :=
  flow_of_access s (fetchData_part _ _) rfl

theorem readWord_flow (acc : Access) (sv off : Word) : Flow s (readWord acc sv off s).2 := by
  unfold readWord
  split
  · exact flow_of_access s ((fetchData_part _ _).trans (fetchData_part _ _)) rfl
  · exact (readByte_flow s _ _ _).trans (readByte_flow _ _ _ _)

theorem ioReadByte_flow (port : Word) : Flow s (ioReadByte port s).2 := flow_of_access s (takeDevice_part _) rfl

theorem ioReadWord_flow (port : Word) : Flow s (ioReadWord port s).2 := (ioReadByte_flow s _).trans (ioReadByte_flow _ _)

theorem ioWriteByte_flow (port : Word) (v : Byte) : Flow s (ioWriteByte port v s) := flow_of_access s rfl rfl

theorem ioWriteWord_flow (port v : Word) : Flow s (ioWriteWord port v s) := (ioWriteByte_flow s _ _).trans (ioWriteByte_flow _ _ _)

theorem writeByte_flow (acc : Access) (sv off : Word) (v : Byte) : Flow s (writeByte acc sv off v s) := by
  obtain ⟨l, hq, hp⟩ := writeByte_grown s acc sv off v
  exact ⟨l, [.memWrite acc (lin sv off) false (zext16 v)],
    ⟨frame_of_system (by simp), by simp, by simp, hq, hp, writeByte_demands s acc sv off v, fun _ he => nomatch he _ (.head _)⟩, nofun⟩

theorem writeWord_flow (acc : Access) (sv off v : Word) : Flow s (writeWord acc sv off v s) := by
  by_cases hc : s.oneCycle (lin sv off) = true
  · obtain ⟨l, hq, hp⟩ := writeWord_grown s acc sv off v
    exact ⟨l, [.memWrite acc (lin sv off) true v],
      ⟨frame_of_system (by simp), by simp, by simp, hq, hp, by rw [writeWord_demands, if_pos hc]; rfl,
        fun _ he => nomatch he _ (.head _)⟩, nofun⟩
  · rw [writeWord, if_neg hc]
    exact (writeByte_flow s _ _ _ _).trans (writeByte_flow _ _ _ _ _)

theorem push16_flow (v : Word) : Flow s (push16 v s) :=
  ((Flow.refl s).setR16 .sp (s.r16 .sp - 2)).trans (writeWord_flow (s.setR16 .sp (s.r16 .sp - 2)) .ss _ _ v)

theorem pop16_flow : Flow s (pop16 s).2 := (readWord_flow s .ss s.seg.ss (s.r16 .sp)).setR16 .sp _

/-! Operands. -/

theorem resolve8_flow (rm : RM8) : Flow s (resolve8 rm s).2 := .of_part (by cases rm <;> rfl)
theorem resolve16_flow (rm : RM16) : Flow s (resolve16 rm s).2 := .of_part (by cases rm <;> rfl)

theorem readPlace8_flow (p : Place8) : Flow s (readPlace8 p s).2 := by
  cases p with
  | reg r => exact .refl s
  | mem acc sv off => exact (readByte_flow s acc sv off).setEaOpr _

theorem readPlace16_flow (p : Place16) : Flow s (readPlace16 p s).2 := by
  cases p with
  | reg r => exact .refl s
  | mem acc sv off => exact (readWord_flow s acc sv off).setEaOpr _

theorem writePlace8_flow (p : Place8) (v : Byte) : Flow s (writePlace8 p v s) := by
  cases p with
  | reg r => exact (Flow.refl s).setR8 r v
  | mem acc sv off => exact writeByte_flow s _ _ _ _

theorem writePlace16_flow (p : Place16) (v : Word) : Flow s (writePlace16 p v s) := by
  cases p with
  | reg r => exact (Flow.refl s).setR16 r v
  | mem acc sv off => exact writeWord_flow s _ _ _ _

theorem load8_flow (rm : RM8) : Flow s (load8 rm s).2 := (resolve8_flow s rm).trans (readPlace8_flow _ _)
theorem load16_flow (rm : RM16) : Flow s (load16 rm s).2 := (resolve16_flow s rm).trans (readPlace16_flow _ _)
theorem store8_flow (rm : RM8) (v : State → Byte) : Flow s (store8 rm v s) := (resolve8_flow s rm).trans (writePlace8_flow _ _ _)
theorem store16_flow (rm : RM16) (v : State → Word) : Flow s (store16 rm v s) :=
  (resolve16_flow s rm).trans (writePlace16_flow _ _ _)

/-- What `modify` does after the load and the late bytes. -/
theorem modify8_after (k : Nat) (rm : RM8) (f : Byte → State → Option Byte × Word) : Flow (loaded8 k rm s) (modify8 k rm f s) := by
  rw [modify8_eq]
  split
  · exact ((Flow.refl _).setFlags _).trans (writePlace8_flow _ _ _)
  · exact (Flow.refl _).setFlags _

theorem modify16_after (k : Nat) (rm : RM16) (f : Word → State → Option Word × Word) :
    Flow (loaded16 k rm s) (modify16 k rm f s) := by
  rw [modify16_eq]
  split
  · exact ((Flow.refl _).setFlags _).trans (writePlace16_flow _ _ _)
  · exact (Flow.refl _).setFlags _

theorem modify8_flow (rm : RM8) (f : Byte → State → Option Byte × Word) : Flow s (modify8 0 rm f s) :=
  (load8_flow s rm).trans (modify8_after s 0 rm f)

theorem modify16_flow (rm : RM16) (f : Word → State → Option Word × Word) : Flow s (modify16 0 rm f s) :=
  (load16_flow s rm).trans (modify16_after s 0 rm f)

theorem modifyW_flow (rm : RMW) (f8 : Byte → State → Option Byte × Word) (f16 : Word → State → Option Word × Word) :
    Flow s (modifyW 0 rm f8 f16 s) := by
  cases rm with
  | byte rm => exact modify8_flow s rm f8
  | word rm => exact modify16_flow s rm f16

theorem aluRegRm8_flow (op : AluOp) (r : Reg8) (rm : RM8) : Flow s (aluRegRm8 op r rm s) :=
  (load8_flow s rm).trans (modify8_flow (load8 rm s).2 (.reg r) fun a t => aluOut op a (load8 rm s).1 t)

theorem aluRegRm16_flow (op : AluOp) (r : Reg16) (rm : RM16) : Flow s (aluRegRm16 op r rm s) :=
  (load16_flow s rm).trans (modify16_flow (load16 rm s).2 (.reg r) fun a t => aluOut op a (load16 rm s).1 t)

theorem readFar_flow (r : SReg) (off : Word) : Flow s (readFar r off s).2.2 :=
  ((readWord_flow s (accessOf r) (s.sreg r) off).setEaOpr _).trans (readWord_flow _ (accessOf r) (s.sreg r) (off + 2))

theorem loadFar_flow (m : Mem) : Flow s (loadFar m s).2.2 :=
  ((Flow.refl s).setLastEa (eaOff m s)).trans (readFar_flow (s.setLastEa (eaOff m s)) (eaSeg m s) (eaOff m s))

theorem loadFarLastEa_flow : Flow s (loadFarLastEa s).2.2 := readFar_flow s _ _

end Accesses

end Sys2Proof.Machine

namespace Sys2Proof.Machine
open Sys2Proof Host

/-! ### Transfers of control empty the queue -/

/-- The queue is empty, the instruction stream goes on at IP, and the frame is as before. -/
def Flushed (s t : State) : Prop := t.frame = s.frame ∧ FetchesAt t.ip t

theorem Flow.flushed {s t u : State} (h : Flow s t) (g : Flushed t u) : Flushed s u := ⟨g.1.trans h.frame, g.2⟩

theorem Flushed.setDec {s t : State} (h : Flushed s t) (d : DecodeState) : Flushed s (t.setDec d) := h
theorem Flushed.setLife {s t : State} (h : Flushed s t) (l : Life) : Flushed s (t.setLife l) := h

/-- The instructions that may flush the queue do so or go on. -/
def FlowOrFlush (s t : State) : Prop := Flow s t ∨ Flushed s t

section Control
variable (s : State)

theorem nearTransfer_flushed (t : Word) : Flushed s (nearTransfer t s) :=
  ⟨frame_of_system (nearTransfer_system s t), rfl, rfl, rfl, rfl, rfl⟩

theorem frame_of_systemCs {s t : State} {cs : Word} (h : t.system = s.systemCs cs) : t.frame = s.frame := by
  rw [State.frame, h]
  rfl

theorem farTransfer_flushed (sv t : Word) : Flushed s (farTransfer sv t s) :=
  ⟨frame_of_systemCs (farTransfer_system s sv t), rfl, rfl, rfl, rfl, rfl⟩

theorem interrupt_flushed (n : Byte) (r : Word) : Flushed s (interrupt n r s) := by
  obtain ⟨⟨-, -, h, -⟩, -⟩ := interrupt_entered s n r
  exact ⟨frame_of_systemCs (interrupt_system s n r), h⟩

theorem divideError_flushed : Flushed s (divideError s) := by
  have h : Flow s (s.havocFlags statusMask) := (Flow.refl s).havocFlags _
  unfold divideError
  extract_lets s1
  split
  · exact h.bumpDraws.flushed (interrupt_flushed _ _ _)
  · exact h.flushed (interrupt_flushed _ _ _)

theorem undefinedOpcode_flushed : Flushed s (undefinedOpcode s) := interrupt_flushed s _ _

theorem undefinedGroupForm_flushed : Flushed s (undefinedGroupForm s) := by
  unfold undefinedGroupForm
  split
  · exact ((Flow.refl s).setLastEa _).flushed (undefinedOpcode_flushed _)
  all_goals exact undefinedOpcode_flushed s

theorem returnFromInterrupt_flushed : Flushed s (returnFromInterrupt s) :=
  (((pop16_flow s).trans ((pop16_flow _).trans (pop16_flow _))).setFlags _).flushed (farTransfer_flushed _ _ _)

theorem callNear_flushed (t : Word) : Flushed s (callNear t s) := (push16_flow s s.ip).flushed (nearTransfer_flushed _ _)

theorem callFar_flushed (sv t : Word) : Flushed s (callFar sv t s) :=
  ((push16_flow s s.seg.cs).trans (push16_flow _ s.ip)).flushed (farTransfer_flushed _ _ _)

theorem retNear_flushed (k : Word) : Flushed s (retNear k s) :=
  ((pop16_flow s).setR16 .sp _).flushed (nearTransfer_flushed _ _)

theorem retFar_flushed (k : Word) : Flushed s (retFar k s) :=
  (((pop16_flow s).trans (pop16_flow _)).setR16 .sp _).flushed (farTransfer_flushed _ _ _)

theorem callEv_flushed (rm : RM16) : Flushed s (callNear (load16 rm s).1 (load16 rm s).2) :=
  (load16_flow s rm).flushed (callNear_flushed _ _)

theorem jmpEv_flushed (rm : RM16) : Flushed s (nearTransfer (load16 rm s).1 (load16 rm s).2) :=
  (load16_flow s rm).flushed (nearTransfer_flushed _ _)

theorem jmpFarPointer_flushed {p : Word × Word × State} (h : Flow s p.2.2) : Flushed s (jmpFarPointer p) :=
  h.flushed (farTransfer_flushed _ _ _)

theorem callFarPointer_flushed {p : Word × Word × State} (h : Flow s p.2.2) : Flushed s (callFarPointer p) :=
  h.flushed (callFar_flushed _ _ _)

theorem jumpIf_flows (c : Bool) (d : Byte) : FlowOrFlush s (jumpIf c d s) := by
  cases c
  · exact .inl (.refl s)
  · exact .inr (nearTransfer_flushed s _)

theorem loopIf_flows (c : Bool) (d : Byte) : FlowOrFlush s (loopIf c d s) := by
  have h : Flow s (s.setR16 .cx (s.r16 .cx - 1)) := (Flow.refl s).setR16 _ _
  exact (jumpIf_flows _ _ d).imp h.trans h.flushed

theorem into_flows : FlowOrFlush s (if flagOF s.flags then interrupt 4 s.ip s else s) := by
  split
  · exact .inr (interrupt_flushed s _ _)
  · exact .inl (.refl s)

theorem waitOp_flows : FlowOrFlush s (waitOp s) := by
  unfold waitOp
  split
  · exact .inl ((Flow.refl s).setLife _)
  · split
    · exact .inr ((nearTransfer_flushed s _).setLife _)
    · exact .inl (((Flow.refl s).setDec _).setLife _)

end Control

/-! ### The other operations -/

section Operations
variable (s : State)

/-! Arithmetic. -/

theorem asciiAdjust_flow (sub : Bool) : Flow s (asciiAdjust sub s) :=
  ((((Flow.refl s).setR8 .al _).setR8 .ah _).setFlags _).havocFlags _

theorem decimalAdjust_flow (sub : Bool) : Flow s (decimalAdjust sub s) :=
  ((((Flow.refl s).setR8 .al _).setFlags _).bumpDraws).havocFlags _

theorem freeIfRep_flow (w : Word) : Flow s (freeIfRep w s).2 := by
  unfold freeIfRep
  split
  · exact (Flow.refl s).bumpDraws
  · exact .refl s

theorem Flow.mulFlags {s t : State} (h : Flow s t) (b : Bool) : Flow s (mulFlags b t) := (h.setFlags _).havocFlags _

theorem mul8_flow (signed : Bool) (rm : RM8) : Flow s (mul8 signed rm s) :=
  (((load8_flow s rm).trans (freeIfRep_flow _ _)).setR16 .ax _).mulFlags _

theorem mul16_flow (signed : Bool) (rm : RM16) : Flow s (mul16 signed rm s) :=
  ((((load16_flow s rm).trans ((freeIfRep_flow _ _).trans (freeIfRep_flow _ _))).setR16 .dx _).setR16 .ax _).mulFlags _

theorem mulW_flow (signed : Bool) (rm : RMW) :
    Flow s (match rm with | .byte rm => mul8 signed rm s | .word rm => mul16 signed rm s) := by
  cases rm with
  | byte rm => exact mul8_flow s signed rm
  | word rm => exact mul16_flow s signed rm

theorem divDone8_flow (q r : Byte) : Flow s (divDone8 q r s) := ((freeIfRep_flow s _).setR16 .ax _).havocFlags _

theorem divDone16_flow (q r : Word) : Flow s (divDone16 q r s) :=
  ((((freeIfRep_flow s q).trans (freeIfRep_flow _ r)).setR16 .ax _).setR16 .dx _).havocFlags _

theorem minQuotientTraps_flow : Flow s (minQuotientTraps s).2 := by
  unfold minQuotientTraps
  split
  · exact (Flow.refl s).bumpDraws
  · exact .refl s

theorem div8_flows (rm : RM8) : FlowOrFlush s (div8 rm s) := by
  have h := load8_flow s rm
  unfold div8
  extract_lets d n
  split
  · exact .inr (h.flushed (divideError_flushed _))
  · exact .inl (h.trans (divDone8_flow _ _ _))

theorem div16_flows (rm : RM16) : FlowOrFlush s (div16 rm s) := by
  have h := load16_flow s rm
  unfold div16
  extract_lets d n
  split
  · exact .inr (h.flushed (divideError_flushed _))
  · exact .inl (h.trans (divDone16_flow _ _ _))

theorem idiv8_flows (rm : RM8) : FlowOrFlush s (idiv8 rm s) := by
  have h := (load8_flow s rm).trans (minQuotientTraps_flow _)
  unfold idiv8
  extract_lets d n q r traps
  split
  · exact .inr (h.flushed (divideError_flushed _))
  · exact .inl (h.trans (divDone8_flow _ _ _))

theorem idiv16_flows (rm : RM16) : FlowOrFlush s (idiv16 rm s) := by
  have h := (load16_flow s rm).trans (minQuotientTraps_flow _)
  unfold idiv16
  extract_lets d n q r traps
  split
  · exact .inr (h.flushed (divideError_flushed _))
  · exact .inl (h.trans (divDone16_flow _ _ _))

theorem divW_flows (rm : RMW) : FlowOrFlush s (match rm with | .byte rm => div8 rm s | .word rm => div16 rm s) := by
  cases rm with
  | byte rm => exact div8_flows s rm
  | word rm => exact div16_flows s rm

theorem idivW_flows (rm : RMW) : FlowOrFlush s (match rm with | .byte rm => idiv8 rm s | .word rm => idiv16 rm s) := by
  cases rm with
  | byte rm => exact idiv8_flows s rm
  | word rm => exact idiv16_flows s rm

theorem aaBase_flow (imm : Byte) : Flow s (aaBase imm s).2 := by
  unfold aaBase
  split
  · exact (Flow.refl s).bumpDraws
  · exact .refl s

theorem aamOp_flows (imm : Byte) : FlowOrFlush s (aamOp imm s) := by
  have h := aaBase_flow s imm
  unfold aamOp
  extract_lets b al s1
  split
  · exact .inr (h.flushed (divideError_flushed _))
  · exact .inl ((((h.setR8 .ah _).setR8 .al _).setFlags _).havocFlags _)

theorem aadOp_flow (imm : Byte) : Flow s (aadOp imm s) :=
  ((((aaBase_flow s imm).setR8 .al _).setR8 .ah _).setFlags _).havocFlags _

/-! Data transfer. -/

theorem pushReg_flow (r : Reg16) : Flow s (pushReg r s) := by
  have h : Flow s (s.setR16 .sp (s.r16 .sp - 2)) := (Flow.refl s).setR16 _ _
  unfold pushReg
  extract_lets s1
  split
  · exact h.bumpDraws.trans (writeWord_flow _ _ _ _ _)
  · exact h.trans (writeWord_flow _ _ _ _ _)

theorem pushRM_flow (rm : RM16) : Flow s (pushRM rm s) := by
  unfold pushRM
  split
  · exact (Flow.refl s).bumpDraws.trans (push16_flow _ _)
  · exact (load16_flow s rm).trans (push16_flow _ _)

theorem popReg_flow (r : Reg16) : Flow s (popReg r s) := (pop16_flow s).setR16 r _

theorem popRM_flow (rm : RM16) : Flow s (popRM rm s) :=
  (resolve16_flow s rm).trans ((pop16_flow _).trans (writePlace16_flow _ _ _))

theorem xchg8_flow (rm : RM8) (r : Reg8) : Flow s (xchg8 rm r s) :=
  ((load8_flow s rm).trans (writePlace8_flow _ _ _)).setR8 r _

theorem xchg16_flow (rm : RM16) (r : Reg16) : Flow s (xchg16 rm r s) :=
  ((load16_flow s rm).trans (writePlace16_flow _ _ _)).setR16 r _

theorem xchgAx_flow (r : Reg16) : Flow s (xchgAx r s) := ((Flow.refl s).setR16 .ax _).setR16 r _

theorem movFromMoffs8_flow (o : Word) : Flow s (movFromMoffs8 o s) :=
  (((Flow.refl s).setLastEa o).trans (readByte_flow _ _ _ o)).setR8 .al _

theorem movFromMoffs16_flow (o : Word) : Flow s (movFromMoffs16 o s) :=
  (((Flow.refl s).setLastEa o).trans (readWord_flow _ _ _ o)).setR16 .ax _

theorem movToMoffs8_flow (o : Word) : Flow s (movToMoffs8 o s) :=
  ((Flow.refl s).setLastEa o).trans (writeByte_flow _ _ _ _ _)

theorem movToMoffs16_flow (o : Word) : Flow s (movToMoffs16 o s) :=
  ((Flow.refl s).setLastEa o).trans (writeWord_flow _ _ _ _ _)

theorem inByte_flow (port : Word) : Flow s (inByte port s) := (ioReadByte_flow s port).setR8 .al _
theorem inWord_flow (port : Word) : Flow s (inWord port s) := (ioReadWord_flow s port).setR16 .ax _

theorem xlatOp_flow : Flow s (xlatOp s) :=
  (((Flow.refl s).setLastEa _).trans (readByte_flow _ _ _ _)).setR8 .al _

theorem leaOp_flow (r : Reg16) (m : Mem) : Flow s (leaOp r m s) := ((Flow.refl s).setLastEa _).setR16 r _

theorem popfOp_flow : Flow s (popfOp s) := (pop16_flow s).setFlags _

theorem escOp_flow (rm : RM16) : Flow s (escOp rm s) := by
  cases rm with
  | reg r => exact .refl s
  | mem m => exact load16_flow s _

theorem prefixRead_flow (d : DecodeState) : Flow s (prefixRead d s) := ((Flow.refl s).setDec _).setLife _

/-! Strings. -/

theorem Flow.moveSi {s t : State} (h : Flow s t) (n : Word) : Flow s (moveSi n t) := h.setR16 .si _
theorem Flow.moveDi {s t : State} (h : Flow s t) (n : Word) : Flow s (moveDi n t) := h.setR16 .di _

theorem readSrc8_flow : Flow s (readSrc8 s).2 := readByte_flow s _ _ _
theorem readSrc16_flow : Flow s (readSrc16 s).2 := readWord_flow s _ _ _
theorem readDst8_flow : Flow s (readDst8 s).2 := readByte_flow s _ _ _
theorem readDst16_flow : Flow s (readDst16 s).2 := readWord_flow s _ _ _
theorem writeDst8_flow (v : Byte) : Flow s (writeDst8 v s) := writeByte_flow s _ _ _ v
theorem writeDst16_flow (v : Word) : Flow s (writeDst16 v s) := writeWord_flow s _ _ _ v

theorem movsElem8_flow : Flow s (movsElem8 s) := (((readSrc8_flow s).trans (writeDst8_flow _ _)).moveSi 1).moveDi 1
theorem movsElem16_flow : Flow s (movsElem16 s) := (((readSrc16_flow s).trans (writeDst16_flow _ _)).moveSi 2).moveDi 2
theorem cmpsElem8_flow : Flow s (cmpsElem8 s) :=
  ((((readSrc8_flow s).trans (readDst8_flow _)).setFlags _).moveSi 1).moveDi 1
theorem cmpsElem16_flow : Flow s (cmpsElem16 s) :=
  ((((readSrc16_flow s).trans (readDst16_flow _)).setFlags _).moveSi 2).moveDi 2
theorem scasElem8_flow : Flow s (scasElem8 s) := ((readDst8_flow s).setFlags _).moveDi 1
theorem scasElem16_flow : Flow s (scasElem16 s) := ((readDst16_flow s).setFlags _).moveDi 2
theorem lodsElem8_flow : Flow s (lodsElem8 s) := ((readSrc8_flow s).setR8 .al _).moveSi 1
theorem lodsElem16_flow : Flow s (lodsElem16 s) := ((readSrc16_flow s).setR16 .ax _).moveSi 2
theorem stosElem8_flow : Flow s (stosElem8 s) := (writeDst8_flow s _).moveDi 1
theorem stosElem16_flow : Flow s (stosElem16 s) := (writeDst16_flow s _).moveDi 2
theorem insElem8_flow : Flow s (insElem8 s) := ((ioReadByte_flow s _).trans (writeDst8_flow _ _)).moveDi 1
theorem insElem16_flow : Flow s (insElem16 s) := ((ioReadWord_flow s _).trans (writeDst16_flow _ _)).moveDi 2
theorem outsElem8_flow : Flow s (outsElem8 s) := ((readSrc8_flow s).trans (ioWriteByte_flow _ _ _)).moveSi 1
theorem outsElem16_flow : Flow s (outsElem16 s) := ((readSrc16_flow s).trans (ioWriteWord_flow _ _ _)).moveSi 2

theorem Flow.endString {s t : State} (h : Flow s t) : Flow s (endString t) := (h.setDec _).setLife _

theorem resumesAtLastPrefix_flow : Flow s (resumesAtLastPrefix s).2 := by
  unfold resumesAtLastPrefix
  split
  · exact (Flow.refl s).bumpDraws
  · exact .refl s

theorem interruptString_flushed : Flushed s (interruptString s) :=
  (((resumesAtLastPrefix_flow s).flushed (nearTransfer_flushed _ _)).setDec _).setLife _

theorem afterElement_flows (i : Instr) (tests : Bool) (k : RepKind) : FlowOrFlush s (afterElement i tests k s) := by
  unfold afterElement
  split
  · exact .inl (Flow.refl s).endString
  · split
    · exact .inl (Flow.refl s).endString
    · split
      · exact .inr (interruptString_flushed s)
      · exact .inl (((Flow.refl s).setDec _).setLife _)

/-- A string instruction ends, goes on, or is interrupted, whatever its element does to the registers and memory. -/
theorem stringOp_flows (i : Instr) (tests : Bool) {elem : State → State} (h : ∀ u, Flow u (elem u)) :
    FlowOrFlush s (stringOp i tests elem s) := by
  unfold stringOp
  split
  · exact .inl (h s).endString
  · split
    · exact .inl (Flow.refl s).endString
    · have hs := (h s).setR16 .cx ((elem s).r16 .cx - 1)
      exact (afterElement_flows _ i tests _).imp hs.trans hs.flushed

/-! The V20/V30 additions. -/

theorem pushaOp_flow : Flow s (pushaOp s) :=
  (push16_flow s _).trans ((push16_flow _ _).trans ((push16_flow _ _).trans ((push16_flow _ _).trans
    ((push16_flow _ _).trans ((push16_flow _ _).trans ((push16_flow _ _).trans (push16_flow _ _)))))))

/-- POPA pops into each register but SP, whose word is discarded (47_v20_v30_extensions.md R586). -/
theorem popaOp_eq : popaOp s =
    popReg .ax (popReg .cx (popReg .dx (popReg .bx (pop16 (popReg .bp (popReg .si (popReg .di s)))).2))) := rfl

theorem popaOp_flow : Flow s (popaOp s) := by
  rw [popaOp_eq]
  exact (popReg_flow _ _).trans ((popReg_flow _ _).trans ((popReg_flow _ _).trans ((pop16_flow _).trans
    ((popReg_flow _ _).trans ((popReg_flow _ _).trans ((popReg_flow _ _).trans (popReg_flow _ _)))))))

theorem boundOp_flows (r : Reg16) (m : Mem) : FlowOrFlush s (boundOp r m s) := by
  unfold boundOp
  extract_lets p v
  split
  · exact .inr ((loadFar_flow s m).flushed (interrupt_flushed _ _ _))
  · exact .inl (loadFar_flow s m)

theorem enterCopies_flow (n : Nat) : Flow s (enterCopies n s) := by
  induction n generalizing s with
  | zero => exact .refl s
  | succ n ih =>
    exact ((Flow.refl s).setR16 .bp _).trans ((readWord_flow _ _ _ _).trans ((push16_flow _ _).trans (ih _)))

theorem enterOp_flow (size : Word) (level : Byte) : Flow s (enterOp size level s) := by
  have h (n : Nat) : Flow s (enterCopies n (push16 (s.r16 .bp) s)) := (push16_flow s _).trans (enterCopies_flow _ n)
  unfold enterOp
  extract_lets n s1 frame s2 s3 s4
  refine Flow.setR16 (Flow.setR16 ?_ _ _) _ _
  unfold s3
  split
  · exact (h _).trans (push16_flow _ _)
  · exact h _

theorem leaveOp_flow : Flow s (leaveOp s) := (((Flow.refl s).setR16 .sp _).trans (pop16_flow _)).setR16 .bp _

theorem bcdLoop_flow (op : BcdOp) (odd : Bool) (n : Nat) (k : Word) (c z : Bool) : Flow s (bcdLoop op odd n k c z s).2.2 := by
  induction n generalizing s k c z with
  | zero => exact .refl s
  | succ n ih =>
    unfold bcdLoop
    extract_lets a d free fc r s1 s2
    have h1 : Flow s s1 := ((readByte_flow s _ _ _).trans (readByte_flow _ _ _ _)).bumpDraws
    have h2 : Flow s1 s2 := by
      unfold s2
      cases op with
      | cmp => exact .refl s1
      | _ => exact writeByte_flow s1 _ _ _ _
    exact (h1.trans h2).trans (ih _ _ _ _)

theorem bcdString_flow (op : BcdOp) : Flow s (bcdString op s) := ((bcdLoop_flow s op _ _ _ _ _).setFlags _).havocFlags _

end Operations

end Sys2Proof.Machine

namespace Sys2Proof.Machine
open Sys2Proof Host

/-! ### Immediates that are read after the operand leave the queue (log 47) -/

/-- PC is ahead of IP by the bytes in the queue (21_prefetch_queue.md R112). -/
def Ahead (s : State) : Prop := s.pc = s.ip + BitVec.ofNat 16 s.queue.length

/-- The queue has taken bytes at its end, which PC has passed, and given `k` at its head. -/
def Dropped (k : Nat) (s t : State) : Prop :=
  ∃ l, k ≤ (s.queue ++ l).length ∧ t.queue = (s.queue ++ l).drop k ∧ t.pc = s.pc + BitVec.ofNat 16 l.length

theorem Grown.dropped {s t : State} : Grown s t → Dropped 0 s t
  | ⟨l, hq, hp⟩ => ⟨l, Nat.zero_le _, hq, hp⟩

theorem Dropped.trans {j k : Nat} {s t u : State} : Dropped j s t → Dropped k t u → Dropped (j + k) s u
  | ⟨l, hj, hq, hp⟩, ⟨m, hk, gq, gp⟩ => by
    rw [hq, ← List.drop_append_of_le_length hj, List.append_assoc] at hk gq
    rw [List.length_drop] at hk
    rw [List.length_append] at hj
    refine ⟨l ++ m, ?_, ?_, ?_⟩
    · rw [List.length_append, List.length_append] at hk ⊢
      omega
    · rw [gq, List.drop_drop]
    · rw [gp, hp, List.length_append, BitVec.ofNat_add, BitVec.add_assoc]

theorem Grown.ahead {s t : State} (h : Grown s t) (hip : t.ip = s.ip) (ha : Ahead s) : Ahead t := by
  obtain ⟨l, hq, hp⟩ := h
  rw [Ahead, hp, hip, hq, ha, List.length_append, BitVec.ofNat_add, BitVec.add_assoc]

theorem Flow.grown {s t : State} : Flow s t → Grown s t
  | ⟨l, _, h, _⟩ => ⟨l, h.queue, h.pc⟩

section Take
variable (s : State)

/-- The wait for a byte leaves one in the queue, and only adds to it. -/
theorem await_grown (h : Ahead s) : Grown s s.await ∧ s.await.queue ≠ [] := by
  have hc := completeFetch_grown s
  unfold State.await
  split
  · next e => exact ⟨.of_eq rfl rfl, by rw [e]; simp⟩
  · dsimp only
    split
    · next e => exact ⟨hc, by rw [e]; simp⟩
    · next e =>
      have hpc : s.completeFetch.pc = s.completeFetch.ip := by
        rw [hc.ahead (completeFetch_ip s) h, e]
        exact BitVec.add_zero _
      have hr : Grown s ((s.completeFetch.setFetch s.completeFetch.biu.fetchState.resumed).setPc s.completeFetch.ip) :=
        hc.trans (.of_eq rfl hpc.symm)
      generalize (s.completeFetch.setFetch s.completeFetch.biu.fetchState.resumed).setPc s.completeFetch.ip = u at *
      refine ⟨hr.trans (fetchNow_grown u _), fun e => ?_⟩
      have hl := congrArg List.length (List.append_eq_nil_iff.mp e).2
      rw [busBytes_length] at hl
      split at hl <;> contradiction

/-- `QueueByte()` takes the byte at the head, and IP passes it (21_prefetch_queue.md R115, R116). -/
theorem takeByte_dropped (h : Ahead s) : Dropped 1 s (takeByte s) ∧ Ahead (takeByte s) := by
  obtain ⟨hg, hne⟩ := await_grown s h
  have ha := hg.ahead (await_ip s) h
  obtain ⟨b, q, e⟩ := List.exists_cons_of_ne_nil hne
  obtain ⟨l, hq, hp⟩ := hg
  constructor
  · exact ⟨l, by rw [← hq, e]; exact Nat.le_add_left _ _, by rw [← hq, List.drop_one]; rfl, hp⟩
  · show s.await.pc = s.await.ip + 1 + BitVec.ofNat 16 s.await.queue.tail.length
    rw [ha, e, List.tail_cons, List.length_cons, Nat.add_comm, BitVec.ofNat_add, ← BitVec.add_assoc]
    rfl

theorem takeBytes_dropped (k : Nat) (h : Ahead s) : Dropped k s (takeBytes k s) := by
  induction k generalizing s with
  | zero => exact Grown.dropped (.of_eq rfl rfl)
  | succ k ih =>
    obtain ⟨hd, ha⟩ := takeByte_dropped s h
    have h := hd.trans (ih _ ha)
    rwa [Nat.add_comm] at h

end Take

/-- What an instruction does that reads `k` bytes of an immediate after its operand. -/
structure Late (k : Nat) (s t : State) : Prop where
  frame : t.frame = s.frame
  stale : t.stale = s.stale
  dropped : Ahead s → Dropped k s t

theorem Flow.stale {s t : State} : Flow s t → t.stale = s.stale
  | ⟨_, _, h, _⟩ => h.stale

/-- The operand is loaded, the immediate is read, and the rest follows. -/
theorem late_of_load {k : Nat} {s u t : State} (h : Flow s u) (hip : u.ip = s.ip) (g : Flow (takeBytes k u) t) : Late k s t where
  frame := (g.frame.trans (frame_of_system (takeBytes_taken u k).system)).trans h.frame
  stale := (g.stale.trans (takeBytes_taken u k).stale).trans h.stale
  dropped ha := by
    have hd := h.grown.dropped.trans (takeBytes_dropped u k (h.grown.ahead hip ha))
    rw [Nat.zero_add] at hd
    exact hd.trans g.grown.dropped

section Late
variable (k : Nat) (s : State)

theorem modify8_isLate (rm : RM8) (f : Byte → State → Option Byte × Word) : Late k s (modify8 k rm f s) :=
  late_of_load (load8_flow s rm) (load8_ip s rm) (modify8_after s k rm f)

theorem modify16_isLate (rm : RM16) (f : Word → State → Option Word × Word) : Late k s (modify16 k rm f s) :=
  late_of_load (load16_flow s rm) (load16_ip s rm) (modify16_after s k rm f)

theorem modifyW_isLate (rm : RMW) (f8 : Byte → State → Option Byte × Word) (f16 : Word → State → Option Word × Word) :
    Late k s (modifyW k rm f8 f16 s) := by
  cases rm with
  | byte rm => exact modify8_isLate k s rm f8
  | word rm => exact modify16_isLate k s rm f16

theorem imulImm_isLate (r : Reg16) (rm : RM16) (imm : Word) : Late k s (imulImm k r rm imm s) :=
  late_of_load (load16_flow s rm) (load16_ip s rm) (((Flow.refl (takeBytes k (load16 rm s).2)).setR16 r _).mulFlags _)

end Late

/-! ### Loads of CS, and HLT -/

section Special
variable (s : State)

/-- CS written without a flush: code may still come from the segment it had, and the inhibit is set (R553, log 46). -/
def loadedCs (v : Word) (s : State) : State := ((s.setStale (s.seg.cs :: s.stale)).setSreg .cs v).setInhibit true

/-- A load of CS reads its word, the prefetcher may fill, and CS is written. -/
def LoadsCs (s t : State) : Prop := ∃ l es u v, Moved l es s u ∧ u.seg.cs = s.seg.cs ∧ t = loadedCs v u

theorem loadCs_loads {u : State} {v : Word} (h : Flow s u) (hs : u.seg = s.seg) : LoadsCs s (loadCs v u) := by
  obtain ⟨l, es, hm, -⟩ := h
  obtain ⟨k, hk⟩ := prefetch_moved u
  exact ⟨_, _, u.prefetch, v, hm.trans hk, by rw [prefetch_seg, hs], rfl⟩

theorem movToCs_loads (rm : RM16) : LoadsCs s (movToCs rm s) := loadCs_loads s (load16_flow s rm) (load16_seg s rm)

theorem popCsOp_loads : LoadsCs s (popCsOp s) := loadCs_loads s (pop16_flow s) (pop16_seg s)

/-- A code fetch that will bring nothing to the queue ends without a byte (22_biu_tstate_engine.md R154). -/
theorem completeCycle_still (h : s.biu.inFlight = 0) (ht : s.biu.fetchInT1 = false) :
    s.completeCycle.queue = s.queue ∧ s.completeCycle.fills = s.fills ∧ s.completeCycle.biu.fetchInT1 = false := by
  unfold State.completeCycle
  split
  · exact ⟨rfl, rfl, ht⟩
  · next c hc =>
    split
    · next hb =>
      have hd : c.discard = true := by
        by_contra hn
        have e : s.biu.inFlight = if c.wide then 2 else 1 := by
          rw [Biu.inFlight, hc]
          exact if_pos ⟨hb, Bool.eq_false_iff.mpr hn⟩
        rw [h] at e
        split at e <;> contradiction
      have he (w : Word) (u : State) : u.endFetch c w = u.setBiu u.biu.endFetch := by rw [State.endFetch, hd]; rfl
      split
      · rw [he]; exact ⟨rfl, rfl, rfl⟩
      · rw [he]; exact ⟨rfl, rfl, rfl⟩
    · exact ⟨rfl, rfl, ht⟩

theorem completeFetch_still (h : s.biu.inFlight = 0) (ht : s.biu.fetchInT1 = false) :
    s.completeFetch.queue = s.queue ∧ s.completeFetch.fills = s.fills := by
  obtain ⟨hq, hf, hc⟩ := completeCycle_still s h ht
  unfold State.completeFetch
  dsimp only
  rw [hc]
  exact ⟨hq, hf⟩

theorem fetchInT1_eq_false {b : Biu} : b.fetchInT1 = false ↔ b.tState ≠ .t1 ∨ b.prep ≠ .fetch := by
  rw [Bool.eq_false_iff, Ne, fetchInT1_iff]
  exact not_and_or

theorem completeFetch_moved : ∃ l, Moved l [] s s.completeFetch := by
  obtain ⟨l, hq, hp⟩ := completeFetch_grown s
  have h := completeFetch_fetched s
  refine ⟨l, frame_of_system h.system, h.stale, h.nextIsFirst, hq, hp, h.demands, fun ⟨hf, hi, ht⟩ _ => ?_⟩
  obtain ⟨e, ef⟩ := completeFetch_still s hi (fetchInT1_eq_false.mpr ht)
  exact ⟨by simpa [e] using hq, ef.trans hf, completeFetch_inFlight s, fetchInT1_eq_false.mp (completeFetch_fetchInT1 s)⟩

/-- What HLT leaves, once the code fetches have come to their end (R527). -/
def haltedAt (s : State) : State :=
  (s.setHalted true).setBiu { s.biu.dropPrepared with fetchState := .halted, pending := some (s.biu.pending.getD haltRequest) }

theorem hltOp_halts : ∃ l u, Moved l [.halt] s u ∧ hltOp s = haltedAt u := by
  obtain ⟨l, hl⟩ := prefetch_moved s
  obtain ⟨k, hk⟩ := completeFetch_moved s.prefetch
  exact ⟨_, _, (hl.trans hk).trans (logBus_moved _ rfl), rfl⟩

theorem haltedAt_frame : (haltedAt s).frame = { s.frame with
    halted := true, latches := { s.biu.latches with pending := some (s.biu.pending.getD haltRequest) } } := by
  have h : { s.biu.dropPrepared.latches with pending := some (s.biu.pending.getD haltRequest) } =
      { s.biu.latches with pending := some (s.biu.pending.getD haltRequest) } := by rw [dropPrepared_latches]
  exact congrArg (fun b => { s.frame with halted := true, latches := b }) h

end Special

end Sys2Proof.Machine

namespace Sys2Proof.Machine
open Sys2Proof Host

/-! ### What every instruction does -/

/-- The instructions that load no CS without a flush, set no inhibit, do not halt and do not assert LOCK. -/
structure Quiet (i : Instr) : Prop where
  cs : loadsCs i = false
  inhibit : setsInhibit i = false
  hlt : i ≠ .hlt
  lock : i ≠ .lock
  lockF1 : i ≠ .lockF1

/-- What an instruction that completes has done to the queue and to the rest of the machine. -/
inductive Done (i : Instr) (s : State) : State → Prop
  | flow {t : State} (q : Quiet i) (k : i.lateBytes = 0) (h : Flow s t) : Done i s t
  | flush {t : State} (q : Quiet i) (m : mayFlush i = true) (h : Flushed s t) : Done i s t
  | late {t : State} (q : Quiet i) (k : i.lateBytes ≠ 0) (h : Late i.lateBytes s t) : Done i s t
  | inhibit {u : State} (k : i.lateBytes = 0) (c : loadsCs i = false) (n : setsInhibit i = true)
      (hne : i ≠ .hlt ∧ i ≠ .lock ∧ i ≠ .lockF1) (h : Flow s u) : Done i s (u.setInhibit true)
  | loadCs {t : State} (k : i.lateBytes = 0) (c : loadsCs i = true) (n : setsInhibit i = true)
      (hne : i ≠ .hlt ∧ i ≠ .lock ∧ i ≠ .lockF1) (h : LoadsCs s t) : Done i s t
  | lock {u : State} (hi : i = .lock ∨ i = .lockF1) (h : Flow s u) : Done i s (u.setLock true)
  | halt (hi : i = .hlt) : Done i s (hltOp s)

theorem Done.flows {i : Instr} {s t : State} (q : Quiet i) (k : i.lateBytes = 0) (m : mayFlush i = true) (h : FlowOrFlush s t) :
    Done i s t :=
  h.elim (.flow q k) (.flush q m)

section Claims
variable {i : Instr} {s t : State}

/-- The system part but for what the sequencer records, as an instruction leaves it. -/
def frameAfter (i : Instr) (s : State) : System :=
  { s.frame with
    latches := if i = .hlt then { s.biu.latches with pending := some (s.biu.pending.getD haltRequest) } else s.biu.latches
    halted := if i = .hlt then true else s.halted
    lock := if i = .lock ∨ i = .lockF1 then true else s.lock
    inhibit := if setsInhibit i then true else s.inhibit }

theorem Quiet.frameAfter (q : Quiet i) : frameAfter i s = s.frame := by
  simp [Machine.frameAfter, State.frame, q.hlt, q.lock, q.lockF1, q.inhibit]

theorem frameAfter_inhibit (n : setsInhibit i = true) (h : i ≠ .hlt ∧ i ≠ .lock ∧ i ≠ .lockF1) :
    frameAfter i s = { s.frame with inhibit := true } := by
  obtain ⟨hh, hl, hf⟩ := h
  simp [frameAfter, State.frame, hh, hl, hf, n]

theorem frameAfter_lock (h : i = .lock ∨ i = .lockF1) : frameAfter i s = { s.frame with lock := true } := by
  rcases h with rfl | rfl <;> rfl

theorem pending_of_frame {u : State} (h : u.frame = s.frame) : u.biu.pending = s.biu.pending :=
  congrArg (fun f : System => f.latches.pending) h

theorem Done.frame (h : Done i s t) : t.frame = frameAfter i s := by
  cases h with
  | flow q k h => rw [q.frameAfter, h.frame]
  | flush q m h => rw [q.frameAfter, h.1]
  | late q k h => rw [q.frameAfter, h.frame]
  | inhibit k c n hne h =>
    rw [frameAfter_inhibit n hne, ← h.frame]
    rfl
  | loadCs k c n hne h =>
    obtain ⟨l, es, u, v, hm, -, rfl⟩ := h
    rw [frameAfter_inhibit n hne, ← hm.frame]
    rfl
  | lock hi h =>
    rw [frameAfter_lock hi, ← h.frame]
    rfl
  | halt hi =>
    obtain ⟨l, u, hm, e⟩ := hltOp_halts s
    have hl : u.biu.latches = s.biu.latches := congrArg System.latches hm.frame
    rw [e, haltedAt_frame, hl, pending_of_frame hm.frame, hm.frame, hi]
    rfl

/-- What an instruction that does not flush leaves in the queue. -/
def QueueKept (i : Instr) (s t : State) : Prop :=
  t.stale = (if loadsCs i then s.seg.cs :: s.stale else s.stale) ∧
  (i.lateBytes = 0 → t.nextIsFirst = s.nextIsFirst) ∧
  ∃ l, t.queue = (s.queue ++ l).drop i.lateBytes ∧ t.pc = s.pc + BitVec.ofNat 16 l.length ∧
    (i.lateBytes = 0 → loadsCs i = false → t.demands = s.demands → l = []) ∧
    (i.lateBytes = 0 → s.fills = [] → s.biu.inFlight = 0 → s.biu.tState ≠ .t1 ∨ s.biu.prep ≠ .fetch →
      t.demands.filter BusEvent.isMemWrite = s.demands.filter BusEvent.isMemWrite → l = [])

theorem no_writes_of_filter {es ds : List BusEvent}
    (h : (es ++ ds).filter BusEvent.isMemWrite = ds.filter BusEvent.isMemWrite) : ∀ e ∈ es, e.isMemWrite = false := by
  rw [List.filter_append] at h
  intro e he
  exact Bool.eq_false_iff.mpr (List.filter_eq_nil_iff.mp (List.append_left_eq_self.mp h) e he)

theorem Moved.queueKept {l : List Byte} {es : List BusEvent} {u : State} (h : Moved l es s u) (k : i.lateBytes = 0)
    (hc : loadsCs i = false → es = [] → l = []) (hst : t.stale = if loadsCs i then s.seg.cs :: s.stale else s.stale)
    (hf : t.nextIsFirst = u.nextIsFirst) (hq : t.queue = u.queue) (hp : t.pc = u.pc) (hd : t.demands = u.demands) :
    QueueKept i s t := by
  refine ⟨hst, fun _ => hf.trans h.first, l, ?_, hp.trans h.pc, fun _ c e => hc c ?_, fun _ hfi hin ht e => ?_⟩
  · rw [k, hq, h.queue]
    rfl
  · rw [hd, h.demands] at e
    exact List.append_left_eq_self.mp e
  · rw [hd, h.demands] at e
    exact (h.still ⟨hfi, hin, ht⟩ (no_writes_of_filter e)).1

theorem Flow.queueKept {u : State} (h : Flow s u) (k : i.lateBytes = 0) (c : loadsCs i = false) (hst : t.stale = u.stale)
    (hf : t.nextIsFirst = u.nextIsFirst) (hq : t.queue = u.queue) (hp : t.pc = u.pc) (hd : t.demands = u.demands) :
    QueueKept i s t := by
  obtain ⟨l, es, hm, hl⟩ := h
  exact hm.queueKept k (fun _ => hl) (by rw [hst, hm.stale, c]; rfl) hf hq hp hd

theorem Done.queue (h : Done i s t) (ha : i.lateBytes = 0 ∨ Ahead s) : (mayFlush i = true ∧ FetchesAt t.ip t) ∨ QueueKept i s t := by
  cases h with
  | flow q k h => exact .inr (h.queueKept k q.cs rfl rfl rfl rfl rfl)
  | flush q m h => exact .inl ⟨m, h.2⟩
  | late q k h =>
    obtain ⟨l, -, hq, hp⟩ := h.dropped (ha.resolve_left k)
    exact .inr ⟨by rw [h.stale, q.cs]; rfl, (absurd · k), l, hq, hp, (absurd · k), (absurd · k)⟩
  | inhibit k c n hne h => exact .inr (h.queueKept k c rfl rfl rfl rfl rfl)
  | loadCs k c n hne h =>
    obtain ⟨l, es, u, v, hm, hcs, rfl⟩ := h
    refine .inr (hm.queueKept k (fun hn => ?_) ?_ rfl rfl rfl rfl)
    · rw [c] at hn
      contradiction
    · rw [c, ← hcs, ← hm.stale]
      rfl
  | lock hi h =>
    have k : i.lateBytes = 0 ∧ loadsCs i = false := by rcases hi with rfl | rfl <;> exact ⟨rfl, rfl⟩
    exact .inr (h.queueKept k.1 k.2 rfl rfl rfl rfl rfl)
  | halt hi =>
    subst hi
    obtain ⟨l, u, hm, e⟩ := hltOp_halts s
    rw [e]
    exact .inr (hm.queueKept rfl (fun _ => nofun) hm.stale rfl rfl rfl rfl)

end Claims

end Sys2Proof.Machine

namespace Sys2Proof.Machine
open Sys2Proof Host

/-! ### Every instruction does one of these -/

section Completes
variable {i : Instr} {s t u : State} (he : exec i s = .next u)
include he

theorem Done.of_next (d : Done i s u) (h : exec i s = .next t) : Done i s t := by
  rw [he] at h
  cases h
  exact d

theorem Done.of_flow (f : Flow s u) (h : exec i s = .next t) (q : Quiet i := by exact ⟨rfl, rfl, nofun, nofun, nofun⟩)
    (k : i.lateBytes = 0 := by rfl) : Done i s t := .of_next he (.flow q k f) h

theorem Done.of_flows (f : FlowOrFlush s u) (h : exec i s = .next t) (q : Quiet i := by exact ⟨rfl, rfl, nofun, nofun, nofun⟩)
    (k : i.lateBytes = 0 := by rfl) (m : mayFlush i = true := by rfl) : Done i s t := .of_next he (.flows q k m f) h

theorem Done.of_flush (f : Flushed s u) (h : exec i s = .next t) (q : Quiet i := by exact ⟨rfl, rfl, nofun, nofun, nofun⟩)
    (m : mayFlush i = true := by rfl) : Done i s t := .of_next he (.flush q m f) h

theorem Done.of_late (f : Late i.lateBytes s u) (h : exec i s = .next t)
    (q : Quiet i := by exact ⟨rfl, rfl, nofun, nofun, nofun⟩) (k : i.lateBytes ≠ 0 := by exact nofun) : Done i s t :=
  .of_next he (.late q k f) h

theorem Done.of_loadCs (f : LoadsCs s u) (h : exec i s = .next t) (k : i.lateBytes = 0 := by rfl)
    (c : loadsCs i = true := by rfl) (n : setsInhibit i = true := by rfl)
    (hne : i ≠ .hlt ∧ i ≠ .lock ∧ i ≠ .lockF1 := by exact ⟨nofun, nofun, nofun⟩) : Done i s t :=
  .of_next he (.loadCs k c n hne f) h

end Completes

theorem Done.of_inhibit {i : Instr} {s t u : State} (he : exec i s = .next (u.setInhibit true)) (f : Flow s u)
    (h : exec i s = .next t) (k : i.lateBytes = 0 := by rfl) (c : loadsCs i = false := by rfl)
    (n : setsInhibit i = true := by rfl) (hne : i ≠ .hlt ∧ i ≠ .lock ∧ i ≠ .lockF1 := by exact ⟨nofun, nofun, nofun⟩) :
    Done i s t := .of_next he (.inhibit k c n hne f) h

theorem exec_done {i : Instr} {s t : State} (h : exec i s = .next t) : Done i s t := by
  cases i with
  | addEbGb | addAlIb | adcEbGb | adcAlIb | sbbEbGb | sbbAlIb | subEbGb | subAlIb | cmpEbGb | cmpAlIb | orEbGb | orAlIb
  | andEbGb | andAlIb | xorEbGb | xorAlIb | testEbGb | testAlIb =>
    exact .of_flow rfl (modify8_flow ..) h
  | addEvGv | addAxIv | adcEvGv | adcAxIv | sbbEvGv | sbbAxIv | subEvGv | subAxIv | cmpEvGv | cmpAxIv | incR16 | decR16
  | orEvGv | orAxIv | andEvGv | andAxIv | xorEvGv | xorAxIv | testEvGv | testAxIv =>
    exact .of_flow rfl (modify16_flow ..) h
  | addGbEb | adcGbEb | sbbGbEb | subGbEb | cmpGbEb | orGbEb | andGbEb | xorGbEb => exact .of_flow rfl (aluRegRm8_flow ..) h
  | addGvEv | adcGvEv | sbbGvEv | subGvEv | cmpGvEv | orGvEv | andGvEv | xorGvEv => exact .of_flow rfl (aluRegRm16_flow ..) h
  | daa | das => exact .of_flow rfl (decimalAdjust_flow ..) h
  | aaa | aas => exact .of_flow rfl (asciiAdjust_flow ..) h
  | addEbIb | adcEbIb | sbbEbIb | subEbIb | cmpEbIb | orEbIb | andEbIb | xorEbIb | testEbIb | addEbIb82 | orEbIb82
  | adcEbIb82 | sbbEbIb82 | andEbIb82 | subEbIb82 | xorEbIb82 | cmpEbIb82 | testEbIbReg1 =>
    exact .of_late rfl (modify8_isLate ..) h
  | addEvIv | adcEvIv | sbbEvIv | subEvIv | cmpEvIv | addEvIbs | adcEvIbs | sbbEvIbs | subEvIbs | cmpEvIbs | orEvIv
  | andEvIv | xorEvIv | orEvIbs | andEvIbs | xorEvIbs | testEvIv | testEvIvReg1 =>
    exact .of_late rfl (modify16_isLate ..) h
  | cbw | cwd | movR16Iv | leaMod3 => exact .of_flow rfl ((Flow.refl s).setR16 ..) h
  | aamIb => exact .of_flows rfl (aamOp_flows ..) h
  | aadIb => exact .of_flow rfl (aadOp_flow ..) h
  | negEbEv | incEbEv | decEbEv | rolEbEv | rorEbEv | rclEbEv | rcrEbEv | shlEbEv | shrEbEv | sarEbEv | notEbEv | setmo
  | setmoc =>
    exact .of_flow rfl (modifyW_flow ..) h
  | mulEbEv | imulEbEv => exact .of_flow rfl (mulW_flow ..) h
  | divEbEv => exact .of_flows rfl (divW_flows ..) h
  | idivEbEv => exact .of_flows rfl (idivW_flows ..) h
  | jo | jno | jb | jnb | jz | jnz | jbe | ja | js | jns | jp | jnp | jl | jge | jle | jg | jcxz | joDup60 | jnoDup61
  | jbDup62 | jnbDup63 | jzDup64 | jnzDup65 | jbeDup66 | jaDup67 | jsDup68 | jnsDup69 | jpDup6A | jnpDup6B | jlDup6C
  | jgeDup6D | jleDup6E | jgDup6F =>
    exact .of_flows rfl (jumpIf_flows ..) h
  | callAp => exact .of_flush rfl (callFar_flushed ..) h
  | retIw | ret | retIwC0 | retC1 => exact .of_flush rfl (retNear_flushed ..) h
  | retfIw | retf | retfIwC8 | retfC9 => exact .of_flush rfl (retFar_flushed ..) h
  | int3 | intIb => exact .of_flush rfl (interrupt_flushed ..) h
  | into => exact .of_flows rfl (into_flows s) h
  | iret => exact .of_flush rfl (returnFromInterrupt_flushed ..) h
  | loopnz | loopz | loop => exact .of_flows rfl (loopIf_flows ..) h
  | callJv => exact .of_flush rfl (callNear_flushed ..) h
  | jmpJv | jmpJb => exact .of_flush rfl (nearTransfer_flushed ..) h
  | jmpAp => exact .of_flush rfl (farTransfer_flushed ..) h
  | callEv => exact .of_flush rfl (callEv_flushed ..) h
  | callMpMod01 | callMpMod2 => exact .of_flush rfl (callFarPointer_flushed _ (loadFar_flow ..)) h
  | jmpEv => exact .of_flush rfl (jmpEv_flushed ..) h
  | jmpMpMod01 | jmpMpMod2 => exact .of_flush rfl (jmpFarPointer_flushed _ (loadFar_flow ..)) h
  | segEs | segCs | segSs | segDs | repne | rep | repnc | repc => exact .of_flow rfl (prefixRead_flow ..) h
  | wait => exact .of_flows rfl (waitOp_flows ..) h
  | esc => exact .of_flow rfl (escOp_flow ..) h
  | lock => exact .of_next rfl (.lock (.inl rfl) (prefixRead_flow ..)) h
  | lockF1 => exact .of_next rfl (.lock (.inr rfl) (prefixRead_flow ..)) h
  | hlt => exact .of_next rfl (.halt rfl) h
  | cmc | clc | stc | cli | cld | std | sahf => exact .of_flow rfl ((Flow.refl s).setFlags ..) h
  | sti => exact .of_inhibit rfl ((Flow.refl s).setFlags ..) h
  | movsb => exact .of_flows rfl (stringOp_flows _ _ _ movsElem8_flow) h
  | movsw => exact .of_flows rfl (stringOp_flows _ _ _ movsElem16_flow) h
  | cmpsb => exact .of_flows rfl (stringOp_flows _ _ _ cmpsElem8_flow) h
  | cmpsw => exact .of_flows rfl (stringOp_flows _ _ _ cmpsElem16_flow) h
  | stosb => exact .of_flows rfl (stringOp_flows _ _ _ stosElem8_flow) h
  | stosw => exact .of_flows rfl (stringOp_flows _ _ _ stosElem16_flow) h
  | lodsb => exact .of_flows rfl (stringOp_flows _ _ _ lodsElem8_flow) h
  | lodsw => exact .of_flows rfl (stringOp_flows _ _ _ lodsElem16_flow) h
  | scasb => exact .of_flows rfl (stringOp_flows _ _ _ scasElem8_flow) h
  | scasw => exact .of_flows rfl (stringOp_flows _ _ _ scasElem16_flow) h
  | ext0F | undef62Mod3 | undef63 | undef66 | undef67 | undefD6 | undefF1 | undef8DMod3 | undefC4Mod3 | undefC5Mod3
  | undefFfReg3 | undefFfReg5 =>
    exact .of_flush rfl (undefinedOpcode_flushed ..) h
  | pusha => exact .of_flow rfl (pushaOp_flow ..) h
  | popa => exact .of_flow rfl (popaOp_flow ..) h
  | boundMod01 | boundMod2 => exact .of_flows rfl (boundOp_flows ..) h
  | pushIv | pushIbs | pushEs | pushCs | pushSs | pushDs | pushf => exact .of_flow rfl (push16_flow ..) h
  | imulGvEvIv | imulGvEvIbs => exact .of_late rfl (imulImm_isLate ..) h
  | insb => exact .of_flows rfl (stringOp_flows _ _ _ insElem8_flow) h
  | insw => exact .of_flows rfl (stringOp_flows _ _ _ insElem16_flow) h
  | outsb => exact .of_flows rfl (stringOp_flows _ _ _ outsElem8_flow) h
  | outsw => exact .of_flows rfl (stringOp_flows _ _ _ outsElem16_flow) h
  | rolEbEvIb | rorEbEvIb | rclEbEvIb | rcrEbEvIb | shlEbEvIb | shrEbEvIb | sarEbEvIb => exact .of_late rfl (modifyW_isLate ..) h
  | undefC0Reg6 | undefD0Reg6 | undefFe2 | undefFe3 | undefFe4 | undefFe5 | undefFe6 | undefFe7 =>
    exact .of_flush rfl (undefinedGroupForm_flushed ..) h
  | enter => exact .of_flow rfl (enterOp_flow ..) h
  | leave => exact .of_flow rfl (leaveOp_flow ..) h
  | add4s | sub4s | cmp4s => exact .of_flow rfl (bcdString_flow ..) h
  | test1EbCl | test1EvCl | clr1EbCl | clr1EvCl | set1EbCl | set1EvCl | not1EbCl | not1EvCl | test1EbIb | test1EvIb
  | clr1EbIb | clr1EvIb | set1EbIb | set1EvIb | not1EbIb | not1EvIb | rol4 | ror4 | insFieldReg | insFieldImm | extFieldReg
  | extFieldImm | brkem | fe2 | fe3 | fe4 | fe5 | fe6 | fe7 =>
    exact nomatch h
  | popEs | popSs | popDs => exact .of_inhibit rfl ((pop16_flow s).setSreg ..) h
  | pushR16 => exact .of_flow rfl (pushReg_flow ..) h
  | popR16 => exact .of_flow rfl (popReg_flow ..) h
  | xchgEbGb => exact .of_flow rfl (xchg8_flow ..) h
  | xchgEvGv => exact .of_flow rfl (xchg16_flow ..) h
  | movEbGb | movEbIb | movEbIbReg1 | movEbIbReg2 | movEbIbReg3 | movEbIbReg4 | movEbIbReg5 | movEbIbReg6 | movEbIbReg7 =>
    exact .of_flow rfl (store8_flow ..) h
  | movEvGv | movEwSw | movEvIv | movEwSwHigh | movEvIvReg1 | movEvIvReg2 | movEvIvReg3 | movEvIvReg4 | movEvIvReg5
  | movEvIvReg6 | movEvIvReg7 =>
    exact .of_flow rfl (store16_flow ..) h
  | movGbEb => exact .of_flow rfl ((load8_flow ..).setR8 ..) h
  | movGvEv => exact .of_flow rfl ((load16_flow ..).setR16 ..) h
  | leaMod01 | leaMod2 => exact .of_flow rfl (leaOp_flow ..) h
  | movEsEw | movSsEw | movDsEw | movEsEw4 | movSsEw6 | movDsEw7 => exact .of_inhibit rfl ((load16_flow ..).setSreg ..) h
  | popEv | popEvReg1 | popEvReg2 | popEvReg3 | popEvReg4 | popEvReg5 | popEvReg6 | popEvReg7 =>
    exact .of_flow rfl (popRM_flow ..) h
  | nop => exact .of_flow rfl (Flow.refl s) h
  | xchgAxCx | xchgAxDx | xchgAxBx | xchgAxSp | xchgAxBp | xchgAxSi | xchgAxDi => exact .of_flow rfl (xchgAx_flow ..) h
  | popf => exact .of_flow rfl (popfOp_flow ..) h
  | lahf | movR8Ib | salc => exact .of_flow rfl ((Flow.refl s).setR8 ..) h
  | movAlOb => exact .of_flow rfl (movFromMoffs8_flow ..) h
  | movAxOv => exact .of_flow rfl (movFromMoffs16_flow ..) h
  | movObAl => exact .of_flow rfl (movToMoffs8_flow ..) h
  | movOvAx => exact .of_flow rfl (movToMoffs16_flow ..) h
  | lesMod01 | lesMod2 | ldsMod01 | ldsMod2 => exact .of_inhibit rfl (((loadFar_flow ..).setR16 ..).setSreg ..) h
  | xlat => exact .of_flow rfl (xlatOp_flow ..) h
  | inAlIb | inAlDx => exact .of_flow rfl (inByte_flow ..) h
  | inAxIb | inAxDx => exact .of_flow rfl (inWord_flow ..) h
  | outIbAl | outDxAl => exact .of_flow rfl (ioWriteByte_flow ..) h
  | outIbAx | outDxAx => exact .of_flow rfl (ioWriteWord_flow ..) h
  | pushEv | pushEvReg7 => exact .of_flow rfl (pushRM_flow ..) h
  | popCs => exact .of_loadCs rfl (popCsOp_loads s) h
  | movCsEw | movCsEw5 => exact .of_loadCs rfl (movToCs_loads ..) h
  | lesMod3 | ldsMod3 => exact .of_inhibit rfl (((loadFarLastEa_flow s).setR16 ..).setSreg ..) h
  | callMpMod3 => exact .of_flush rfl (callFarPointer_flushed _ (loadFarLastEa_flow s)) h
  | jmpMpMod3 => exact .of_flush rfl (jmpFarPointer_flushed _ (loadFarLastEa_flow s)) h

end Sys2Proof.Machine

namespace Sys2Proof.Machine
open Sys2Proof Host

/-! ### What no instruction touches, and the parameters -/

theorem whatInstructionsLeaveAlone : Claim.WhatInstructionsLeaveAlone := by
  intro i s t h
  have hf := (exec_done h).frame
  exact ⟨(congrArg System.pins hf :), (congrArg System.nmiLatch hf :), (congrArg System.dma hf :), (congrArg System.cycles hf :),
    (congrArg System.record hf :), (congrArg System.script hf :), (congrArg System.sequences hf :), (congrArg System.steps hf :),
    (congrArg System.cfg hf :), (congrArg System.latches hf :), (congrArg System.halted hf :), (congrArg System.lock hf :),
    (congrArg System.inhibit hf :)⟩

theorem whatInstructionsDoToTheQueue : Claim.WhatInstructionsDoToTheQueue := fun _ _ _ h => (exec_done h).queue

/-- Where the outcome is a state, its parameters are `c`. -/
def KeepsCfg (c : Cfg) (o : Outcome State Fault Refusal) : Prop := ∀ t, o = .next t → t.cfg = c

section Steps
variable (s : State)

theorem keepsCfg_next {c : Cfg} (h : s.cfg = c) : KeepsCfg c (.next s) := by
  intro t e
  cases e
  exact h

theorem exec_keepsCfg (i : Instr) : KeepsCfg s.cfg (exec i s) := fun _ h => congrArg System.cfg (exec_done h).frame

theorem finish_keepsCfg {c : Cfg} {more : State → Outcome State Fault Refusal} (hm : ∀ u, u.cfg = c → KeepsCfg c (more u))
    {o : Outcome State Fault Refusal} (h : KeepsCfg c o) : KeepsCfg c (finish more o) := by
  cases o with
  | next u =>
    have hu := h u rfl
    by_cases h1 : u.life = .checkInterrupts
    · rw [finish_boundary more h1]
      exact keepsCfg_next _ (checkInterrupts_cfg.trans hu)
    · by_cases h2 : u.life = .decodePrefix
      · rw [finish_prefix more h2]
        exact hm u hu
      · rw [finish_goesOn more h1 h2]
        exact keepsCfg_next u hu
  | fault f => exact fun _ e => nomatch e
  | refused r => exact fun _ e => nomatch e

theorem readyToExec_cfg (i : Instr) (n : Nat) : (readyToExec i n s).cfg = s.cfg := by
  have hf : (fetchState s).cfg = s.cfg := by
    unfold fetchState
    split <;> rfl
  exact (congrArg System.cfg (takeBytes_taken _ _).system).trans hf

theorem fetchExec_keepsCfg (n : Nat) : KeepsCfg s.cfg (fetchExec n s) := by
  induction n generalizing s with
  | zero => exact keepsCfg_next s rfl
  | succ n ih =>
    unfold fetchExec
    split
    · next i rest _ =>
      have h := exec_keepsCfg (readyToExec i (maxInstrBytes - rest.length) s) i
      rw [readyToExec_cfg] at h
      exact finish_keepsCfg (fun u hu => hu ▸ ih u) h
    · exact fun _ e => nomatch e

theorem beginStep_cfg : (beginStep s).cfg = s.cfg := (beginStep_fetched s).cfg

theorem runNext_keepsCfg : KeepsCfg s.cfg (runNext s) := by
  rw [← beginStep_cfg s]
  unfold runNext
  split
  · exact keepsCfg_next _ (beginStep_cfg s).symm
  · dsimp only
    split
    · next i _ _ =>
      exact finish_keepsCfg (fun u hu => keepsCfg_next u hu) (exec_keepsCfg ((beginStep s).setLife .checkInterrupts) i)
    · exact fetchExec_keepsCfg (beginStep s) prefixLimit

theorem haltCheck_cfg : (haltCheck s).cfg = s.cfg := by
  unfold haltCheck
  split
  · exact checkInterrupts_cfg
  · rfl

theorem euStep_keepsCfg : KeepsCfg s.cfg (euStep s) := by
  rw [← haltCheck_cfg s]
  unfold euStep
  dsimp only
  generalize haltCheck s = u
  split
  · next q rest _ => exact keepsCfg_next _ (congrArg System.cfg (sequenceStep_system u q rest))
  · split
    · exact keepsCfg_next u rfl
    · exact runNext_keepsCfg u

theorem runEvent_keepsCfg (e : Event) : KeepsCfg s.cfg (runEvent e s) := by
  cases e with
  | eu => exact euStep_keepsCfg s
  | intr l v => exact keepsCfg_next _ rfl
  | nmi l => exact keepsCfg_next _ rfl
  | test l => exact keepsCfg_next _ rfl
  | reset => exact keepsCfg_next _ rfl
  | device bs => exact keepsCfg_next _ rfl
  | tick a inp => exact keepsCfg_next _ (tick_cfg ..)

theorem step_keepsCfg : KeepsCfg s.cfg (step s) := by
  unfold step runStep
  split
  · exact euStep_keepsCfg s
  · next e rest _ => exact runEvent_keepsCfg (s.setScript rest) e

end Steps

theorem parametersAreFixed : Claim.ParametersAreFixed := fun s t h => step_keepsCfg s t h

/-- Settles O23: every instruction flows, flushes, reads late, sets the inhibit, loads CS, asserts LOCK or halts. -/
theorem whatStepsLeaveAlone : Obligations.WhatStepsLeaveAlone :=
  ⟨whatInstructionsLeaveAlone, whatInstructionsDoToTheQueue, parametersAreFixed⟩

end Sys2Proof.Machine

namespace Sys2Proof.Machine
open Sys2Proof Host

/-! ### The invariant under the updates of a meaning (10_state.md R32, R36, R70, R110) -/

section Setters
variable {s : State} (h : s.Inv)
include h

theorem State.Inv.setR16 (r : Reg16) (v : Word) : (s.setR16 r v).Inv := h.congr rfl rfl rfl rfl rfl rfl rfl
theorem State.Inv.setR8 (r : Reg8) (v : Byte) : (s.setR8 r v).Inv := h.congr rfl rfl rfl rfl rfl rfl rfl
theorem State.Inv.setSreg (r : SReg) (v : Word) : (s.setSreg r v).Inv := h.congr rfl rfl rfl rfl rfl rfl rfl
theorem State.Inv.setLastEa (v : Word) : (s.setLastEa v).Inv := h.congr rfl rfl rfl rfl rfl rfl rfl
theorem State.Inv.setEaOpr (v : Word) : (s.setEaOpr v).Inv := h.congr rfl rfl rfl rfl rfl rfl rfl
theorem State.Inv.setDec (d : DecodeState) : (s.setDec d).Inv := h.congr rfl rfl rfl rfl rfl rfl rfl
theorem State.Inv.setLife (l : Life) : (s.setLife l).Inv := h.congr rfl rfl rfl rfl rfl rfl rfl
theorem State.Inv.setInhibit (b : Bool) : (s.setInhibit b).Inv := h.congr rfl rfl rfl rfl rfl rfl rfl
theorem State.Inv.setLock (b : Bool) : (s.setLock b).Inv := h.congr rfl rfl rfl rfl rfl rfl rfl
theorem State.Inv.setHalted (b : Bool) : (s.setHalted b).Inv := h.congr rfl rfl rfl rfl rfl rfl rfl
theorem State.Inv.setStale (l : List Word) : (s.setStale l).Inv := h.congr rfl rfl rfl rfl rfl rfl rfl
theorem State.Inv.setScript (l : List Event) : (s.setScript l).Inv := h.congr rfl rfl rfl rfl rfl rfl rfl
theorem State.Inv.bumpDraws : s.bumpDraws.Inv := bumpDraws_inv s h

/-- A write under a mask that spares the reserved flags. -/
theorem State.Inv.setMasked (m b : Word) (hm : m &&& 0xF02A = 0 := by decide) : (s.setFlags (putFlags m b s.flags)).Inv :=
  setFlags_inv s h _ (flagsPinned_putFlags _ _ _ hm h.flags)

theorem State.Inv.havocFlags (m : Word) (hm : m &&& 0xF02A = 0 := by decide) : (s.havocFlags m).Inv := havocFlags_inv s h m hm

theorem State.Inv.setFlagBits (m : Word) (hm : m &&& 0xF02A = 0 := by decide) : (setFlagBits m s).Inv :=
  setFlags_inv s h _ (flagsPinned_or _ _ hm h.flags)

theorem State.Inv.clearFlagBits (m : Word) (hm : m &&& 0xF02A = 0 := by decide) : (clearFlagBits m s).Inv :=
  setFlags_inv s h _ (flagsPinned_and _ _ hm h.flags)

end Setters

/-! ### Operations that keep the reserved flags (10_state.md R36) -/

/-- An operation on an operand hands back flags with the reserved bits as they read. -/
def PinsFlags {α β : Type} (f : α → State → β × Word) : Prop :=
  ∀ a t, flagsPinned t.flags = true → flagsPinned (f a t).2 = true

section PinsFlags
variable {n : Nat}

theorem aluOut_pins (op : AluOp) (b : State → BitVec n) : PinsFlags fun a t => aluOut op a (b t) t :=
  fun _ _ h => flagsPinned_putFlags statusMask _ _ (by decide) h

theorem incDec_pins (dec : Bool) : PinsFlags (incDec (n := n) dec) := by
  intro a t h
  cases dec
  all_goals exact flagsPinned_putFlags incMask _ _ (by decide) h

theorem negOut_pins : PinsFlags (negOut (n := n)) := fun _ _ h => flagsPinned_putFlags statusMask _ _ (by decide) h

theorem notOut_pins : PinsFlags (notOut (n := n)) := fun _ _ h => h

theorem shiftWritten_spares (op : ShiftOp) (count : Nat) : shiftWritten op count &&& 0xF02A = 0 := by
  unfold shiftWritten
  cases op.isRotate <;> cases count == 1 <;> decide

theorem shiftOut_pins (op : ShiftOp) (count : State → Nat) : PinsFlags fun (a : BitVec n) t => shiftOut op (count t) a t := by
  intro a t h
  show flagsPinned (shiftOut op (count t) a t).2 = true
  unfold shiftOut
  split
  · exact h
  · exact flagsPinned_putFlags _ _ _ (shiftWritten_spares op _) h

theorem setmoOut_pins (count : State → Nat) : PinsFlags fun (_ : BitVec n) t => setmoOut (n := n) (count t) t := by
  intro _ t h
  show flagsPinned (setmoOut (n := n) (count t) t).2 = true
  unfold setmoOut
  split
  · exact h
  · exact flagsPinned_putFlags statusMask _ _ (by decide) h

end PinsFlags

/-! ### The operations of the instruction families keep the invariant -/

section Operations
variable {s : State} (h : s.Inv)
include h

/-! Operands. -/

theorem modify8_inv_of_pins (k : Nat) (rm : RM8) {f : Byte → State → Option Byte × Word} (hf : PinsFlags f) :
    (modify8 k rm f s).Inv :=
  modify8_inv s h k rm f (hf _ _ (loaded8_inv s h k rm).flags)

theorem modify16_inv_of_pins (k : Nat) (rm : RM16) {f : Word → State → Option Word × Word} (hf : PinsFlags f) :
    (modify16 k rm f s).Inv :=
  modify16_inv s h k rm f (hf _ _ (loaded16_inv s h k rm).flags)

theorem modifyW_inv (k : Nat) (rm : RMW) {f8 : Byte → State → Option Byte × Word} {f16 : Word → State → Option Word × Word}
    (h8 : PinsFlags f8) (h16 : PinsFlags f16) : (modifyW k rm f8 f16 s).Inv := by
  cases rm with
  | byte rm => exact modify8_inv_of_pins h k rm h8
  | word rm => exact modify16_inv_of_pins h k rm h16

theorem aluRegRm8_inv (op : AluOp) (r : Reg8) (rm : RM8) : (aluRegRm8 op r rm s).Inv :=
  modify8_inv_of_pins (load8_inv s h rm) 0 (.reg r) (aluOut_pins op fun _ => (load8 rm s).1)

theorem aluRegRm16_inv (op : AluOp) (r : Reg16) (rm : RM16) : (aluRegRm16 op r rm s).Inv :=
  modify16_inv_of_pins (load16_inv s h rm) 0 (.reg r) (aluOut_pins op fun _ => (load16 rm s).1)

theorem readFar_inv (r : SReg) (off : Word) : (readFar r off s).2.2.Inv :=
  readWord_inv _ ((readWord_inv s h (accessOf r) (s.sreg r) off).setEaOpr _) (accessOf r) (s.sreg r) (off + 2)

theorem loadFar_inv (m : Mem) : (loadFar m s).2.2.Inv := readFar_inv (h.setLastEa (eaOff m s)) (eaSeg m s) (eaOff m s)

theorem loadFarLastEa_inv : (loadFarLastEa s).2.2.Inv := readFar_inv h _ _

/-! Transfers of control. -/

theorem undefinedGroupForm_inv : (undefinedGroupForm s).Inv := by
  unfold undefinedGroupForm
  split
  · exact interrupt_inv _ (h.setLastEa _) _ _
  all_goals exact interrupt_inv s h _ _

theorem callNear_inv (t : Word) : (callNear t s).Inv := nearTransfer_inv _ (push16_inv s h _) t

theorem callFar_inv (sv t : Word) : (callFar sv t s).Inv := farTransfer_inv _ (push16_inv _ (push16_inv s h _) _) sv t

theorem retNear_inv (k : Word) : (retNear k s).Inv := nearTransfer_inv _ ((pop16_inv s h).setR16 .sp _) _

theorem retFar_inv (k : Word) : (retFar k s).Inv := farTransfer_inv _ ((pop16_inv _ (pop16_inv s h)).setR16 .sp _) _ _

theorem jumpIf_inv (c : Bool) (d : Byte) : (jumpIf c d s).Inv := by
  cases c
  · exact h
  · exact nearTransfer_inv s h _

theorem loopIf_inv (c : Bool) (d : Byte) : (loopIf c d s).Inv := jumpIf_inv (h.setR16 .cx (s.r16 .cx - 1)) _ d

theorem into_inv : (if flagOF s.flags then interrupt 4 s.ip s else s).Inv := by
  split
  · exact interrupt_inv s h _ _
  · exact h

theorem waitOp_inv : (waitOp s).Inv := by
  unfold waitOp
  split
  · exact h.setLife _
  · split
    · exact (nearTransfer_inv s h _).setLife _
    · exact (h.setDec _).setLife _

/-- A code fetch that HLT gives up in its address cycle owes nothing any more (45_processor_control.md R527). -/
theorem hltOp_inv : (hltOp s).Inv :=
  setBiu_inv _ (logBus_inv _ ((completeFetch_inv _ (prefetch_inv s h)).setHalted true) _) _ (dropPrepared_inFlight _)
    fun e => absurd e (dropPrepared_prep _)

theorem escOp_inv (rm : RM16) : (escOp rm s).Inv := by
  cases rm with
  | reg r => exact h
  | mem m => exact load16_inv s h _

theorem prefixRead_inv (d : DecodeState) : (prefixRead d s).Inv := (h.setDec _).setLife _

/-! Arithmetic. -/

theorem asciiAdjust_inv (sub : Bool) : (asciiAdjust sub s).Inv :=
  (((h.setR8 .al _).setR8 .ah _).setMasked (afMask ||| cfMask) _).havocFlags _

theorem decimalAdjust_inv (sub : Bool) : (decimalAdjust sub s).Inv :=
  (((h.setR8 .al _).setMasked (szpMask ||| afMask ||| cfMask) _).bumpDraws).havocFlags _

theorem freeIfRep_inv (w : Word) : (freeIfRep w s).2.Inv := by
  unfold freeIfRep
  split
  · exact h.bumpDraws
  · exact h

theorem mulFlags_inv (b : Bool) : (mulFlags b s).Inv := (h.setMasked (cfMask ||| ofMask) _).havocFlags _

theorem mul8_inv (signed : Bool) (rm : RM8) : (mul8 signed rm s).Inv :=
  mulFlags_inv ((freeIfRep_inv (load8_inv s h rm) _).setR16 .ax _) _

theorem mul16_inv (signed : Bool) (rm : RM16) : (mul16 signed rm s).Inv :=
  mulFlags_inv (((freeIfRep_inv (freeIfRep_inv (load16_inv s h rm) _) _).setR16 .dx _).setR16 .ax _) _

theorem imulImm_inv (k : Nat) (r : Reg16) (rm : RM16) (imm : Word) : (imulImm k r rm imm s).Inv :=
  mulFlags_inv ((takeBytes_inv _ (load16_inv s h rm) k).setR16 r _) _

theorem divDone8_inv (q r : Byte) : (divDone8 q r s).Inv := ((freeIfRep_inv h _).setR16 .ax _).havocFlags statusMask

theorem divDone16_inv (q r : Word) : (divDone16 q r s).Inv :=
  (((freeIfRep_inv (freeIfRep_inv h q) r).setR16 .ax _).setR16 .dx _).havocFlags statusMask

theorem minQuotientTraps_inv : (minQuotientTraps s).2.Inv := by
  unfold minQuotientTraps
  split
  · exact h.bumpDraws
  · exact h

theorem div8_inv (rm : RM8) : (div8 rm s).Inv := by
  unfold div8
  extract_lets d n
  split
  · exact divideError_inv _ (load8_inv s h rm)
  · exact divDone8_inv (load8_inv s h rm) _ _

theorem div16_inv (rm : RM16) : (div16 rm s).Inv := by
  unfold div16
  extract_lets d n
  split
  · exact divideError_inv _ (load16_inv s h rm)
  · exact divDone16_inv (load16_inv s h rm) _ _

theorem idiv8_inv (rm : RM8) : (idiv8 rm s).Inv := by
  have g := minQuotientTraps_inv (load8_inv s h rm)
  unfold idiv8
  extract_lets d n q r traps
  split
  · exact divideError_inv _ g
  · exact divDone8_inv g _ _

theorem idiv16_inv (rm : RM16) : (idiv16 rm s).Inv := by
  have g := minQuotientTraps_inv (load16_inv s h rm)
  unfold idiv16
  extract_lets d n q r traps
  split
  · exact divideError_inv _ g
  · exact divDone16_inv g _ _

theorem aaBase_inv (imm : Byte) : (aaBase imm s).2.Inv := by
  unfold aaBase
  split
  · exact h.bumpDraws
  · exact h

theorem aamOp_inv (imm : Byte) : (aamOp imm s).Inv := by
  have g := aaBase_inv h imm
  unfold aamOp
  extract_lets b al s1
  split
  · exact divideError_inv _ g
  · exact (((g.setR8 .ah _).setR8 .al _).setMasked szpMask _).havocFlags _

theorem aadOp_inv (imm : Byte) : (aadOp imm s).Inv :=
  ((((aaBase_inv h imm).setR8 .al _).setR8 .ah _).setMasked szpMask _).havocFlags _

/-! Data transfer. -/

theorem pushReg_inv (r : Reg16) : (pushReg r s).Inv := by
  have g := h.setR16 .sp (s.r16 .sp - 2)
  unfold pushReg
  extract_lets s1
  split
  · exact writeWord_inv _ g.bumpDraws _ _ _ _
  · exact writeWord_inv _ g _ _ _ _

theorem pushRM_inv (rm : RM16) : (pushRM rm s).Inv := by
  unfold pushRM
  split
  · exact push16_inv _ h.bumpDraws _
  · exact push16_inv _ (load16_inv s h rm) _

theorem popReg_inv (r : Reg16) : (popReg r s).Inv := (pop16_inv s h).setR16 r _

theorem popSreg_inv (r : SReg) : (popSreg r s).Inv := ((pop16_inv s h).setSreg r _).setInhibit true

theorem popRM_inv (rm : RM16) : (popRM rm s).Inv := writePlace16_inv _ (pop16_inv _ (resolve16_inv s h rm)) _ _

theorem movToSreg_inv (r : SReg) (rm : RM16) : (movToSreg r rm s).Inv := ((load16_inv s h rm).setSreg r _).setInhibit true

theorem loadCs_inv (v : Word) : (loadCs v s).Inv := (((prefetch_inv s h).setStale _).setSreg .cs v).setInhibit true

theorem xchg8_inv (rm : RM8) (r : Reg8) : (xchg8 rm r s).Inv := (writePlace8_inv _ (load8_inv s h rm) _ _).setR8 r _

theorem xchg16_inv (rm : RM16) (r : Reg16) : (xchg16 rm r s).Inv := (writePlace16_inv _ (load16_inv s h rm) _ _).setR16 r _

theorem xchgAx_inv (r : Reg16) : (xchgAx r s).Inv := (h.setR16 .ax _).setR16 r _

theorem movFromMoffs8_inv (o : Word) : (movFromMoffs8 o s).Inv := (readByte_inv _ (h.setLastEa o) _ _ o).setR8 .al _

theorem movFromMoffs16_inv (o : Word) : (movFromMoffs16 o s).Inv := (readWord_inv _ (h.setLastEa o) _ _ o).setR16 .ax _

theorem movToMoffs8_inv (o : Word) : (movToMoffs8 o s).Inv := writeByte_inv _ (h.setLastEa o) _ _ o _

theorem movToMoffs16_inv (o : Word) : (movToMoffs16 o s).Inv := writeWord_inv _ (h.setLastEa o) _ _ o _

theorem inByte_inv (port : Word) : (inByte port s).Inv := (ioReadByte_inv s h port).setR8 .al _

theorem inWord_inv (port : Word) : (inWord port s).Inv := (ioReadWord_inv s h port).setR16 .ax _

theorem xlatOp_inv : (xlatOp s).Inv := (readByte_inv _ (h.setLastEa _) _ _ _).setR8 .al _

theorem leaOp_inv (r : Reg16) (m : Mem) : (leaOp r m s).Inv := (h.setLastEa _).setR16 r _

theorem sahfOp_inv : (sahfOp s).Inv := h.setMasked 0x00D5 _

theorem popfOp_inv : (popfOp s).Inv := setFlags_inv _ (pop16_inv s h) _ (flagsPinned_pinFlags _)

/-! Strings. -/

theorem setCmpFlags_inv {n : Nat} (a b : BitVec n) : (s.setFlags (aluFlags .cmp a b s.flags)).Inv := h.setMasked statusMask _

theorem moveSi_inv (n : Word) : (moveSi n s).Inv := h.setR16 .si _
theorem moveDi_inv (n : Word) : (moveDi n s).Inv := h.setR16 .di _
theorem readSrc8_inv : (readSrc8 s).2.Inv := readByte_inv s h _ _ _
theorem readSrc16_inv : (readSrc16 s).2.Inv := readWord_inv s h _ _ _
theorem readDst8_inv : (readDst8 s).2.Inv := readByte_inv s h _ _ _
theorem readDst16_inv : (readDst16 s).2.Inv := readWord_inv s h _ _ _
theorem writeDst8_inv (v : Byte) : (writeDst8 v s).Inv := writeByte_inv s h _ _ _ v
theorem writeDst16_inv (v : Word) : (writeDst16 v s).Inv := writeWord_inv s h _ _ _ v

theorem movsElem8_inv : (movsElem8 s).Inv := moveDi_inv (moveSi_inv (writeDst8_inv (readSrc8_inv h) _) 1) 1
theorem movsElem16_inv : (movsElem16 s).Inv := moveDi_inv (moveSi_inv (writeDst16_inv (readSrc16_inv h) _) 2) 2
theorem cmpsElem8_inv : (cmpsElem8 s).Inv := moveDi_inv (moveSi_inv (setCmpFlags_inv (readDst8_inv (readSrc8_inv h)) _ _) 1) 1
theorem cmpsElem16_inv : (cmpsElem16 s).Inv := moveDi_inv (moveSi_inv (setCmpFlags_inv (readDst16_inv (readSrc16_inv h)) _ _) 2) 2
theorem scasElem8_inv : (scasElem8 s).Inv := moveDi_inv (setCmpFlags_inv (readDst8_inv h) _ _) 1
theorem scasElem16_inv : (scasElem16 s).Inv := moveDi_inv (setCmpFlags_inv (readDst16_inv h) _ _) 2
theorem lodsElem8_inv : (lodsElem8 s).Inv := moveSi_inv ((readSrc8_inv h).setR8 .al _) 1
theorem lodsElem16_inv : (lodsElem16 s).Inv := moveSi_inv ((readSrc16_inv h).setR16 .ax _) 2
theorem stosElem8_inv : (stosElem8 s).Inv := moveDi_inv (writeDst8_inv h _) 1
theorem stosElem16_inv : (stosElem16 s).Inv := moveDi_inv (writeDst16_inv h _) 2
theorem insElem8_inv : (insElem8 s).Inv := moveDi_inv (writeDst8_inv (ioReadByte_inv s h _) _) 1
theorem insElem16_inv : (insElem16 s).Inv := moveDi_inv (writeDst16_inv (ioReadWord_inv s h _) _) 2
theorem outsElem8_inv : (outsElem8 s).Inv := moveSi_inv (ioWriteByte_inv _ (readSrc8_inv h) _ _) 1
theorem outsElem16_inv : (outsElem16 s).Inv := moveSi_inv (ioWriteWord_inv _ (readSrc16_inv h) _ _) 2

theorem endString_inv : (endString s).Inv := (h.setDec _).setLife _

theorem interruptString_inv : (interruptString s).Inv := by
  refine endString_inv (nearTransfer_inv _ ?_ _)
  unfold resumesAtLastPrefix
  split
  · exact h.bumpDraws
  · exact h

theorem afterElement_inv (i : Instr) (tests : Bool) (k : RepKind) : (afterElement i tests k s).Inv := by
  unfold afterElement
  split
  · exact endString_inv h
  · split
    · exact endString_inv h
    · split
      · exact interruptString_inv h
      · exact (h.setDec _).setLife _

/-- A string instruction keeps it as its element does. -/
theorem stringOp_inv (i : Instr) (tests : Bool) {elem : State → State} (he : (elem s).Inv) : (stringOp i tests elem s).Inv := by
  unfold stringOp
  split
  · exact endString_inv he
  · split
    · exact endString_inv h
    · exact afterElement_inv (he.setR16 .cx _) i tests _

/-! The V20/V30 additions. -/

theorem pushaOp_inv : (pushaOp s).Inv :=
  push16_inv _ (push16_inv _ (push16_inv _ (push16_inv _ (push16_inv _
    (push16_inv _ (push16_inv _ (push16_inv s h _) _) _) _) _) _) _) _

theorem popaOp_inv : (popaOp s).Inv := by
  rw [popaOp_eq]
  exact popReg_inv (popReg_inv (popReg_inv (popReg_inv (pop16_inv _ (popReg_inv (popReg_inv (popReg_inv h _) _) _)) _) _) _) _

theorem boundOp_inv (r : Reg16) (m : Mem) : (boundOp r m s).Inv := by
  unfold boundOp
  extract_lets p v
  split
  · exact interrupt_inv _ (loadFar_inv h m) _ _
  · exact loadFar_inv h m

theorem enterCopies_inv (n : Nat) : (enterCopies n s).Inv := by
  induction n generalizing s with
  | zero => exact h
  | succ n ih => exact ih (push16_inv _ (readWord_inv _ (h.setR16 .bp _) _ _ _) _)

theorem enterOp_inv (size : Word) (level : Byte) : (enterOp size level s).Inv := by
  have g (n : Nat) : (enterCopies n (push16 (s.r16 .bp) s)).Inv := enterCopies_inv (push16_inv s h _) n
  unfold enterOp
  extract_lets n s1 frame s2 s3 s4
  refine State.Inv.setR16 (State.Inv.setR16 ?_ _ _) _ _
  unfold s3
  split
  · exact push16_inv _ (g _) _
  · exact g _

theorem leaveOp_inv : (leaveOp s).Inv := (pop16_inv _ (h.setR16 .sp _)).setR16 .bp _

theorem bcdLoop_inv (op : BcdOp) (odd : Bool) (n : Nat) (k : Word) (c z : Bool) : (bcdLoop op odd n k c z s).2.2.Inv := by
  induction n generalizing s k c z with
  | zero => exact h
  | succ n ih =>
    unfold bcdLoop
    extract_lets a d free fc r s1 s2
    have h1 : s1.Inv := (readByte_inv _ (readByte_inv s h _ _ _) _ _ _).bumpDraws
    have h2 : s2.Inv := by
      unfold s2
      cases op with
      | cmp => exact h1
      | _ => exact writeByte_inv s1 h1 _ _ _ _
    exact ih h2 _ _ _

theorem bcdString_inv (op : BcdOp) : (bcdString op s).Inv := by
  refine ((bcdLoop_inv h op _ _ _ _ _).setMasked (cfMask ||| zfMask) _).havocFlags _ ?_
  split <;> decide

end Operations

/-! ### Every instruction keeps the invariant -/

/-- Where the outcome is a state, the invariant holds of it. -/
def KeepsInv (o : Outcome State Fault Refusal) : Prop := ∀ t, o = .next t → t.Inv

theorem keepsInv_next {s : State} (h : s.Inv) : KeepsInv (.next s) := by
  intro t e
  cases e
  exact h

theorem exec_keepsInv {s : State} (h : s.Inv) (i : Instr) : KeepsInv (exec i s) := by
  cases i with
  | addEbGb | addAlIb | adcEbGb | adcAlIb | sbbEbGb | sbbAlIb | subEbGb | subAlIb | cmpEbGb | cmpAlIb | orEbGb | orAlIb
  | andEbGb | andAlIb | xorEbGb | xorAlIb | testEbGb | testAlIb | addEbIb | adcEbIb | sbbEbIb | subEbIb | cmpEbIb | orEbIb
  | andEbIb | xorEbIb | testEbIb | addEbIb82 | orEbIb82 | adcEbIb82 | sbbEbIb82 | andEbIb82 | subEbIb82 | xorEbIb82
  | cmpEbIb82 | testEbIbReg1 =>
    exact keepsInv_next (modify8_inv_of_pins h _ _ (aluOut_pins _ _))
  | addEvGv | addAxIv | adcEvGv | adcAxIv | sbbEvGv | sbbAxIv | subEvGv | subAxIv | cmpEvGv | cmpAxIv
  | orEvGv | orAxIv | andEvGv | andAxIv | xorEvGv | xorAxIv | testEvGv | testAxIv | addEvIv | adcEvIv | sbbEvIv | subEvIv
  | cmpEvIv | addEvIbs | adcEvIbs | sbbEvIbs | subEvIbs | cmpEvIbs | orEvIv | andEvIv | xorEvIv | orEvIbs | andEvIbs
  | xorEvIbs | testEvIv | testEvIvReg1 =>
    exact keepsInv_next (modify16_inv_of_pins h _ _ (aluOut_pins _ _))
  | addGbEb | adcGbEb | sbbGbEb | subGbEb | cmpGbEb | orGbEb | andGbEb | xorGbEb => exact keepsInv_next (aluRegRm8_inv h _ _ _)
  | addGvEv | adcGvEv | sbbGvEv | subGvEv | cmpGvEv | orGvEv | andGvEv | xorGvEv => exact keepsInv_next (aluRegRm16_inv h _ _ _)
  | incR16 | decR16 => exact keepsInv_next (modify16_inv_of_pins h _ _ (incDec_pins _))
  | incEbEv | decEbEv => exact keepsInv_next (modifyW_inv h _ _ (incDec_pins _) (incDec_pins _))
  | negEbEv => exact keepsInv_next (modifyW_inv h _ _ negOut_pins negOut_pins)
  | notEbEv => exact keepsInv_next (modifyW_inv h _ _ notOut_pins notOut_pins)
  | rolEbEv | rorEbEv | rclEbEv | rcrEbEv | shlEbEv | shrEbEv | sarEbEv | rolEbEvIb | rorEbEvIb | rclEbEvIb | rcrEbEvIb
  | shlEbEvIb | shrEbEvIb | sarEbEvIb =>
    exact keepsInv_next (modifyW_inv h _ _ (shiftOut_pins _ _) (shiftOut_pins _ _))
  | setmo | setmoc => exact keepsInv_next (modifyW_inv h _ _ (setmoOut_pins _) (setmoOut_pins _))
  | daa | das => exact keepsInv_next (decimalAdjust_inv h _)
  | aaa | aas => exact keepsInv_next (asciiAdjust_inv h _)
  | cbw | cwd | movR16Iv | leaMod3 => exact keepsInv_next (h.setR16 _ _)
  | aamIb => exact keepsInv_next (aamOp_inv h _)
  | aadIb => exact keepsInv_next (aadOp_inv h _)
  | mulEbEv rm | imulEbEv rm =>
    cases rm with
    | byte rm => exact keepsInv_next (mul8_inv h _ rm)
    | word rm => exact keepsInv_next (mul16_inv h _ rm)
  | divEbEv rm =>
    cases rm with
    | byte rm => exact keepsInv_next (div8_inv h rm)
    | word rm => exact keepsInv_next (div16_inv h rm)
  | idivEbEv rm =>
    cases rm with
    | byte rm => exact keepsInv_next (idiv8_inv h rm)
    | word rm => exact keepsInv_next (idiv16_inv h rm)
  | jo | jno | jb | jnb | jz | jnz | jbe | ja | js | jns | jp | jnp | jl | jge | jle | jg | jcxz | joDup60 | jnoDup61
  | jbDup62 | jnbDup63 | jzDup64 | jnzDup65 | jbeDup66 | jaDup67 | jsDup68 | jnsDup69 | jpDup6A | jnpDup6B | jlDup6C
  | jgeDup6D | jleDup6E | jgDup6F =>
    exact keepsInv_next (jumpIf_inv h _ _)
  | callAp => exact keepsInv_next (callFar_inv h _ _)
  | retIw | ret | retIwC0 | retC1 => exact keepsInv_next (retNear_inv h _)
  | retfIw | retf | retfIwC8 | retfC9 => exact keepsInv_next (retFar_inv h _)
  | int3 | intIb => exact keepsInv_next (interrupt_inv s h _ _)
  | into => exact keepsInv_next (into_inv h)
  | iret => exact keepsInv_next (returnFromInterrupt_inv s h)
  | loopnz | loopz | loop => exact keepsInv_next (loopIf_inv h _ _)
  | callJv => exact keepsInv_next (callNear_inv h _)
  | jmpJv | jmpJb => exact keepsInv_next (nearTransfer_inv s h _)
  | jmpAp => exact keepsInv_next (farTransfer_inv s h _ _)
  | callEv => exact keepsInv_next (callNear_inv (load16_inv s h _) _)
  | jmpEv => exact keepsInv_next (nearTransfer_inv _ (load16_inv s h _) _)
  | callMpMod01 | callMpMod2 => exact keepsInv_next (callFar_inv (loadFar_inv h _) _ _)
  | jmpMpMod01 | jmpMpMod2 => exact keepsInv_next (farTransfer_inv _ (loadFar_inv h _) _ _)
  | callMpMod3 => exact keepsInv_next (callFar_inv (loadFarLastEa_inv h) _ _)
  | jmpMpMod3 => exact keepsInv_next (farTransfer_inv _ (loadFarLastEa_inv h) _ _)
  | segEs | segCs | segSs | segDs | repne | rep | repnc | repc => exact keepsInv_next (prefixRead_inv h _)
  | lock | lockF1 => exact keepsInv_next ((prefixRead_inv h _).setLock true)
  | wait => exact keepsInv_next (waitOp_inv h)
  | esc => exact keepsInv_next (escOp_inv h _)
  | hlt => exact keepsInv_next (hltOp_inv h)
  | cmc => exact keepsInv_next (setFlags_inv s h _ (flagsPinned_xor _ cfMask (by decide) h.flags))
  | clc | cli | cld => exact keepsInv_next (h.clearFlagBits _)
  | stc | std => exact keepsInv_next (h.setFlagBits _)
  | sti => exact keepsInv_next ((h.setFlagBits ifMask).setInhibit true)
  | sahf => exact keepsInv_next (sahfOp_inv h)
  | movsb => exact keepsInv_next (stringOp_inv h _ _ (movsElem8_inv h))
  | movsw => exact keepsInv_next (stringOp_inv h _ _ (movsElem16_inv h))
  | cmpsb => exact keepsInv_next (stringOp_inv h _ _ (cmpsElem8_inv h))
  | cmpsw => exact keepsInv_next (stringOp_inv h _ _ (cmpsElem16_inv h))
  | stosb => exact keepsInv_next (stringOp_inv h _ _ (stosElem8_inv h))
  | stosw => exact keepsInv_next (stringOp_inv h _ _ (stosElem16_inv h))
  | lodsb => exact keepsInv_next (stringOp_inv h _ _ (lodsElem8_inv h))
  | lodsw => exact keepsInv_next (stringOp_inv h _ _ (lodsElem16_inv h))
  | scasb => exact keepsInv_next (stringOp_inv h _ _ (scasElem8_inv h))
  | scasw => exact keepsInv_next (stringOp_inv h _ _ (scasElem16_inv h))
  | insb => exact keepsInv_next (stringOp_inv h _ _ (insElem8_inv h))
  | insw => exact keepsInv_next (stringOp_inv h _ _ (insElem16_inv h))
  | outsb => exact keepsInv_next (stringOp_inv h _ _ (outsElem8_inv h))
  | outsw => exact keepsInv_next (stringOp_inv h _ _ (outsElem16_inv h))
  | ext0F | undef62Mod3 | undef63 | undef66 | undef67 | undefD6 | undefF1 | undef8DMod3 | undefC4Mod3 | undefC5Mod3
  | undefFfReg3 | undefFfReg5 =>
    exact keepsInv_next (interrupt_inv s h _ _)
  | undefC0Reg6 | undefD0Reg6 | undefFe2 | undefFe3 | undefFe4 | undefFe5 | undefFe6 | undefFe7 =>
    exact keepsInv_next (undefinedGroupForm_inv h)
  | pusha => exact keepsInv_next (pushaOp_inv h)
  | popa => exact keepsInv_next (popaOp_inv h)
  | boundMod01 | boundMod2 => exact keepsInv_next (boundOp_inv h _ _)
  | pushIv | pushIbs | pushEs | pushCs | pushSs | pushDs | pushf => exact keepsInv_next (push16_inv s h _)
  | imulGvEvIv | imulGvEvIbs => exact keepsInv_next (imulImm_inv h _ _ _ _)
  | enter => exact keepsInv_next (enterOp_inv h _ _)
  | leave => exact keepsInv_next (leaveOp_inv h)
  | add4s | sub4s | cmp4s => exact keepsInv_next (bcdString_inv h _)
  | test1EbCl | test1EvCl | clr1EbCl | clr1EvCl | set1EbCl | set1EvCl | not1EbCl | not1EvCl | test1EbIb | test1EvIb
  | clr1EbIb | clr1EvIb | set1EbIb | set1EvIb | not1EbIb | not1EvIb | rol4 | ror4 | insFieldReg | insFieldImm | extFieldReg
  | extFieldImm | brkem | fe2 | fe3 | fe4 | fe5 | fe6 | fe7 =>
    exact fun _ e => nomatch e
  | popEs | popSs | popDs => exact keepsInv_next (popSreg_inv h _)
  | pushR16 => exact keepsInv_next (pushReg_inv h _)
  | popR16 => exact keepsInv_next (popReg_inv h _)
  | xchgEbGb => exact keepsInv_next (xchg8_inv h _ _)
  | xchgEvGv => exact keepsInv_next (xchg16_inv h _ _)
  | movEbGb | movEbIb | movEbIbReg1 | movEbIbReg2 | movEbIbReg3 | movEbIbReg4 | movEbIbReg5 | movEbIbReg6 | movEbIbReg7 =>
    exact keepsInv_next (store8_inv s h _ _)
  | movEvGv | movEwSw | movEvIv | movEwSwHigh | movEvIvReg1 | movEvIvReg2 | movEvIvReg3 | movEvIvReg4 | movEvIvReg5
  | movEvIvReg6 | movEvIvReg7 =>
    exact keepsInv_next (store16_inv s h _ _)
  | movGbEb => exact keepsInv_next ((load8_inv s h _).setR8 _ _)
  | movGvEv => exact keepsInv_next ((load16_inv s h _).setR16 _ _)
  | leaMod01 | leaMod2 => exact keepsInv_next (leaOp_inv h _ _)
  | movEsEw | movSsEw | movDsEw | movEsEw4 | movSsEw6 | movDsEw7 => exact keepsInv_next (movToSreg_inv h _ _)
  | popEv | popEvReg1 | popEvReg2 | popEvReg3 | popEvReg4 | popEvReg5 | popEvReg6 | popEvReg7 =>
    exact keepsInv_next (popRM_inv h _)
  | nop => exact keepsInv_next h
  | xchgAxCx | xchgAxDx | xchgAxBx | xchgAxSp | xchgAxBp | xchgAxSi | xchgAxDi => exact keepsInv_next (xchgAx_inv h _)
  | popf => exact keepsInv_next (popfOp_inv h)
  | lahf | movR8Ib | salc => exact keepsInv_next (h.setR8 _ _)
  | movAlOb => exact keepsInv_next (movFromMoffs8_inv h _)
  | movAxOv => exact keepsInv_next (movFromMoffs16_inv h _)
  | movObAl => exact keepsInv_next (movToMoffs8_inv h _)
  | movOvAx => exact keepsInv_next (movToMoffs16_inv h _)
  | lesMod01 | lesMod2 | ldsMod01 | ldsMod2 =>
    exact keepsInv_next ((((loadFar_inv h _).setR16 _ _).setSreg _ _).setInhibit true)
  | lesMod3 | ldsMod3 => exact keepsInv_next ((((loadFarLastEa_inv h).setR16 _ _).setSreg _ _).setInhibit true)
  | xlat => exact keepsInv_next (xlatOp_inv h)
  | inAlIb | inAlDx => exact keepsInv_next (inByte_inv h _)
  | inAxIb | inAxDx => exact keepsInv_next (inWord_inv h _)
  | outIbAl | outDxAl => exact keepsInv_next (ioWriteByte_inv s h _ _)
  | outIbAx | outDxAx => exact keepsInv_next (ioWriteWord_inv s h _ _)
  | pushEv | pushEvReg7 => exact keepsInv_next (pushRM_inv h _)
  | popCs => exact keepsInv_next (loadCs_inv (pop16_inv s h) _)
  | movCsEw | movCsEw5 => exact keepsInv_next (loadCs_inv (load16_inv s h _) _)

end Sys2Proof.Machine

namespace Sys2Proof.Machine
open Sys2Proof Host

/-! ### Every tick keeps the invariant (21_prefetch_queue.md R112 to R117, 22_biu_tstate_engine.md R150 to R154) -/

section Ticks
variable {s : State} (h : s.Inv)

theorem owed_of_fetch (hp : s.biu.prep = .fetch) : s.owed = s.biu.inFlight + s.busWidth := by rw [State.owed, if_pos hp]

/-- The owed bytes of a bus interface unit that has prepared no fetch are those in flight. -/
theorem owed_of_ne (hp : s.biu.prep ≠ .fetch) : s.owed = s.biu.inFlight := by rw [State.owed, if_neg hp]; rfl

/-- A code fetch that is not discarded is in flight until its end. -/
theorem inFlight_of_fetch {b : Biu} {c : BusCycle} (hc : b.cycle = some c) (hb : b.busState = .codeFetch)
    (hd : c.discard = false) : b.inFlight = if c.wide then 2 else 1 := by
  rw [Biu.inFlight, hc]
  exact if_pos ⟨hb, hd⟩

theorem inFlight_of_ne {b : Biu} (hb : b.busState ≠ .codeFetch) : b.inFlight = 0 := by
  unfold Biu.inFlight
  split
  · exact if_neg fun e => hb e.1
  · rfl

/-- A code fetch is prepared where it was, or by a fetch decision, for which there is room (R151). -/
theorem addressCycle_prep_fetch {hold : Bool} {a : EuAct} (hp : (addressCycle hold a s).prep = .fetch) :
    s.biu.prep = .fetch ∨ s.roomFor s.busWidth = true := by
  have next {p : Prep} (e : (if s.biu.pending.isSome then Prep.eu else p) = .fetch) : p = .fetch := by
    split at e
    · cases e
    · exact e
  unfold addressCycle at hp
  cases ht : s.biu.ta <;> simp only [ht] at hp <;> split at hp
  case td.isTrue => cases hp
  case td.isFalse =>
    split at hp
    · next hf =>
      simp only [fetchBegins, Bool.and_eq_true] at hf
      exact .inr hf.2
    · exact .inl hp
  case tr.isTrue | ts.isTrue | t0.isTrue => cases hp
  case tr.isFalse | ts.isFalse => exact .inl (next hp)
  case t0.isFalse =>
    split at hp
    all_goals exact .inl hp
  case ta.isTrue | ta.isFalse => exact .inl hp

theorem enterTState_inFlight (t : TState) (b : Biu) : (enterTState t b).inFlight ≤ b.inFlight := by
  unfold enterTState
  extract_lets done
  split
  · rw [inFlight_of_ne (b := { done with busState := .passive, access := .none }) nofun]
    exact Nat.zero_le _
  · by_cases h4 : b.tState = .t4 ∧ b.secondHalf = false
    · have e : done.inFlight = 0 := by rw [Biu.inFlight, show done.cycle = none from if_pos h4]
      rw [e]
      exact Nat.zero_le _
    · rw [Biu.inFlight, show done.cycle = b.cycle from if_neg h4]
      exact Nat.le_refl _

include h

/-- Registers of the bus interface unit that no code fetch depends on may change. -/
theorem setBiu_inv_of_eq {b : Biu} (hc : b.cycle = s.biu.cycle := by rfl) (hb : b.busState = s.biu.busState := by rfl)
    (hp : b.prep = s.biu.prep := by rfl) : (s.setBiu b).Inv :=
  setBiu_inv s h b (by rw [Biu.inFlight, Biu.inFlight, hc, hb]) (by rw [hp]; exact id)

theorem popQueue_inv : (popQueue s).Inv := by
  unfold popQueue
  split
  · exact setBiu_inv_of_eq h
  · next b q e =>
    refine popByte_inv _ (setBiu_inv_of_eq h) ?_
    show s.queue ≠ []
    simp [e]

theorem euActs_inv (a : EuAct) : (euActs a s).Inv := by
  cases a with
  | idle => exact h
  | abortFetch => exact h
  | pop => exact popQueue_inv h
  | popFirst => exact popQueue_inv (s := s.setNextIsFirst true) (h.congr rfl rfl rfl rfl rfl rfl rfl)
  | flush cs ip =>
    exact setBiu_inv_of_eq (flush_inv ((s.setSreg .cs cs).setIp ip) h.memWf h.small h.flags)
  | request r => exact setBiu_inv_of_eq h
  | beginFetch =>
    simp only [euActs]
    split
    · exact setBiu_inv_of_eq h
    · exact h
  | resumeFetch =>
    simp only [euActs]
    split
    · exact setBiu_inv_of_eq h
    · exact h
  | suspendFetch => exact setBiu_inv_of_eq h
  | delayFetch n => exact setBiu_inv_of_eq h
  | setLock b => exact h.setLock b

/-- `T1` of a code fetch: the bytes it will bring are those that its address cycle has kept room for. -/
theorem startFetch_inv (hp : s.biu.prep = .fetch) : (startFetch s).Inv := by
  refine ⟨h.memWf, h.memSmall, h.flags, ?_, h.pcAhead⟩
  have hq := h.queueFits
  have hw := fetchWide_le s
  rw [owed_of_fetch hp] at hq
  rw [owed_of_ne (s := startFetch s) nofun, inFlight_of_fetch (b := (startFetch s).biu) rfl rfl rfl]
  show s.queue.length + (if s.fetchWide then 2 else 1) ≤ s.capacity
  omega

/-- `T1` of a transfer of the EU owes nothing. -/
theorem startEu_inv (r : BusReq) : (startEu r s).Inv := by
  have h1 (u : State) (hu : u.Inv) (b : Biu) (hb : b.busState = r.kind.busState) (hp : b.prep = .idle) : (u.setBiu b).Inv := by
    refine setBiu_inv u hu b ?_ (by rw [hp]; exact nofun)
    rw [inFlight_of_ne (by rw [hb]; cases r.kind <;> exact nofun)]
    exact Nat.zero_le _
  unfold startEu
  extract_lets second two more full s1
  refine h1 s1 ?_ _ rfl rfl
  unfold s1
  split
  · exact h.setLock _
  · split
    · exact h.setHalted true
    · exact h

theorem actionT1_inv : (actionT1 s).Inv := by
  unfold actionT1
  split
  · exact startEu_inv h _
  · exact h
  · next hp => exact startFetch_inv h hp
  · exact h

theorem actionT2_inv : (actionT2 s).Inv := by
  unfold actionT2
  split
  · split
    · exact setBiu_inv_of_eq h
    · exact h
  · exact h

/-- The end of a code fetch: the bytes in flight come to the queue. -/
theorem pushFetched_inv {c : BusCycle} (hc : s.biu.cycle = some c) (hb : s.biu.busState = .codeFetch) : (pushFetched c s).Inv := by
  have h1 : (s.setBiu { s.biu with cycle := none }).Inv := setBiu_inv s h _ (Nat.zero_le _) id
  unfold pushFetched
  extract_lets s1
  split
  · exact h1
  · next hd =>
    refine pushBytes_inv _ h1 _ ?_
    have hq : s.queue.length + (s.biu.inFlight + if s.biu.prep = .fetch then s.busWidth else 0) ≤ s.capacity := h.queueFits
    rw [inFlight_of_fetch hc hb (Bool.eq_false_iff.mpr hd)] at hq
    rw [busBytes_length]
    show s.queue.length + (0 + if s.biu.prep = .fetch then s.busWidth else 0) + _ ≤ s.capacity
    omega

theorem actionT4_inv : (actionT4 s).Inv := by
  by_cases hb : s.biu.busState = .codeFetch
  · unfold actionT4
    rw [hb]
    split
    · exact h
    · next c hc => exact pushFetched_inv h hc hb
  · obtain ⟨w, r, e⟩ := actionT4_setBiu s hb
    rw [e]
    exact setBiu_inv_of_eq h

theorem transfer_inv (c : BusCycle) (inp : BusIn) : (transfer c inp s).Inv := by
  cases hb : s.biu.busState with
  | memWrite =>
    rw [transfer_memWrite s inp c hb]
    refine logBus_inv _ ?_ _
    split
    · exact storeData_inv _ (storeData_inv s h _ _) _ _
    · exact storeData_inv s h _ _
  | codeFetch =>
    rw [transfer_codeFetch s inp c hb]
    exact logBus_inv _ (setBiu_inv_of_eq h) _
  | memRead =>
    rw [transfer_memRead s inp c hb]
    exact logBus_inv _ (setBiu_inv_of_eq h) _
  | ioRead =>
    rw [transfer_ioRead s inp c hb]
    exact setBiu_inv_of_eq h
  | ioWrite =>
    rw [transfer_ioWrite s inp c hb]
    exact logBus_inv s h _
  | interruptAck =>
    rw [transfer_interruptAck s inp c hb]
    split
    all_goals exact logBus_inv _ (setBiu_inv_of_eq h) _
  | halt =>
    rw [transfer_halt s inp c hb]
    exact h
  | passive =>
    have e : transfer c inp s = s := by simp [transfer, hb]
    rw [e]
    exact h

theorem transferIfDone_inv (inp : BusIn) : (transferIfDone inp s).Inv := by
  unfold transferIfDone
  split
  · split
    · exact transfer_inv h _ inp
    · exact h
  · exact h

theorem callIoRead_inv (inp : BusIn) : (callIoRead inp s).Inv := by
  unfold callIoRead
  split
  · exact logBus_inv _ (setBiu_inv_of_eq h) _
  · exact h

theorem beforeTransfer_inv (hold : Bool) (inp : BusIn) : (beforeTransfer hold inp s).Inv := by
  obtain ⟨b, ⟨l, m, n, rfl⟩, e⟩ := beforeTransfer_eq s inp hold
  have hb : (s.setBiu { s.biu with busWait := l, ioWait := m, dmaWait := n }).Inv := setBiu_inv_of_eq h
  rw [e]
  split
  · exact callIoRead_inv hb inp
  · exact hb

theorem stepsOneTwo_inv (hold : Bool) (inp : BusIn) : (stepsOneTwo hold inp s).Inv := by
  have hd : (s.setBiu (drainWaits hold s.biu)).Inv := setBiu_inv_of_eq h
  cases ht : s.biu.tState with
  | tinit => rw [stepsOneTwo_idle _ _ _ (.inl ht)]; exact hd
  | ti => rw [stepsOneTwo_idle _ _ _ (.inr ht)]; exact hd
  | t1 => rw [stepsOneTwo_t1 _ _ _ ht]; exact actionT1_inv hd
  | t2 => rw [stepsOneTwo_t2 _ _ _ ht]; exact actionT2_inv hd
  | t3 => rw [stepsOneTwo_transfer _ _ _ (.inl ht)]; exact transferIfDone_inv (beforeTransfer_inv h hold inp) inp
  | tw => rw [stepsOneTwo_transfer _ _ _ (.inr ht)]; exact transferIfDone_inv (beforeTransfer_inv h hold inp) inp
  | t4 => rw [stepsOneTwo_t4 _ _ _ ht]; exact actionT4_inv hd

/-- A code fetch may be prepared where there is room for it (R151). -/
theorem setBiu_inv_of_room (b : Biu) (hi : b.inFlight = s.biu.inFlight)
    (hp : b.prep = .fetch → s.biu.prep = .fetch ∨ s.roomFor s.busWidth = true) : (s.setBiu b).Inv := by
  refine ⟨h.memWf, h.memSmall, h.flags, ?_, h.pcAhead⟩
  have hq := h.queueFits
  have hle : s.biu.inFlight ≤ s.owed := Nat.le_add_right _ _
  by_cases hb : b.prep = .fetch
  · rw [owed_of_fetch (s := s.setBiu b) hb]
    show s.queue.length + (b.inFlight + s.busWidth) ≤ s.capacity
    rcases hp hb with hs | hr
    · rw [owed_of_fetch hs] at hq
      omega
    · have := (roomFor_iff s _).mp hr
      omega
  · rw [owed_of_ne (s := s.setBiu b) hb]
    show s.queue.length + b.inFlight ≤ s.capacity
    omega

theorem addressCycle_inv (hold : Bool) (a : EuAct) : (s.setBiu (addressCycle hold a s)).Inv :=
  setBiu_inv_of_room h _ (by rw [Biu.inFlight, Biu.inFlight, addressCycle_cycle, addressCycle_busState]) addressCycle_prep_fetch

theorem tickDma_inv : (tickDma s).Inv := by
  unfold tickDma
  extract_lets expires st s1
  have h1 : s1.Inv := h.congr rfl rfl rfl rfl rfl rfl rfl
  split
  · exact setBiu_inv_of_eq h1
  · exact h1

theorem enterTState_inv (t : TState) : (s.setBiu (enterTState t s.biu)).Inv :=
  setBiu_inv s h _ (enterTState_inFlight t s.biu) (by rw [enterTState_prep]; exact id)

theorem beforeDma_inv (a : EuAct) (inp : BusIn) : (beforeDma a inp s).Inv :=
  have h0 : (acted a s).Inv := euActs_inv (setBiu_inv_of_eq h) _
  have h1 : (afterTwo a inp s).Inv := stepsOneTwo_inv h0 s.dma.st.holds inp
  setBiu_inv_of_eq (addressCycle_inv h1 s.dma.st.holds a)

theorem tick_inv (a : EuAct) (inp : BusIn) : (tick a inp s).Inv := by
  rw [tick_eq]
  have h4 := tickDma_inv (beforeDma_inv h (s.euAct a) inp)
  generalize tickDma (beforeDma (s.euAct a) inp s) = u at h4 ⊢
  exact (enterTState_inv h4 _).congr rfl rfl rfl rfl rfl rfl rfl

end Ticks

/-! ### Every step keeps the invariant -/

section Steps
variable {s : State} (h : s.Inv)

theorem finish_keepsInv {more : State → Outcome State Fault Refusal} (hm : ∀ u, u.Inv → KeepsInv (more u))
    {o : Outcome State Fault Refusal} (ho : KeepsInv o) : KeepsInv (finish more o) := by
  cases o with
  | next u =>
    have hu := ho u rfl
    by_cases h1 : u.life = .checkInterrupts
    · rw [finish_boundary more h1]
      exact keepsInv_next (checkInterrupts_inv u hu)
    · by_cases h2 : u.life = .decodePrefix
      · rw [finish_prefix more h2]
        exact hm u hu
      · rw [finish_goesOn more h1 h2]
        exact keepsInv_next hu
  | fault f => exact fun _ e => nomatch e
  | refused r => exact fun _ e => nomatch e

include h

theorem readyToExec_inv (i : Instr) (n : Nat) : (readyToExec i n s).Inv := by
  refine State.Inv.setLife (consume_inv _ ?_ n i) _
  unfold fetchState
  split
  · exact h
  · exact h.congr rfl rfl rfl rfl rfl rfl rfl

theorem fetchExec_keepsInv (n : Nat) : KeepsInv (fetchExec n s) := by
  induction n generalizing s with
  | zero => exact keepsInv_next h
  | succ n ih =>
    unfold fetchExec
    split
    · exact finish_keepsInv (fun u hu => ih hu) (exec_keepsInv (readyToExec_inv h _ _) _)
    · exact fun _ e => nomatch e

theorem beginStep_inv : (beginStep s).Inv :=
  prefetch_inv _ (completeFetch_inv (s.setSteps (s.steps + 1)) (h.congr rfl rfl rfl rfl rfl rfl rfl))

theorem runNext_keepsInv : KeepsInv (runNext s) := by
  have g := beginStep_inv h
  unfold runNext
  split
  · exact keepsInv_next (h.setHalted true)
  · extract_lets s1
    split
    · exact finish_keepsInv (fun u hu => keepsInv_next hu) (exec_keepsInv (g.setLife .checkInterrupts) _)
    · exact fetchExec_keepsInv g _

theorem euStep_keepsInv : KeepsInv (euStep s) := by
  have g := haltCheck_inv s h
  unfold euStep
  extract_lets s1
  split
  · exact keepsInv_next (runSequence_inv _ _ _ (beginStep_inv g))
  · split
    · exact keepsInv_next g
    · exact runNext_keepsInv g

/-- Reset meets the invariant from any state whose memory is in form (10_state.md R60). -/
theorem applyReset_inv : s.applyReset.Inv where
  memWf := h.memWf
  memSmall := h.memSmall
  flags := (by decide : flagsPinned 0xF002 = true)
  queueFits := Nat.zero_le _
  pcAhead := rfl

theorem runEvent_keepsInv (e : Event) : KeepsInv (runEvent e s) := by
  cases e with
  | eu => exact euStep_keepsInv h
  | reset => exact keepsInv_next (applyReset_inv h)
  | tick a inp => exact keepsInv_next (tick_inv h a inp)
  | _ => exact keepsInv_next (h.congr rfl rfl rfl rfl rfl rfl rfl)

theorem step_keepsInv : KeepsInv (step s) := by
  unfold step runStep
  split
  · exact euStep_keepsInv h
  · exact runEvent_keepsInv (h.setScript _) _

end Steps

/-- Settles O21: each operation keeps the invariant, so each meaning, each part of a tick and each event does. -/
theorem stepKeepsInvariant : Obligations.StepKeepsInvariant := fun _ t h => step_keepsInv h t

/-- Settles O20: after reset memory and the queue are empty, and PC is IP. -/
theorem resetMeetsInvariant : Obligations.ResetMeetsInvariant where
  memWf := rfl
  memSmall := nofun
  flags := by decide
  queueFits := Nat.zero_le _
  pcAhead := rfl

end Sys2Proof.Machine

namespace Sys2Proof.Machine
open Sys2Proof Host

/-! ### Reset (10_state.md R60, R61, 70_reset_and_hazards.md R670 to R676) -/

/-- Settles O14: the reset state is a literal, and the entry point is the top of memory. -/
theorem resetEntry : Obligations.ResetEntry := by
  unfold Obligations.ResetEntry
  decide

/-- Settles O15: the reset state is a literal. -/
theorem resetDecided : Obligations.ResetDecided := by
  unfold Obligations.ResetDecided
  decide

/-- A second reset finds every field it writes as it writes it. -/
theorem applyReset_applyReset (s : State) : s.applyReset.applyReset = s.applyReset := rfl

/-- An event of the agenda is taken off it and runs. -/
theorem step_event {s : State} {e : Event} {rest : List Event} (h : s.script = e :: rest) :
    step s = runEvent e (s.setScript rest) := by rw [step, runStep, h]

/-- Settles O16: the event is `applyReset`, which writes the fields of the specified state and no other. -/
theorem resetInput : Obligations.ResetInput := by
  intro s rest h
  refine ⟨(s.setScript rest).applyReset, step_event h, rfl, rfl, rfl, rfl, rfl, rfl, rfl, rfl, rfl, rfl, rfl, rfl, rfl, rfl, rfl,
    rfl, rfl, rfl, rfl, rfl, rfl, rfl, rfl, rfl, applyReset_applyReset _⟩

/-! ### The command lines (22_biu_tstate_engine.md R138) -/

section CommandLines
variable (hold : Bool) (b : BusState) (t : TState)

theorem commandsOf_mrdc : (commandsOf hold b t).mrdc = true ↔
    hold = false ∧ (t = .t2 ∨ t = .t3 ∨ t = .tw) ∧ (b = .codeFetch ∨ b = .memRead) := by simp [commandsOf, and_assoc, or_assoc]
theorem commandsOf_iorc : (commandsOf hold b t).iorc = true ↔
    hold = false ∧ (t = .t2 ∨ t = .t3 ∨ t = .tw) ∧ b = .ioRead := by simp [commandsOf, and_assoc, or_assoc]
theorem commandsOf_amwc : (commandsOf hold b t).amwc = true ↔
    hold = false ∧ (t = .t2 ∨ t = .t3 ∨ t = .tw) ∧ b = .memWrite := by simp [commandsOf, and_assoc, or_assoc]
theorem commandsOf_aiowc : (commandsOf hold b t).aiowc = true ↔
    hold = false ∧ (t = .t2 ∨ t = .t3 ∨ t = .tw) ∧ b = .ioWrite := by simp [commandsOf, and_assoc, or_assoc]
theorem commandsOf_mwtc : (commandsOf hold b t).mwtc = true ↔ hold = false ∧ (t = .t3 ∨ t = .tw) ∧ b = .memWrite := by
  simp [commandsOf, and_assoc]
theorem commandsOf_iowc : (commandsOf hold b t).iowc = true ↔ hold = false ∧ (t = .t3 ∨ t = .tw) ∧ b = .ioWrite := by
  simp [commandsOf, and_assoc]
theorem commandsOf_inta : (commandsOf hold b t).inta = true ↔
    hold = false ∧ (t = .t2 ∨ t = .t3 ∨ t = .tw) ∧ b = .interruptAck := by simp [commandsOf, and_assoc, or_assoc]

end CommandLines

/-- Settles O57: the record is taken of the state before the T-state changes, with the lines that `commandsOf` gives it. -/
theorem commandLines : Obligations.CommandLines := by
  intro a inp s
  refine ⟨_, tick_record s a inp, ?_⟩
  generalize hu : tickDma (beforeDma (s.euAct a) inp s) = u
  have hc : u.cycles = s.cycles := by rw [← hu]; simp [beforeDma]
  have ht : u.biu.tState = s.biu.tState := by rw [← hu]; simp [beforeDma]
  exact ⟨hc, by rw [tick_eq]; rfl, ht, beq_iff_eq, commandsOf_mrdc _ _ _, commandsOf_iorc _ _ _, commandsOf_amwc _ _ _,
    commandsOf_aiowc _ _ _, commandsOf_mwtc _ _ _, commandsOf_iowc _ _ _, commandsOf_inta _ _ _⟩

/-! ### The next bytes (21_prefetch_queue.md R116, 32_decode_sequencer.md R274, log 46) -/

section NextBytes
variable (s : State)

theorem window_getElem? {k : Nat} (h : k < maxInstrBytes) : s.window[k]? = some (s.codeAt k) := by
  simp [State.window, h]

theorem codeAt_queue {k : Nat} {b : Byte} (h : s.queue[k]? = some b) : s.codeAt k = b := by simp only [State.codeAt, h]

theorem codeAt_memory {k : Nat} (h : s.queue.length ≤ k) :
    s.codeAt k = s.codeByte (s.codeAddr (s.ip + BitVec.ofNat 16 k)) := by
  simp only [State.codeAt, List.getElem?_eq_none h]

theorem codeByte_memory {a : BitVec 20} (h : s.isMemory a) : s.codeByte a = s.byteAt a := by
  rcases h with h | h <;> simp only [State.codeByte, h] <;> rfl

theorem codeSeg_nil (off : Word) (h : s.stale = []) : s.codeSeg off = s.seg.cs := by simp only [State.codeSeg, h]

/-- A code byte comes from the segment of CS or from one that CS had before. -/
theorem codeSeg_mem (off : Word) : s.codeSeg off ∈ s.seg.cs :: s.stale := by
  unfold State.codeSeg
  cases s.stale with
  | nil => exact List.mem_singleton_self _
  | cons v vs =>
    have hlt : Config.codeSegment off.toNat s.steps % (vs.length + 2) < (s.seg.cs :: v :: vs).length := Nat.mod_lt _ (by omega)
    dsimp only
    rw [List.getD_eq_getElem _ _ hlt]
    exact List.getElem_mem hlt

end NextBytes

theorem nextBytes : Claim.NextBytes := by
  intro s k hk
  refine ⟨fun b hb => by rw [window_getElem? s hk, codeAt_queue s hb], ?_⟩
  rintro off g rfl rfl
  exact ⟨codeSeg_mem s _, codeSeg_nil s _, fun hq hm => by
    rw [window_getElem? s hk, codeAt_memory s hq]
    exact congrArg some (codeByte_memory s hm)⟩

/-! ### The steps that fetch nothing (32_decode_sequencer.md R278, 60_exceptions.md R631, logs 8, 10) -/

section StepGoesOn
variable {s : State}

theorem step_eu (h : s.script = []) : step s = euStep s := by rw [step, runStep, h]

/-- An instruction under way is run again. -/
theorem runNext_goesOn {i : Instr} (hf : s.biu.fetchState ≠ .halted) (hl : s.life = .execute) (hi : s.dec.instr = some i) :
    runNext s = finish .next (exec i ((beginStep s).setLife .checkInterrupts)) := by
  have hsys := (beginStep_fetched s).system
  have hl' : (beginStep s).life = .execute := (congrArg System.life hsys).trans hl
  have hi' : (beginStep s).dec.instr = some i := (congrArg (fun y : System => y.dec.instr) hsys).trans hi
  unfold runNext
  rw [if_neg hf]
  simp only [hl', hi']

/-- An EU step depends on the state after the check of a halted CPU. -/
theorem euStep_of_haltCheck {t : State} (h : haltCheck s = haltCheck t) : euStep s = euStep t := by
  unfold euStep
  rw [h]

theorem step_halted_checks (hs : s.script = []) (hh : s.halted = true) (hq : s.sequences = []) (ha : s.accepted = []) :
    step s = .next (checkInterrupts s) := by
  have hc : haltCheck s = checkInterrupts s := haltCheck_halted s hh hq
  have hn := checkInterrupts_none s ha
  have hq' : (checkInterrupts s).sequences = [] := by rw [hn, enterFetch_sequences, endInstr_sequences, hq]
  have hh' : (checkInterrupts s).halted = true := by simp [hn, enterFetch, hh]
  rw [step_eu hs]
  unfold euStep
  simp only [hc, hq', hh', if_true]

/-- The check that accepts an interrupt ends the halt, and the step goes on with the first sequence. -/
theorem step_halted_accepts (hs : s.script = []) (hh : s.halted = true) (hq : s.sequences = []) (ha : s.accepted ≠ []) :
    step s = step (checkInterrupts s) := by
  obtain ⟨q, qs, e⟩ := List.exists_cons_of_ne_nil ha
  obtain ⟨-, hh', -, -, -, -, -, -, -, -, -, -, -, -, hscr, -⟩ := checkInterrupts_accepts e
  rw [step_eu hs, step_eu (hscr.trans hs)]
  exact euStep_of_haltCheck ((haltCheck_halted s hh hq).trans (haltCheck_running _ hh').symm)

end StepGoesOn

theorem stepGoesOn : Claim.StepGoesOn := by
  refine ⟨fun s i hs hh hq hf hl hi => ?_, fun s hs hh hq => ⟨fun hn hp ht => ?_, fun h => ?_⟩, fun s hs hh hq hf => ?_⟩
  · have e : step s = finish .next (exec i ((beginStep s).setLife .checkInterrupts)) := by
      rw [step_eu hs, euStep_running s hh hq, runNext_goesOn hf hl hi]
    exact ⟨fun t ht => by rw [e, ht, finish_next], fun r hr => by rw [e, hr]; rfl⟩
  · refine step_halted_checks hs hh hq ((accepted_eq_nil s).mpr ⟨hn, ?_, ht⟩)
    rcases hp with h | h | h <;> simp [h]
  · refine step_halted_accepts hs hh hq fun ha => ?_
    obtain ⟨hn, hp, ht⟩ := (accepted_eq_nil s).mp ha
    rcases h with h | ⟨h1, h2, h3⟩ | h
    · simp [hn] at h
    · simp [h1, h2, h3] at hp
    · simp [ht] at h
  · rw [step_eu hs, euStep_running s hh hq, runNext, if_pos hf]
    rfl

/-- Settles O18: the window is the queue, then the code bytes at CS:IP and on; and the cases of an EU step that decode nothing. -/
theorem stepGoesOnOrFetches : Obligations.StepGoesOnOrFetches := ⟨nextBytes, stepGoesOn⟩

/-! ### HLT, WAIT and ESC (45_processor_control.md R527 to R529) -/

section Halt
variable (s : State)

/-- The state in which HLT halts: a code fetch in `T1` to `T4` has come to its end. -/
def beforeHalt : State := s.prefetch.completeFetch

theorem beforeHalt_fetched : Fetched s (beforeHalt s) := (prefetch_fetched s).trans (completeFetch_fetched _)

theorem hltOp_eq : hltOp s = haltedAt ((beforeHalt s).logBus .halt) := rfl

theorem hltOp_inFlight : (hltOp s).biu.inFlight = 0 := by
  have h0 : (beforeHalt s).biu.inFlight = 0 := completeFetch_inFlight _
  have hd : (hltOp s).biu.inFlight ≤ (beforeHalt s).biu.inFlight := dropPrepared_inFlight _
  omega

theorem hltOp_system : (hltOp s).system = { s.system with
    halted := true, latches := { s.biu.latches with pending := some (s.biu.pending.getD haltRequest) } } := by
  have hsys := (beforeHalt_fetched s).system
  have hl : (beforeHalt s).biu.latches = s.biu.latches := congrArg System.latches hsys
  have hp : (beforeHalt s).biu.pending = s.biu.pending := congrArg (fun y : System => y.latches.pending) hsys
  show { (beforeHalt s).system with
    halted := true
    latches := { (beforeHalt s).biu.dropPrepared.latches with pending := some ((beforeHalt s).biu.pending.getD haltRequest) } } = _
  rw [hsys, dropPrepared_latches, hl, hp]

theorem hlt_completes : Completes .hlt s fun t => t.halted = true ∧ (∃ l, FetchesOnly l ∧ t.bus = .halt :: (l ++ s.bus)) ∧
    t.biu.fetchState = .halted ∧ t.biu.inFlight = 0 ∧ t.biu.prep ≠ .fetch ∧
    NothingWritten s t ∧ t.flags = s.flags ∧ t.ip = s.ip ∧ t.lastEa = s.lastEa ∧
    t.system = { s.system with halted := true,
                               latches := { s.biu.latches with pending := some (s.biu.pending.getD haltRequest) } } := by
  obtain ⟨hg, hip, hf, hea, -, -, -, -, hm, -, l, hb, hl⟩ := beforeHalt_fetched s
  have hin := hltOp_inFlight s
  have hsys := hltOp_system s
  have hex : exec .hlt s = .next (hltOp s) := rfl
  rw [hltOp_eq] at hin hsys hex
  generalize beforeHalt s = u at *
  refine ⟨_, hex, rfl, ⟨l, hl, congrArg (BusEvent.halt :: ·) hb⟩, rfl, hin, dropPrepared_prep u.biu, ⟨hg, ?_⟩, hf, hip,
    hea, hsys⟩
  exact fun a => byteAt_of_mem hm a

end Halt

section Wait
variable {s : State}

theorem interruptAcceptable_iff : s.interruptAcceptable = true ↔
    s.nmiLatch = true ∨ (s.pins.intr = true ∧ flagIF s.flags = true ∧ s.inhibit = false) := by
  simp [State.interruptAcceptable, and_assoc]

theorem waitOp_active (h : s.testActive = true) : waitOp s = s.setLife .checkInterrupts := if_pos h

theorem waitOp_interrupted (h : s.testActive = false) (ha : s.interruptAcceptable = true) :
    waitOp s = (nearTransfer s.dec.startIp s).setLife .checkInterrupts := by simp [waitOp, h, ha]

theorem waitOp_polls (h : s.testActive = false) (ha : s.interruptAcceptable = false) :
    waitOp s = (s.setDec { s.dec with instr := some .wait }).setLife .execute := by simp [waitOp, h, ha]

end Wait

/-! What a read shows on the bus. -/

section Shows

theorem Shows.trans {es fs : List BusEvent} {s t u : State} (h : Shows es s t) (g : Shows fs t u) : Shows (fs ++ es) s u := by
  obtain ⟨hd, l, hb⟩ := h
  obtain ⟨gd, k, gb⟩ := g
  exact ⟨by rw [gd, hd, List.append_assoc], k ++ l, by rw [gb, hb, List.append_assoc]⟩

theorem Shows.of_bus {s t : State} (h : t.bus = s.bus) : Shows [] s t := ⟨by rw [State.demands, h]; rfl, [], h⟩

theorem Fetched.shows {s t : State} (h : Fetched s t) : Shows [] s t :=
  ⟨h.demands, h.bus.imp fun _ hl => hl.1⟩

variable (s : State)

theorem logBus_shows {e : BusEvent} (h : e.isFetch = false) : Shows [e] s (s.logBus e) :=
  ⟨by simp [logBus_demands, h], [e], rfl⟩

theorem fetchData_shows (a : BitVec 20) : Shows [] s (s.fetchData a).2 := .of_bus (fetchData_bus s a)

theorem readByte_shows (acc : Access) (sv off : Word) :
    Shows [.memRead acc (lin sv off) false (zext16 (readByte acc sv off s).1)] s (readByte acc sv off s).2 :=
  ((prefetch_fetched s).shows.trans (fetchData_shows _ _)).trans (logBus_shows _ rfl)

/-- A word is read in one bus operation or in two, the low byte's first (20_memory.md R80, R82). -/
theorem readWord_shows (acc : Access) (sv off : Word) :
    Shows (s.wordReads acc sv off (readWord acc sv off s).1) s (readWord acc sv off s).2 := by
  by_cases hc : s.oneCycle (lin sv off) = true
  · rw [State.wordReads, if_pos hc, readWord, if_pos hc]
    exact (((prefetch_fetched s).shows.trans (fetchData_shows _ _)).trans (fetchData_shows _ _)).trans (logBus_shows _ rfl)
  · rw [State.wordReads, if_neg hc, readWord, if_neg hc, loByte_wordOf, hiByte_wordOf]
    exact (readByte_shows s acc sv off).trans (readByte_shows _ acc sv (off + 1))

end Shows

/-- ESC reads the word at its effective address into the operand latch. -/
theorem esc_completes (op ext : BitVec 3) (m : Mem) (s : State) {g : SReg} {off : Word}
    (hg : g = s.dec.segOverride.getD (defaultSeg m)) (ho : off = eaOff m s) :
    Completes (.esc op ext (.mem m)) s fun t => NothingWritten s t ∧ t.flags = s.flags ∧ t.lastEa = off ∧ Ordinary s t ∧
      Shows (s.wordReads (accessOf g) (s.sreg g) off t.eaOpr) s t ∧
      (s.wordInMemory (s.sreg g) off → t.eaOpr = s.wordAt (s.sreg g) off) := by
  have he : eaSeg m s = g := by
    rw [hg, eaSeg, State.segOr]
    cases s.dec.segOverride <;> rfl
  subst ho he
  refine ⟨_, rfl, ⟨load16_gpr s _, fun a => byteAt_of_mem (load16_mem s _) a⟩, load16_flags s _, load16_lastEa s (.mem m),
    load16_ordinary s _, ?_, fun h => ?_⟩
  · exact readWord_shows (s.setLastEa (eaOff m s)) _ _ _
  · exact readWord_memory (s.setLastEa (eaOff m s)) _ _ _ h

/-- Settles O47: HLT halts once the code fetches have come to their end; WAIT has three cases; ESC is a load. -/
theorem haltWaitEscape : Obligations.HaltWaitEscape := by
  refine ⟨hlt_completes, fun s => rfl, fun s h => congrArg Host.Outcome.next (waitOp_active h), fun s h ha => ?_,
    fun s h hn hp => ?_, fun op ext m s g off hg ho => esc_completes op ext m s hg ho, fun op ext r s => rfl⟩
  · obtain ⟨hf, hw, hfl, hsys⟩ := nearTransfer_jumped s s.dec.startIp
    refine ⟨_, congrArg Host.Outcome.next (waitOp_interrupted h (interruptAcceptable_iff.mpr ha)), hf, hw, hfl,
      nearTransfer_lastEa s s.dec.startIp, ?_⟩
    show { (nearTransfer s.dec.startIp s).system with life := .checkInterrupts } = _
    rw [hsys]
  · have ha : s.interruptAcceptable = false := by
      rcases hp with h | h | h <;> simp [State.interruptAcceptable, hn, h]
    exact ⟨_, congrArg Host.Outcome.next (waitOp_polls h ha), rfl, rfl, rfl, ⟨rfl, fun _ => rfl⟩, rfl, rfl⟩

end Sys2Proof.Machine

namespace Sys2Proof.Machine
open Sys2Proof Host

/-! ### The queue in a tick (21_prefetch_queue.md R112 to R120, 22_biu_tstate_engine.md R144, R154) -/

/-- What the bus interface unit keeps for reads of the queue. -/
structure QueueSide where
  queue : List Byte
  pc : Word
  stale : List Word
  fetchState : FetchState
  queueOp : QueueOp
  queueByte : Option Byte
  queueRead : Bool

def State.queueSide (s : State) : QueueSide :=
  { queue := s.queue, pc := s.pc, stale := s.stale, fetchState := s.biu.fetchState, queueOp := s.biu.queueOp
    queueByte := s.biu.queueByte, queueRead := s.biu.queueRead }

section Steps
variable (s : State) (inp : BusIn) (hold : Bool)

/-! Steps 1 and 2 keep it, but at the end of a code fetch. -/

theorem startEu_queueSide (r : BusReq) : (startEu r s).queueSide = s.queueSide := by
  unfold startEu
  dsimp only
  split
  · rfl
  · split <;> rfl

theorem actionT1_queueSide : (actionT1 s).queueSide = s.queueSide := by
  unfold actionT1
  split
  · exact startEu_queueSide s _
  · rfl
  · rfl
  · rfl

theorem actionT2_queueSide : (actionT2 s).queueSide = s.queueSide := by
  unfold actionT2
  split
  · split <;> rfl
  · rfl

theorem callIoRead_queueSide : (callIoRead inp s).queueSide = s.queueSide := by
  unfold callIoRead
  split <;> rfl

theorem beforeTransfer_queueSide : (beforeTransfer hold inp s).queueSide = s.queueSide := by
  obtain ⟨b, ⟨l, m, n, rfl⟩, e⟩ := beforeTransfer_eq s inp hold
  rw [e]
  split
  · exact callIoRead_queueSide _ inp
  · rfl

theorem storeData_queueSide (a : BitVec 20) (v : Byte) : (s.storeData a v).queueSide = s.queueSide := by
  unfold State.storeData
  split <;> rfl

theorem transfer_queueSide (c : BusCycle) : (transfer c inp s).queueSide = s.queueSide := by
  cases hb : s.biu.busState with
  | memWrite =>
    rw [transfer_memWrite s inp c hb]
    split
    · exact (storeData_queueSide _ _ _).trans (storeData_queueSide s _ _)
    · exact storeData_queueSide s _ _
  | interruptAck =>
    rw [transfer_interruptAck s inp c hb]
    split <;> rfl
  | codeFetch => rw [transfer_codeFetch s inp c hb]; rfl
  | memRead => rw [transfer_memRead s inp c hb]; rfl
  | ioRead => rw [transfer_ioRead s inp c hb]; rfl
  | ioWrite => rw [transfer_ioWrite s inp c hb]; rfl
  | halt => rw [transfer_halt s inp c hb]
  | passive => simp only [transfer, hb]

theorem transferIfDone_queueSide : (transferIfDone inp s).queueSide = s.queueSide := by
  unfold transferIfDone
  split
  · split
    · exact transfer_queueSide s inp _
    · rfl
  · rfl

theorem actionT4_queueSide (h : s.biu.busState ≠ .codeFetch) : (actionT4 s).queueSide = s.queueSide := by
  obtain ⟨w, r, e⟩ := actionT4_setBiu s h
  rw [e]
  rfl

theorem stepsOneTwo_queueSide_kept (h : s.biu.tState ≠ .t4 ∨ s.biu.busState ≠ .codeFetch) :
    (stepsOneTwo hold inp s).queueSide = s.queueSide := by
  cases ht : s.biu.tState with
  | tinit => rw [stepsOneTwo_idle _ _ _ (.inl ht)]; rfl
  | ti => rw [stepsOneTwo_idle _ _ _ (.inr ht)]; rfl
  | t1 => rw [stepsOneTwo_t1 _ _ _ ht]; exact actionT1_queueSide _
  | t2 => rw [stepsOneTwo_t2 _ _ _ ht]; exact actionT2_queueSide _
  | t3 =>
    rw [stepsOneTwo_transfer _ _ _ (.inl ht)]
    exact (transferIfDone_queueSide _ _).trans (beforeTransfer_queueSide s inp hold)
  | tw =>
    rw [stepsOneTwo_transfer _ _ _ (.inr ht)]
    exact (transferIfDone_queueSide _ _).trans (beforeTransfer_queueSide s inp hold)
  | t4 => rw [stepsOneTwo_t4 _ _ _ ht]; exact actionT4_queueSide _ (h.resolve_left (not_not_intro ht))

/-! The end of a code fetch. -/

theorem arriving_of_no_fetch (h : s.biu.tState ≠ .t4 ∨ s.biu.busState ≠ .codeFetch) : s.arriving = [] := by
  unfold State.arriving
  split
  · rcases h with h | h <;> simp [h]
  · rfl

theorem arriving_of_no_cycle (h : s.biu.cycle = none) : s.arriving = [] := by simp only [State.arriving, h]

theorem arriving_of_fetch {c : BusCycle} (ht : s.biu.tState = .t4) (hb : s.biu.busState = .codeFetch) (hc : s.biu.cycle = some c) :
    s.arriving = if c.discard then [] else busBytes c.wide (s.fetchesHigh s.biu.address) s.biu.dataBus := by
  have hh : (s.cfg.busWidth = .word ∧ s.biu.address.toNat % 2 = 1) = (s.fetchesHigh s.biu.address = true) :=
    propext (fetchesHigh_iff s _).symm
  simp only [State.arriving, hc, ht, hb, hh, true_and, busBytes, wordBytes]
  cases c.discard
  · cases c.wide
    · cases s.fetchesHigh s.biu.address <;> rfl
    · rfl
  · rfl

theorem busBytes_ne_nil (wide high : Bool) (w : Word) : busBytes wide high w ≠ [] := by
  cases wide <;> exact List.cons_ne_nil _ _

/-- The queue after the bytes that arrive have been pushed. -/
def State.queueAfter (s : State) : QueueSide :=
  { s.queueSide with
    queue := s.queue ++ s.arriving, pc := s.pc + BitVec.ofNat 16 s.arriving.length
    fetchState := if s.arriving = [] then s.biu.fetchState else
      syncFetchState (decide ((s.queue ++ s.arriving).length + s.busWidth ≤ s.capacity)) s.biu.fetchState }

theorem queueAfter_of_nil (h : s.arriving = []) : s.queueAfter = s.queueSide := by simp [State.queueAfter, State.queueSide, h]

theorem queueAfter_of_ne (h : s.arriving ≠ []) : s.queueAfter = (s.pushBytes s.arriving).queueSide := by
  rw [State.queueAfter, if_neg h]
  rfl

theorem pushFetched_queueSide {c : BusCycle} (ht : s.biu.tState = .t4) (hb : s.biu.busState = .codeFetch)
    (hc : s.biu.cycle = some c) : (pushFetched c s).queueSide = s.queueAfter := by
  have ha := arriving_of_fetch s ht hb hc
  cases hd : c.discard with
  | false =>
    simp only [hd, Bool.false_eq_true, if_false] at ha
    rw [queueAfter_of_ne s (by simp [ha, busBytes_ne_nil]), ha, pushFetched, hd]
    rfl
  | true =>
    simp only [hd, if_true] at ha
    rw [queueAfter_of_nil s ha, pushFetched, hd]
    rfl

/-- Steps 1 and 2 push what a code fetch brings, and leave the queue alone when it brings nothing. -/
theorem stepsOneTwo_queueSide : (stepsOneTwo hold inp s).queueSide = s.queueAfter := by
  by_cases h : s.biu.tState ≠ .t4 ∨ s.biu.busState ≠ .codeFetch
  · rw [stepsOneTwo_queueSide_kept s inp hold h, queueAfter_of_nil s (arriving_of_no_fetch s h)]
  · obtain ⟨ht, hb⟩ : s.biu.tState = .t4 ∧ s.biu.busState = .codeFetch := by simpa using h
    rw [stepsOneTwo_t4 _ _ _ ht, actionT4]
    split
    · next hc => rw [queueAfter_of_nil s (arriving_of_no_cycle s hc)]; rfl
    · next c hc =>
      simp only [show (s.setBiu (drainWaits hold s.biu)).biu.busState = .codeFetch from hb]
      exact pushFetched_queueSide (s.setBiu (drainWaits hold s.biu)) ht hb hc

/-! A tick in which no request waits leaves none. -/

theorem stepsOneTwo_pending (h : s.biu.pending = none) : (stepsOneTwo hold inp s).biu.pending = none := by
  cases ht : s.biu.tState with
  | tinit => rw [stepsOneTwo_idle _ _ _ (.inl ht)]; exact h
  | ti => rw [stepsOneTwo_idle _ _ _ (.inr ht)]; exact h
  | t1 =>
    rw [stepsOneTwo_t1 _ _ _ ht, actionT1]
    split
    · next hp => exact absurd (h.symm.trans hp) nofun
    all_goals exact h
  | t2 =>
    rw [stepsOneTwo_t2 _ _ _ ht, actionT2]
    split
    · split <;> exact h
    · exact h
  | t3 | tw =>
    rw [stepsOneTwo_transfer _ _ _ (by simp [ht]), transferIfDone]
    obtain ⟨l, m, n, e⟩ := beforeTransfer_biu s inp hold
    have hb : (beforeTransfer hold inp s).biu.pending = none := by rw [e]; exact h
    split
    · split
      · rw [transfer_biu]; exact hb
      · exact hb
    · exact hb
  | t4 =>
    rw [stepsOneTwo_t4 _ _ _ ht]
    by_cases hb : s.biu.busState = .codeFetch
    · rw [actionT4]
      split
      · exact h
      · simp only [show (s.setBiu (drainWaits hold s.biu)).biu.busState = .codeFetch from hb, pushFetched]
        split <;> exact h
    · obtain ⟨w, r, e⟩ := actionT4_setBiu (s.setBiu (drainWaits hold s.biu)) hb
      rw [e]
      exact h

end Steps

section Tick
variable (s : State) (a : EuAct) (inp : BusIn) (hold : Bool)

/-! The rest of a tick moves only a delay of fetching. -/

theorem enterTState_queueRead (t : TState) (b : Biu) : (enterTState t b).queueRead = b.queueRead := by
  unfold enterTState; simp only []; split <;> rfl
theorem enterTState_queueOp (t : TState) (b : Biu) : (enterTState t b).queueOp = b.queueOp := by
  unfold enterTState; simp only []; split <;> rfl
theorem enterTState_queueByte (t : TState) (b : Biu) : (enterTState t b).queueByte = b.queueByte := by
  unfold enterTState; simp only []; split <;> rfl
theorem addressCycle_queueRead : (addressCycle hold a s).queueRead = s.biu.queueRead := by
  unfold addressCycle; simp only []; repeat' split
  all_goals rfl
theorem addressCycle_fetchState : (addressCycle hold a s).fetchState = s.biu.fetchState := by
  unfold addressCycle; simp only []; repeat' split
  all_goals rfl

theorem tickDma_queueSide : (tickDma s).queueSide = s.queueSide := by
  have hs : (tickDma s).stale = s.stale := by
    unfold tickDma
    extract_lets
    split <;> rfl
  rcases tickDma_biu s with h | h <;> simp [State.queueSide, h, hs]

theorem beforeDma_queueSide : (beforeDma a inp s).queueSide =
    { (afterTwo a inp s).queueSide with fetchState := tickDelay (afterTwo a inp s).biu.fetchState } := by
  simp [beforeDma, State.queueSide, addressCycle_queueRead, addressCycle_fetchState]

theorem tick_queueSide_beforeDma : (tick a inp s).queueSide = (beforeDma (s.euAct a) inp s).queueSide := by
  rw [← tickDma_queueSide (beforeDma _ _ _), tick_eq]
  simp [State.queueSide, enterTState_queueRead, enterTState_queueOp, enterTState_queueByte]

/-! The tick by what the action of the EU leaves. -/

section Acted
variable {u : State} (hu : acted (s.euAct a) s = u)
include hu

theorem beforeDma_acted : (beforeDma (s.euAct a) inp s).queueSide =
    { u.queueAfter with fetchState := tickDelay u.queueAfter.fetchState } := by
  have e := stepsOneTwo_queueSide u inp s.dma.st.holds
  rw [← hu, ← afterTwo_acted, hu] at e
  have hf : (afterTwo (s.euAct a) inp s).biu.fetchState = _ := congrArg QueueSide.fetchState e
  rw [beforeDma_queueSide, e, hf]

theorem tick_queueSide : (tick a inp s).queueSide = { u.queueAfter with fetchState := tickDelay u.queueAfter.fetchState } := by
  rw [tick_queueSide_beforeDma, beforeDma_acted s a inp hu]

/-- The record shows the queue operation of its tick. -/
theorem tick_record_queue : ∃ r, (tick a inp s).record = some r ∧ r.queueOp = u.biu.queueOp ∧
    r.queueByte = u.biu.queueByte := by
  have e := (tickDma_queueSide _).trans (beforeDma_acted s a inp hu)
  exact ⟨_, tick_record s a inp, congrArg QueueSide.queueOp e, congrArg QueueSide.queueByte e⟩

theorem tick_pushes : (tick a inp s).queue = u.queue ++ u.arriving ∧
    (tick a inp s).pc = u.pc + BitVec.ofNat 16 u.arriving.length ∧ (tick a inp s).stale = u.stale ∧
    (tick a inp s).biu.queueRead = u.biu.queueRead ∧ (tick a inp s).biu.fetchState = tickDelay u.queueAfter.fetchState := by
  have e := tick_queueSide s a inp hu
  exact ⟨congrArg QueueSide.queue e, congrArg QueueSide.pc e, congrArg QueueSide.stale e, congrArg QueueSide.queueRead e,
    congrArg QueueSide.fetchState e⟩

theorem tick_keeps : (tick a inp s).ip = u.ip ∧ (tick a inp s).seg = u.seg ∧ (tick a inp s).nextIsFirst = u.nextIsFirst ∧
    (u.biu.pending = none → (tick a inp s).biu.pending = none) := by
  rw [tick_ip, tick_seg, tick_nextIsFirst, tick_pending, afterTwo_acted, hu]
  exact ⟨stepsOneTwo_ip .., stepsOneTwo_seg .., stepsOneTwo_nextIsFirst .., stepsOneTwo_pending u inp _⟩

end Acted
/-! The read of the queue and the flush. -/

/-- The EU's part of a tick begins with the queue outputs cleared. -/
def State.cleared (s : State) : State := s.setBiu { s.biu with queueOp := .idle, queueByte := none, euReady := false }

theorem acted_pop : acted .pop s = popQueue s.cleared := rfl

/-- A read of the queue leaves the code fetch that is under way. -/
theorem popQueue_arriving : (popQueue s).arriving = s.arriving := by
  unfold popQueue
  split <;> rfl

theorem flush_arriving : s.flush.arriving = [] := by
  have hb : s.flush.biu = { s.biu.discardFetch with fetchState := .normal, queueRead := false } := rfl
  by_cases h : s.biu.busState = .codeFetch
  · cases hc : s.biu.cycle with
    | none => exact arriving_of_no_cycle _ (by simp [hb, Biu.discardFetch, h, hc])
    | some c => simp [State.arriving, hb, Biu.discardFetch, h, hc]
  · exact arriving_of_no_fetch _ (.inr (by simp [hb, Biu.discardFetch, h]))

/-- A read of the queue takes the byte at its head. -/
theorem tick_pops {u : State} {b : Byte} {q : List Byte} (hu : acted (s.euAct a) s = popQueue u) (hq : u.queue = b :: q) :
    ∃ r, (tick a inp s).record = some r ∧ r.queueByte = some b ∧ r.queueOp = (if u.nextIsFirst then .first else .subsequent) ∧
      (tick a inp s).ip = u.ip + 1 ∧ (tick a inp s).nextIsFirst = false ∧ (tick a inp s).queue = q ++ u.arriving ∧
      (tick a inp s).pc = u.pc + BitVec.ofNat 16 u.arriving.length ∧ (tick a inp s).biu.queueRead = false := by
  obtain ⟨r, hr, hop, hb⟩ := tick_record_queue s a inp hu
  obtain ⟨tq, tp, -, tr, -⟩ := tick_pushes s a inp hu
  obtain ⟨ti, -, tn, -⟩ := tick_keeps s a inp hu
  rw [popQueue_arriving] at tq tp
  have e : popQueue u =
      (u.setBiu { u.biu with queueOp := if u.nextIsFirst then .first else .subsequent, queueByte := some b }).popByte := by
    simp only [popQueue, hq]
  rw [e] at tq tp tr ti tn hop hb
  exact ⟨r, hr, hb, hop, ti, tn, tq.trans (by simp [State.popByte, State.syncFetch, State.setFetch, hq]), tp, tr⟩

/-- A read of the empty queue waits. -/
theorem tick_waits {u : State} (hu : acted (s.euAct a) s = popQueue u) (hq : u.queue = []) :
    ∃ r, (tick a inp s).record = some r ∧ r.queueByte = u.biu.queueByte ∧ r.queueOp = u.biu.queueOp ∧
      (tick a inp s).ip = u.ip ∧ (tick a inp s).queue = u.arriving ∧
      (tick a inp s).pc = u.pc + BitVec.ofNat 16 u.arriving.length ∧ (tick a inp s).seg = u.seg ∧
      (tick a inp s).nextIsFirst = u.nextIsFirst ∧ (tick a inp s).biu.queueRead = true ∧
      (u.biu.pending = none → (tick a inp s).biu.pending = none) ∧
      (u.biu.fetchState = .suspended → u.arriving = [] → (tick a inp s).biu.fetchState = .normal) := by
  obtain ⟨r, hr, hop, hb⟩ := tick_record_queue s a inp hu
  obtain ⟨tq, tp, -, tr, tf⟩ := tick_pushes s a inp hu
  obtain ⟨ti, ts, tn, tpe⟩ := tick_keeps s a inp hu
  rw [popQueue_arriving] at tq tp
  have ha := popQueue_arriving u
  have e : popQueue u = u.setBiu { u.biu with
      queueRead := true, fetchState := if u.biu.fetchState = .suspended then .normal else u.biu.fetchState } := by
    simp only [popQueue, hq]
  rw [e] at tq tp tr ti ts tn tpe hop hb tf ha
  refine ⟨r, hr, hb, hop, ti, tq.trans (by simp [hq]), tp, ts, tn, tr, tpe, fun hsus hnil => ?_⟩
  rw [tf, queueAfter_of_nil _ (ha.trans hnil)]
  simp [State.queueSide, hsus, tickDelay]

/-- A flush empties the queue, whatever ends in its tick. -/
theorem tick_flushes {cs ip : Word} (h : s.euAct a = .flush cs ip) :
    ∃ r, (tick a inp s).record = some r ∧ r.queueOp = .flush ∧ r.queueByte = none ∧ (tick a inp s).ip = ip ∧
      (tick a inp s).pc = ip ∧ (tick a inp s).seg.cs = cs ∧ (tick a inp s).nextIsFirst = true ∧
      (tick a inp s).queue = [] ∧ (tick a inp s).stale = [] ∧ (tick a inp s).biu.queueRead = false := by
  have hu : acted (s.euAct a) s = acted (.flush cs ip) s := by rw [h]
  obtain ⟨r, hr, hop, hb⟩ := tick_record_queue s a inp hu
  obtain ⟨tq, tp, tst, tr, -⟩ := tick_pushes s a inp hu
  obtain ⟨ti, ts, tn, -⟩ := tick_keeps s a inp hu
  have ha : (acted (.flush cs ip) s).arriving = [] := flush_arriving ((s.cleared.setSreg .cs cs).setIp ip)
  have hby : (acted (.flush cs ip) s).biu.queueByte = none := discardFetch_queueByte s.cleared.biu
  rw [ha] at tq tp
  exact ⟨r, hr, hop, hb.trans hby, ti, tp.trans (by simp [acted, euActs, State.flush]), by rw [ts]; rfl, tn, tq, tst, tr⟩

/-! What the EU does in a tick (10_state.md R51, R149, R116). -/

/-- A tick depends on the agenda by what the EU does of it. -/
theorem tick_of_euAct {b : EuAct} (h : s.euAct a = s.euAct b) : tick a inp s = tick b inp s := by
  rw [tick_eq, tick_eq, h]

theorem euAct_of_halted_or_stalled (h : s.halted = true ∨ s.biu.stalled = true) : s.euAct a = .idle := by
  rcases h with h | h <;> simp [State.euAct, h]

theorem euAct_of_running (hh : s.halted = false) (hs : s.biu.stalled = false) :
    s.euAct a = if s.biu.queueRead then .pop else a := by
  unfold State.euAct
  cases s.cfg.euTiming
  simp [hh, hs, timedAct]

/-- The EU reads the queue when the agenda says so, or a read waits; a read of the agenda may be of the first byte. -/
theorem acted_read (hh : s.halted = false) (hs : s.biu.stalled = false)
    (h : a = .pop ∨ a = .popFirst ∨ s.biu.queueRead = true) :
    acted (s.euAct a) s = popQueue (s.cleared.setNextIsFirst (s.nextIsFirst || (a == .popFirst && !s.biu.queueRead))) := by
  rw [euAct_of_running s a hh hs]
  cases hr : s.biu.queueRead with
  | true => simp only [if_true, Bool.not_true, Bool.and_false, Bool.or_false]; rfl
  | false =>
    rcases h with rfl | rfl | h
    · rw [show (EuAct.pop == EuAct.popFirst) = false from rfl, Bool.false_and, Bool.or_false]; rfl
    · rw [show (EuAct.popFirst == EuAct.popFirst) = true from rfl, Bool.not_false, Bool.and_true, Bool.or_true]; rfl
    · exact absurd (hr.symm.trans h) nofun

/-- Only a read of the queue begins to wait. -/
theorem acted_queueRead (hr : s.biu.queueRead = false) (h : a ≠ .pop) (h' : a ≠ .popFirst) :
    (acted a s).biu.queueRead = false := by
  cases a with
  | pop => exact absurd rfl h
  | popFirst => exact absurd rfl h'
  | flush cs ip => rfl
  | beginFetch | resumeFetch =>
    simp only [acted, euActs]
    split <;> exact hr
  | _ => exact hr

end Tick

/-! The end of a code fetch in an idle tick. -/

section Fetched
variable (s : State)

theorem syncFetchState_normal (room : Bool) {f : FetchState} (h : f = .normal) :
    syncFetchState room f = .normal ∨ syncFetchState room f = .pausedFull := by
  subst h
  cases room
  · exact .inr rfl
  · exact .inl rfl

/-- Fetching that is normal, or that has been paused, is paused when a fetch has left no room, and else normal. -/
theorem queueAfter_fetchState (h : s.biu.fetchState = .normal ∨ s.biu.fetchState = .pausedFull) (hne : s.arriving ≠ []) :
    tickDelay s.queueAfter.fetchState =
      if (s.queue ++ s.arriving).length + s.busWidth ≤ s.capacity then .normal else .pausedFull := by
  simp only [State.queueAfter, if_neg hne]
  by_cases hroom : (s.queue ++ s.arriving).length + s.busWidth ≤ s.capacity
  · rcases h with h | h <;> simp only [hroom, h, decide_true, if_true] <;> rfl
  · rcases h with h | h <;> simp only [hroom, h, decide_false, if_false] <;> rfl

/-- An idle agenda leaves what arrives. -/
theorem acted_idle_arriving : (acted (s.euAct .idle) s).arriving = s.arriving := by
  rw [euAct_idle]
  split
  · exact popQueue_arriving s.cleared
  · rfl

theorem acted_idle_fetchState (h : s.biu.fetchState = .normal) :
    (acted (s.euAct .idle) s).biu.fetchState = .normal ∨ (acted (s.euAct .idle) s).biu.fetchState = .pausedFull := by
  rw [euAct_idle]
  split
  · rw [acted_pop, popQueue]
    split
    · exact .inl (by simp [State.cleared, h])
    · exact syncFetchState_normal _ h
  · exact .inl h

end Fetched

theorem codeFetchEnds : Claim.CodeFetchEnds := by
  intro inp s c ht hb hc
  obtain ⟨aq, -, -, ap⟩ := acted_idle s
  obtain ⟨tq, tp, -, -, tf⟩ := tick_pushes s .idle inp rfl
  rw [acted_idle_arriving, arriving_of_fetch s ht hb hc] at tq tp
  rw [aq] at tq
  rw [ap] at tp
  refine ⟨fun hd => ?_, fun hd => ?_⟩
  · simp [tq, tp, hd]
  · simp only [hd, Bool.false_eq_true, if_false] at tq tp
    refine ⟨fun hw => ?_, fun hh => ?_, fun hw hh => ?_, ?_, fun hn => ?_⟩
    · rw [tq, hw]; rfl
    · obtain ⟨-, hw, hx⟩ := hh
      rw [tq, hw, (fetchesHigh_iff s _).mpr hx]; rfl
    · have hx : s.fetchesHigh s.biu.address = false :=
        Bool.eq_false_iff.mpr fun hx => hh ⟨hb, hw, (fetchesHigh_iff s _).mp hx⟩
      rw [tq, hw, hx]; rfl
    · rw [tp, busBytes_length]
      cases c.wide <;> rfl
    · have hne : (acted (s.euAct .idle) s).arriving ≠ [] := by
        rw [acted_idle_arriving, arriving_of_fetch s ht hb hc, hd]
        exact busBytes_ne_nil _ _ _
      have hw : (acted (s.euAct .idle) s).busWidth = s.busWidth := by simp [State.busWidth]
      have hcap : (acted (s.euAct .idle) s).capacity = s.capacity := by simp [State.capacity]
      rw [tf, queueAfter_fetchState _ (acted_idle_fetchState s hn) hne, ← (tick_pushes s .idle inp rfl).1, hw, hcap]

theorem stalled_iff (b : Biu) : b.stalled = true ↔
    b.pending ≠ none ∨ (b.cycle ≠ none ∧ b.busState ≠ .codeFetch ∧ b.busState ≠ .passive) := by
  have hd : b.busState.demanded = true ↔ b.busState ≠ .codeFetch ∧ b.busState ≠ .passive := by
    cases b.busState <;> simp [BusState.demanded]
  simp [Biu.stalled, hd, Option.isSome_iff_ne_none]

theorem queueStatus : Claim.QueueStatus := by
  intro inp s
  refine ⟨fun h a => ?_, fun hh hs => ⟨fun hr a => ?_, fun b q hq => ⟨?_, fun hr => ?_⟩, fun hq a ha => ?_, fun hr cs ip => ?_,
    fun hr a h h' => ?_⟩, stalled_iff s.biu⟩
  · exact tick_of_euAct s a inp (by simp only [euAct_of_halted_or_stalled s _ h])
  · exact tick_of_euAct s a inp (by simp only [euAct_of_running s _ hh hs, hr, if_true])
  · have e : s.euAct .pop = .pop := by simp [euAct_of_running s _ hh hs]
    exact tick_pops s .pop inp (u := s.cleared) (congrArg (acted · s) e) hq
  · have e : s.euAct .popFirst = .popFirst := by simp [euAct_of_running s _ hh hs, hr]
    exact tick_pops s .popFirst inp (u := s.cleared.setNextIsFirst true) (congrArg (acted · s) e) hq
  · obtain ⟨r, hrec, hb, hop, ti, tq, tp, ts, tn, tr, tpe, tf⟩ := tick_waits s a inp (acted_read s a hh hs ha) hq
    have hp : s.biu.pending = none := by
      by_contra hp
      exact absurd ((stalled_iff s.biu).mpr (.inl hp)) (by simp [hs])
    exact ⟨r, hrec, hb, hop, ti, tq, tp, ts, tn, tr, tpe hp, tf⟩
  · exact tick_flushes s _ inp (by simp [euAct_of_running s _ hh hs, hr])
  · have e : s.euAct a = a := by simp [euAct_of_running s _ hh hs, hr]
    obtain ⟨-, -, -, tr, -⟩ := tick_pushes s a inp rfl
    rw [tr, e]
    exact acted_queueRead s a hr h h'

/-- Settles O60: a tick pushes what arrives behind what the action of the EU has left in the queue. -/
theorem queueTicks : Obligations.QueueTicks := ⟨codeFetchEnds, queueStatus⟩

end Sys2Proof.Machine

namespace Sys2Proof.Machine
open Sys2Proof Host

/-! ### Linear addresses (20_memory.md R72) -/

/-- Settles O8: `lin` adds in 20 bits, which `ADDR_BITS` are. -/
theorem linearAddress : Obligations.LinearAddress := by
  intro s sv off
  have h20 : s.cfg.addrBits.bits = 20 := addrBits_bits _
  refine ⟨h20, ?_⟩
  have := sv.isLt
  rw [h20, lin, BitVec.toNat_add, BitVec.toNat_shiftLeft, BitVec.toNat_setWidth, BitVec.toNat_setWidth, Nat.shiftLeft_eq]
  omega

/-! ### Push and pop (20_memory.md R85) -/

section Stack
variable (s : State)

/-- The word that a push has stored in RAM is the one on top of the stack. -/
theorem topWord_push16 (v : Word) (hw : Memory.wf s.mem = true) (h : s.isRam (lin s.seg.ss (s.r16 .sp - 2)))
    (h1 : s.isRam (lin s.seg.ss (s.r16 .sp - 1))) : topWord (push16 v s) = v := by
  obtain ⟨hsp, -, -, hlo, hhi⟩ := push16_pushed s v
  have hnext : s.r16 .sp - 2 + 1 = s.r16 .sp - 1 := by bv_omega
  have hram : ∀ a, s.isRam a → (push16 v s).isRam a := fun a ha => (kindAt_of_cfg (push16_cfg s v) a).trans ha
  rw [hnext] at hhi
  rw [topWord, push16_seg, hsp, readWord_ram _ _ _ _ (hram _ h) (by rw [hnext]; exact hram _ h1), hnext, hlo hw h, hhi hw h1,
    wordOf_halves]

end Stack

/-- Settles O10: SP moves by two around the access, and a push to RAM is undone by a pop. -/
theorem pushAndPop : Obligations.PushAndPop := by
  intro v s
  refine ⟨⟨push16_pushed s v, push16_flags s v, push16_lastEa s v, push16_ip s v, push16_system s v⟩,
    ⟨rfl, ?_, fun r hr => ?_, memKept_of_mem (pop16_mem s), pop16_flags s, pop16_lastEa s, pop16_ip s, pop16_system s⟩,
    readWord_memory s _ _ _, fun hw h h1 => ⟨topWord_push16 s v hw h h1, ?_⟩⟩
  · simp [State.r16]
  · have e : (pop16 s).2.gpr = (s.setR16 .sp (s.r16 .sp + 2)).gpr := pop16_gpr s
    rw [r16_of_gpr e, setR16_r16_ne s .sp r _ (by simpa using hr)]
  · simp [State.r16]

end Sys2Proof.Machine

namespace Sys2Proof.Machine
open Sys2Proof Host

/-! ### Bytes and words (20_memory.md R76 to R82) -/

section Bytes
variable (s : State)

theorem takeDevice_cons {b : Byte} {bs : List Byte} (h : s.devIn = b :: bs) : s.takeDevice = (b, s.setDevIn bs) := by
  simp only [State.takeDevice, h]

theorem fetchData_unmapped {a : BitVec 20} (h : s.kindAt a = .unmapped) : s.fetchData a = (s.cfg.unmappedFill, s) := by
  simp only [State.fetchData, h]

theorem fetchData_device {a : BitVec 20} (h : s.kindAt a = .device) : s.fetchData a = s.takeDevice := by
  simp only [State.fetchData, h]

theorem storeData_of_not_ram {a : BitVec 20} (v : Byte) (h : s.kindAt a ≠ .ram) : s.storeData a v = s := by
  unfold State.storeData
  split
  · next hr => exact absurd hr h
  · rfl
  · rfl
  · rfl

/-- A write to a place that is not RAM changes no memory. -/
theorem writeByte_mem_of_not_ram (acc : Access) (sv off : Word) (v : Byte) (h : s.kindAt (lin sv off) ≠ .ram) :
    (writeByte acc sv off v s).mem = s.mem := by
  have hk : ∀ u : State, u.cfg = s.cfg → u.kindAt (lin sv off) ≠ .ram := fun u hu => by rwa [kindAt_of_cfg hu]
  simp only [writeByte, logBus_mem, State.storeAfter]
  split <;> rw [storeData_of_not_ram _ _ (hk _ (by simp))] <;> simp

theorem readByte_unmapped (acc : Access) {sv off : Word} (h : s.kindAt (lin sv off) = .unmapped) :
    (readByte acc sv off s).1 = s.cfg.unmappedFill := by
  have hk : s.prefetch.kindAt (lin sv off) = .unmapped := (kindAt_of_cfg (prefetch_cfg s) _).trans h
  simp only [readByte, fetchData_unmapped _ hk, prefetch_cfg]

theorem readByte_device (acc : Access) {sv off : Word} {b : Byte} {bs : List Byte} (h : s.kindAt (lin sv off) = .device)
    (hd : s.devIn = b :: bs) : (readByte acc sv off s).1 = b ∧ (readByte acc sv off s).2.devIn = bs := by
  have hk : s.prefetch.kindAt (lin sv off) = .device := (kindAt_of_cfg (prefetch_cfg s) _).trans h
  simp only [readByte, fetchData_device _ hk, takeDevice_cons _ ((prefetch_devIn s).trans hd), logBus_devIn, setDevIn_devIn, and_self]

end Bytes

theorem byteAccess : Claim.ByteAccess := by
  intro acc sv off v s
  have hkept : s.kindAt (lin sv off) ≠ .ram → MemKept s (writeByte acc sv off v s) := fun h =>
    memKept_of_mem (writeByte_mem_of_not_ram s acc sv off v h)
  refine ⟨memKept_of_mem (readByte_mem s acc sv off), writeByte_stored acc sv off v rfl rfl, fun h => ?_, fun h => ⟨?_, ?_⟩,
    fun h => ⟨?_, ?_⟩, fun h => ⟨fun b bs hd => ?_, ?_⟩⟩
  · exact readByte_memory s acc sv off (.inl h)
  · exact readByte_memory s acc sv off (.inr h)
  · exact hkept (by simp [h])
  · exact readByte_unmapped s acc h
  · exact hkept (by simp [h])
  · exact readByte_device s acc h hd
  · exact hkept (by simp [h])

theorem wordAccess : Claim.WordAccess := fun acc sv off v s =>
  ⟨memKept_of_mem (readWord_mem s acc sv off), writeWord_stored acc sv off v rfl rfl, readWord_memory s acc sv off, rfl⟩

section Cycles
variable (s : State)

theorem oneCycle_iff (a : BitVec 20) : s.oneCycle a = true ↔ s.cfg.busWidth = .word ∧ a.toNat % 2 = 0 := by
  rw [State.oneCycle, Bool.and_eq_true, beq_iff_eq, busWidth_word_iff, Bool.not_eq_true', Bool.eq_false_iff, ne_eq,
    getLsbD_zero_iff, Nat.mod_two_not_eq_one]

theorem storeData_shows (a : BitVec 20) (v : Byte) : Shows [] s (s.storeData a v) := .of_bus (storeData_bus s a v)

theorem storeAfter_shows (old : Bool) (a : BitVec 20) (v : Byte) : Shows [] s (s.storeAfter old a v) := by
  unfold State.storeAfter
  split
  · exact (fetchUpTo_fetched s a).shows.trans (storeData_shows _ a v)
  · exact storeData_shows s a v

theorem storePair_shows (a b : BitVec 20) (v w : Byte) : Shows [] s (s.storePair a b v w) := by
  have hd : Shows [] s ((s.drawOld a).2.drawOld b).2 := (drawOld_fetched s a).shows.trans (drawOld_fetched _ b).shows
  unfold State.storePair
  dsimp only
  split
  · exact (hd.trans (storeAfter_shows _ _ b w)).trans (storeAfter_shows _ _ a v)
  · exact (hd.trans (storeAfter_shows _ _ a v)).trans (storeAfter_shows _ _ b w)

theorem writeByte_shows (acc : Access) (sv off : Word) (v : Byte) :
    Shows [.memWrite acc (lin sv off) false (zext16 v)] s (writeByte acc sv off v s) :=
  (((prefetch_fetched s).shows.trans (drawOld_fetched _ _).shows).trans (storeAfter_shows _ _ _ v)).trans (logBus_shows _ rfl)

/-- A word is written in one bus operation or in two, the low byte's first (20_memory.md R81, R82). -/
theorem writeWord_shows (acc : Access) (sv off v : Word) :
    Shows (s.wordWrites acc sv off v) s (writeWord acc sv off v s) := by
  by_cases hc : s.oneCycle (lin sv off) = true
  · rw [State.wordWrites, if_pos hc, writeWord, if_pos hc]
    exact ((prefetch_fetched s).shows.trans (storePair_shows _ _ _ _ _)).trans (logBus_shows _ rfl)
  · rw [State.wordWrites, if_neg hc, writeWord, if_neg hc]
    exact (writeByte_shows s acc sv off _).trans (writeByte_shows _ acc sv (off + 1) _)

end Cycles

theorem wordCycles : Claim.WordCycles := by
  intro acc sv off v s
  have hr := readWord_shows s acc sv off
  have hw := writeWord_shows s acc sv off v
  refine ⟨oneCycle_iff s _, fun h => ?_, fun h => ⟨⟨_, _, (wordOf_halves _).symm, ?_⟩, ?_⟩, readByte_shows s acc sv off,
    writeByte_shows s acc sv off _⟩
  · rw [State.wordReads, if_pos h] at hr
    rw [State.wordWrites, if_pos h] at hw
    exact ⟨hr, hw⟩
  · rwa [State.wordReads, if_neg (by simp [h])] at hr
  · rwa [State.wordWrites, if_neg (by simp [h])] at hw

end Sys2Proof.Machine

namespace Sys2Proof.Machine
open Sys2Proof Host

/-! ### What code fetches bring (21_prefetch_queue.md R112, 20_memory.md R98, logs 9, 46) -/

/-- Bytes that follow those of the queue are the ones that memory holds at their places in the code, where memory holds any. -/
def State.FromMemory (s : State) (l : List Byte) : Prop :=
  ∀ k b off, l[k]? = some b → off = s.pc + BitVec.ofNat 16 k → s.isMemory (s.codeAddr off) → b = s.byteAt (s.codeAddr off)

/-- Only code fetches have been made: they do not stop fetching, and when none is in `T2` to `T4`, whose address is latched already,
what they bring is what memory holds at its place in the code. -/
structure CodeFetched (s t : State) : Prop where
  fetched : Fetched s t
  running : s.biu.fetchState ≠ .halted → t.biu.fetchState ≠ .halted
  settled : s.biu.inFlight = 0 → t.biu.inFlight = 0
  bytes : s.biu.inFlight = 0 → ∃ l, QueueGrew l s t ∧ s.FromMemory l

section Frame
variable {s t : State}

theorem codeSeg_of_eq (hs : t.stale = s.stale) (hy : t.system = s.system) (off : Word) : t.codeSeg off = s.codeSeg off := by
  have hseg : t.seg = s.seg := congrArg System.seg hy
  have hsteps : t.steps = s.steps := congrArg System.steps hy
  simp only [State.codeSeg, hs, hseg, hsteps]

theorem codeAddr_of_eq (hs : t.stale = s.stale) (hy : t.system = s.system) (off : Word) : t.codeAddr off = s.codeAddr off := by
  rw [State.codeAddr, codeSeg_of_eq hs hy, State.codeAddr]

theorem isMemory_of_cfg (h : t.cfg = s.cfg) (a : BitVec 20) : t.isMemory a ↔ s.isMemory a := by
  simp only [State.isMemory, kindAt_of_cfg h]

theorem QueueGrew.refl (hq : t.queue = s.queue) (hp : t.pc = s.pc) : QueueGrew [] s t := ⟨by simp [hq], by simp [hp]⟩

theorem QueueGrew.trans {u : State} {l k : List Byte} (h : QueueGrew l s t) (g : QueueGrew k t u) : QueueGrew (l ++ k) s u :=
  ⟨by rw [g.1, h.1, List.append_assoc], by rw [g.2, h.2, List.length_append, BitVec.ofNat_add, BitVec.add_assoc]⟩

/-- A byte of two successive fetches is one of the first or one of the second. -/
theorem getElem?_append_cases {l k : List Byte} {i : Nat} {b : Byte} (h : (l ++ k)[i]? = some b) :
    l[i]? = some b ∨ ∃ j, i = l.length + j ∧ k[j]? = some b := by
  by_cases hi : i < l.length
  · exact .inl (by rwa [List.getElem?_append_left hi] at h)
  · rw [List.getElem?_append_right (by omega)] at h
    exact .inr ⟨i - l.length, by omega, h⟩

theorem pc_add_of_grew {l : List Byte} (h : QueueGrew l s t) (j : Nat) :
    s.pc + BitVec.ofNat 16 (l.length + j) = t.pc + BitVec.ofNat 16 j := by
  rw [h.2, BitVec.ofNat_add, BitVec.add_assoc]

theorem fromMemory_nil : s.FromMemory [] := nofun

end Frame

section Fetches
variable {s t u : State}

theorem CodeFetched.of_nothing (h : Fetched s t) (hf : s.biu.fetchState ≠ .halted → t.biu.fetchState ≠ .halted)
    (hi : s.biu.inFlight = 0 → t.biu.inFlight = 0) (hq : s.biu.inFlight = 0 → t.queue = s.queue ∧ t.pc = s.pc) : CodeFetched s t :=
  ⟨h, hf, hi, fun h0 => ⟨[], .refl (hq h0).1 (hq h0).2, fromMemory_nil⟩⟩

theorem CodeFetched.refl (s : State) : CodeFetched s s := .of_nothing (.refl s) id id fun _ => ⟨rfl, rfl⟩

theorem CodeFetched.trans (h : CodeFetched s t) (g : CodeFetched t u) : CodeFetched s u where
  fetched := h.fetched.trans g.fetched
  running hs := g.running (h.running hs)
  settled hs := g.settled (h.settled hs)
  bytes hs := by
    obtain ⟨l, hl, hm⟩ := h.bytes hs
    obtain ⟨k, hk, gm⟩ := g.bytes (h.settled hs)
    refine ⟨l ++ k, hl.trans hk, fun i b off hb ho ha => ?_⟩
    rcases getElem?_append_cases hb with hb' | ⟨j, rfl, hb'⟩
    · exact hm i b off hb' ho ha
    · have hcode := codeAddr_of_eq h.fetched.stale h.fetched.system off
      rw [← hcode, ← byteAt_of_mem h.fetched.mem]
      rw [← hcode, ← isMemory_of_cfg h.fetched.cfg] at ha
      exact gm j b off hb' (ho.trans (pc_add_of_grew hl j)) ha

variable (s)

/-- What a fetch pushes: each byte from its own place in the code. -/
theorem fetchNow_busBytes (wide : Bool) : busBytes wide (s.fetchesHigh (s.codeAddr s.pc)) (s.codeAhead wide) =
    if wide then [s.codeByte (s.codeAddr s.pc), s.codeByte (s.codeAddr (s.pc + 1))] else [s.codeByte (s.codeAddr s.pc)] := by
  cases wide with
  | true => simp only [busBytes, State.codeAhead, if_true, wordBytes, loByte_wordOf, hiByte_wordOf]
  | false =>
    simp only [busBytes, State.codeAhead, State.codeWord, Bool.false_eq_true, if_false]
    split
    · rw [hiByte_wordOf]
    · rw [loByte_zext16]

theorem fetchNow_grew (wide : Bool) : QueueGrew (if wide then [s.codeByte (s.codeAddr s.pc), s.codeByte (s.codeAddr (s.pc + 1))]
    else [s.codeByte (s.codeAddr s.pc)]) s (s.fetchNow wide) := by
  rw [← fetchNow_busBytes]
  exact ⟨rfl, rfl⟩

theorem fetchNow_fromMemory (wide : Bool) : s.FromMemory (if wide then [s.codeByte (s.codeAddr s.pc),
    s.codeByte (s.codeAddr (s.pc + 1))] else [s.codeByte (s.codeAddr s.pc)]) := by
  intro k b off hb ho ha
  have hoff : b = s.codeByte (s.codeAddr off) := by
    subst ho
    cases wide <;> rcases k with _ | _ | k <;> simp_all
  rw [hoff, codeByte_memory s ha]

theorem syncFetchState_ne_halted (room : Bool) {f : FetchState} (h : f ≠ .halted) : syncFetchState room f ≠ .halted := by
  cases f <;> cases room <;> simp_all [syncFetchState]

theorem pushBytes_running (bs : List Byte) (h : s.biu.fetchState ≠ .halted) : (s.pushBytes bs).biu.fetchState ≠ .halted :=
  syncFetchState_ne_halted _ h

theorem dropPrepared_fetchState (b : Biu) : b.dropPrepared.fetchState = b.fetchState := by
  unfold Biu.dropPrepared Biu.dropAddressCycle
  dsimp only
  split
  · split <;> rfl
  · rfl

theorem fetchNow_codeFetched (wide : Bool) : CodeFetched s (s.fetchNow wide) where
  fetched := fetchNow_fetched s wide
  running h := pushBytes_running _ _ (by
    show s.biu.dropPrepared.fetchState ≠ .halted
    rwa [dropPrepared_fetchState])
  settled h := Nat.le_zero.mp (h ▸ dropPrepared_inFlight s.biu)
  bytes _ := ⟨_, fetchNow_grew s wide, fetchNow_fromMemory s wide⟩

theorem endFetch_running (c : BusCycle) (w : Word) (h : s.biu.fetchState ≠ .halted) :
    (s.endFetch c w).biu.fetchState ≠ .halted := by
  unfold State.endFetch
  dsimp only
  split
  · exact h
  · exact pushBytes_running _ _ h

/-- The fetch that comes to its end has been discarded, unless it was still to bring something. -/
theorem endFetch_discarded {c : BusCycle} (w : Word) (hc : c.discard = true) : s.endFetch c w = s.setBiu s.biu.endFetch := by
  simp only [State.endFetch, hc, if_true]

theorem discard_of_inFlight {b : Biu} {c : BusCycle} (h : b.inFlight = 0) (hc : b.cycle = some c) (hb : b.busState = .codeFetch) :
    c.discard = true := by
  by_contra hd
  have e := inFlight_of_fetch hc hb (Bool.eq_false_iff.mpr hd)
  rw [h] at e
  split at e <;> contradiction

theorem completeCycle_codeFetched : CodeFetched s s.completeCycle := by
  refine .of_nothing (completeCycle_fetched s) (fun h => ?_) (fun _ => completeCycle_inFlight s) fun h => ?_
  · unfold State.completeCycle
    split
    · exact h
    · split
      · split
        · exact endFetch_running _ _ _ h
        · exact endFetch_running _ _ _ h
      · exact h
  · unfold State.completeCycle
    split
    · exact ⟨rfl, rfl⟩
    · next c hc =>
      split
      · next hb =>
        have hd := discard_of_inFlight h hc hb
        split <;> rw [endFetch_discarded _ _ hd] <;> exact ⟨rfl, rfl⟩
      · exact ⟨rfl, rfl⟩

theorem completeFetch_codeFetched : CodeFetched s s.completeFetch := by
  unfold State.completeFetch
  dsimp only
  split
  · exact (completeCycle_codeFetched s).trans (fetchNow_codeFetched _ _)
  · exact completeCycle_codeFetched s

theorem fillOnce_codeFetched : CodeFetched s s.fillOnce := by
  unfold State.fillOnce
  split
  · exact fetchNow_codeFetched s _
  · exact .refl s

theorem fillMany_codeFetched (n : Nat) : CodeFetched s (State.fillMany n s) := by
  induction n generalizing s with
  | zero => exact .refl s
  | succ n ih => exact (fillOnce_codeFetched s).trans (ih _)

theorem setFetch_codeFetched {f : FetchState} (h : s.biu.fetchState ≠ .halted → f ≠ .halted) : CodeFetched s (s.setFetch f) :=
  .of_nothing (setFetch_fetched s f) h id fun _ => ⟨rfl, rfl⟩

theorem syncFetch_codeFetched : CodeFetched s s.syncFetch := setFetch_codeFetched s (syncFetchState_ne_halted _)

theorem elapseDelay_codeFetched : CodeFetched s s.elapseDelay := by
  unfold State.elapseDelay
  split
  · exact (setFetch_codeFetched s (f := .normal) nofun).trans (syncFetch_codeFetched _)
  all_goals exact .refl s

theorem fillBy_codeFetched (n : Nat) : CodeFetched s (State.fillBy n s) := by
  cases n with
  | zero => exact .refl s
  | succ n => exact ((completeFetch_codeFetched s).trans (elapseDelay_codeFetched _)).trans (fillMany_codeFetched _ _)

theorem prefetch_codeFetched : CodeFetched s s.prefetch := by
  unfold State.prefetch
  split
  · exact .refl s
  · next n ns _ =>
    exact (CodeFetched.of_nothing (fetched_setFills s ns) id id fun _ => ⟨rfl, rfl⟩).trans (fillBy_codeFetched _ n)

theorem fetchAhead_codeFetched : CodeFetched s s.fetchAhead := by
  unfold State.fetchAhead
  split
  · exact fetchNow_codeFetched s _
  · exact .refl s

theorem fetchThrough_codeFetched (n k : Nat) : CodeFetched s (State.fetchThrough n k s) := by
  induction n generalizing s with
  | zero => exact .refl s
  | succ n ih =>
    unfold State.fetchThrough
    split
    · exact .refl s
    · exact (fetchAhead_codeFetched s).trans (ih _)

theorem fetchUpTo_codeFetched (a : BitVec 20) : CodeFetched s (s.fetchUpTo a) := by
  unfold State.fetchUpTo
  split
  · exact ((completeFetch_codeFetched s).trans (elapseDelay_codeFetched _)).trans (fetchThrough_codeFetched _ _ _)
  · exact .refl s

theorem drawOld_codeFetched (a : BitVec 20) : CodeFetched s (s.drawOld a).2 := by
  unfold State.drawOld
  split
  · split
    · exact .refl s
    · exact .of_nothing (fetched_bumpDraws s) id id fun _ => ⟨rfl, rfl⟩
  · exact .refl s

end Fetches

end Sys2Proof.Machine

namespace Sys2Proof.Machine
open Sys2Proof Host

/-! ### A store and the code that follows it (20_memory.md R98, log 9) -/

/-- Code fetches and stores, each address of a list stored to once: what was fetched at a place in the code is what memory held there
before or after. -/
structure CodeStored (A : List (BitVec 20)) (s t : State) : Prop where
  stale : t.stale = s.stale
  system : t.system = s.system
  mem : MemKeptBut A s t
  settled : t.biu.inFlight = 0
  bytes : ∃ l, QueueGrew l s t ∧ ∀ k b off, l[k]? = some b → off = s.pc + BitVec.ofNat 16 k →
    s.isMemory (s.codeAddr off) → b = s.byteAt (s.codeAddr off) ∨ b = t.byteAt (s.codeAddr off)

section Stores
variable {s t u : State} {A B : List (BitVec 20)}

theorem CodeFetched.codeStored (h : CodeFetched s t) (hi : s.biu.inFlight = 0) : CodeStored [] s t where
  stale := h.fetched.stale
  system := h.fetched.system
  mem a _ := byteAt_of_mem h.fetched.mem a
  settled := h.settled hi
  bytes := (h.bytes hi).imp fun _ hl => ⟨hl.1, fun k b off hb ho ha => .inl (hl.2 k b off hb ho ha)⟩

/-- A store itself fetches nothing. -/
theorem CodeStored.of_store (hs : t.stale = s.stale) (hy : t.system = s.system) (hm : MemKeptBut A s t) (hb : t.biu = s.biu)
    (hq : t.queue = s.queue) (hp : t.pc = s.pc) (hi : s.biu.inFlight = 0) : CodeStored A s t :=
  ⟨hs, hy, hm, by rw [hb, hi], [], .refl hq hp, nofun⟩

theorem CodeStored.trans (h : CodeStored A s t) (g : CodeStored B t u) (hAB : ∀ a ∈ A, a ∉ B) : CodeStored (A ++ B) s u where
  stale := g.stale.trans h.stale
  system := g.system.trans h.system
  mem a ha := by
    obtain ⟨hA, hB⟩ := not_or.mp (fun e => ha (List.mem_append.mpr e))
    exact (g.mem a hB).trans (h.mem a hA)
  settled := g.settled
  bytes := by
    obtain ⟨l, hl, hm⟩ := h.bytes
    obtain ⟨k, hk, gm⟩ := g.bytes
    have honce (a : BitVec 20) : t.byteAt a = s.byteAt a ∨ t.byteAt a = u.byteAt a := by
      by_cases hA : a ∈ A
      · exact .inr (g.mem a (hAB a hA)).symm
      · exact .inl (h.mem a hA)
    refine ⟨l ++ k, hl.trans hk, fun i b off hb ho ha => ?_⟩
    rcases getElem?_append_cases hb with hb' | ⟨j, rfl, hb'⟩
    · rcases hm i b off hb' ho ha with e | e
      · exact .inl e
      · rw [e]
        exact honce _
    · have hcode := codeAddr_of_eq h.stale h.system off
      rw [← hcode] at ha ⊢
      have ha' := (isMemory_of_cfg (congrArg System.cfg h.system) _).mpr ha
      rcases gm j b off hb' (ho.trans (pc_add_of_grew hl j)) ha' with e | e
      · rw [e]
        exact honce _
      · exact .inr e

variable (s)

theorem storeData_codeStored (a : BitVec 20) (v : Byte) (hi : s.biu.inFlight = 0) : CodeStored [a] s (s.storeData a v) :=
  .of_store (storeData_stale ..) (storeData_system ..) (fun b hb => storeData_byteAt_ne s a b v (by simpa using hb))
    (storeData_biu ..) (storeData_queue ..) (storeData_pc ..) hi

theorem storeAfter_codeStored (old : Bool) (a : BitVec 20) (v : Byte) (hi : s.biu.inFlight = 0) :
    CodeStored [a] s (s.storeAfter old a v) := by
  unfold State.storeAfter
  split
  · have h := (fetchUpTo_codeFetched s a).codeStored hi
    exact h.trans (storeData_codeStored _ a v h.settled) (by simp)
  · exact storeData_codeStored s a v hi

theorem storePair_codeStored (a b : BitVec 20) (v w : Byte) (hab : a ≠ b) (hi : s.biu.inFlight = 0) :
    CodeStored [a, b] s (s.storePair a b v w) := by
  have hd := ((drawOld_codeFetched s a).trans (drawOld_codeFetched _ b)).codeStored hi
  unfold State.storePair
  dsimp only
  split
  · have hb := storeAfter_codeStored _ false b w hd.settled
    have h := (hd.trans hb (by simp)).trans (storeAfter_codeStored _ true a v hb.settled) (by simpa using hab.symm)
    exact ⟨h.stale, h.system, fun c hc => h.mem c (by simpa [or_comm, and_comm] using hc), h.settled, h.bytes⟩
  · have ha := storeAfter_codeStored _ (s.drawOld a).1 a v hd.settled
    exact (hd.trans ha (by simp)).trans (storeAfter_codeStored _ _ b w ha.settled) (by simpa using hab)

theorem logBus_codeStored (e : BusEvent) (hi : s.biu.inFlight = 0) : CodeStored [] s (s.logBus e) :=
  .of_store rfl rfl (fun _ _ => rfl) rfl rfl rfl hi

theorem writeByte_codeStored (acc : Access) (sv off : Word) (v : Byte) (hi : s.biu.inFlight = 0) :
    CodeStored [lin sv off] s (writeByte acc sv off v s) := by
  have hd := ((prefetch_codeFetched s).trans (drawOld_codeFetched _ (lin sv off))).codeStored hi
  have ha := hd.trans (storeAfter_codeStored _ (s.prefetch.drawOld (lin sv off)).1 (lin sv off) v hd.settled) (by simp)
  exact ha.trans (logBus_codeStored _ _ ha.settled) (by simp)

theorem writeWord_codeStored (acc : Access) (sv off v : Word) (hi : s.biu.inFlight = 0) :
    CodeStored [lin sv off, lin sv (off + 1)] s (writeWord acc sv off v s) := by
  have hne := (lin_succ_ne sv off).symm
  unfold writeWord
  split
  · have hp := (prefetch_codeFetched s).codeStored hi
    have ha := hp.trans (storePair_codeStored _ _ _ (loByte v) (hiByte v) hne hp.settled) (by simp)
    exact ha.trans (logBus_codeStored _ _ ha.settled) (by simp)
  · have hlo := writeByte_codeStored s acc sv off (loByte v) hi
    exact hlo.trans (writeByte_codeStored _ acc sv (off + 1) (hiByte v) hlo.settled) (by simpa using hne)

end Stores

theorem storeAndCode : Claim.StoreAndCode := by
  intro acc sv off v s hi
  simp only [List.forall_mem_cons, List.not_mem_nil, false_imp_iff, implies_true, and_true]
  exact ⟨(writeByte_codeStored s acc sv off (loByte v) hi).bytes, (writeWord_codeStored s acc sv off v hi).bytes⟩

/-- Settles O9: the accesses by kind of memory, their bus cycles, and the code fetched around a store. -/
theorem memoryAccess : Obligations.MemoryAccess := ⟨byteAccess, wordAccess, wordCycles, storeAndCode⟩

end Sys2Proof.Machine

namespace Sys2Proof.Machine
open Sys2Proof Host

/-! ### Six bytes hold an instruction (30_encoding.md R190, R204) -/

section Decoder

/-- The bytes have decoded to an instruction. -/
def Decodes (r : DecodeResult) : Prop := ∃ i rest, r = .ok i rest

theorem decodes_ok (i : Instr) (rest : List Byte) : Decodes (.ok i rest) := ⟨i, rest, rfl⟩

/-- A list of at least `n + 1` bytes begins with one. -/
theorem exists_cons_of_le {n : Nat} {bs : List Byte} (h : n + 1 ≤ bs.length) : ∃ b tl, bs = b :: tl ∧ n ≤ tl.length := by
  cases bs with
  | nil => simp at h
  | cons b tl => exact ⟨b, tl, rfl, by simpa using h⟩

/-- ModR/M and displacement are read from at most three bytes. -/
theorem readRM_of_le {n : Nat} {bs : List Byte} (h : n + 3 ≤ bs.length) :
    ∃ reg rm rest, readRM bs = some (reg, rm, rest) ∧ n ≤ rest.length := by
  obtain ⟨x, bs, rfl, h1⟩ := exists_cons_of_le (n := n + 2) h
  obtain ⟨lo, bs, rfl, h2⟩ := exists_cons_of_le h1
  obtain ⟨hi, bs, rfl, h3⟩ := exists_cons_of_le h2
  unfold readRM
  dsimp only
  split
  · next heq =>
    split
    · exact ⟨_, _, _, rfl, h3⟩
    · exact ⟨_, _, _, rfl, by simp only [List.length_cons]; omega⟩
  · next heq =>
    cases heq
    exact ⟨_, _, _, rfl, by simp only [List.length_cons]; omega⟩
  · next heq => cases heq
  · next heq =>
    cases heq
    exact ⟨_, _, _, rfl, h3⟩
  · next heq => cases heq
  · next heq => cases heq
  · exact ⟨_, _, _, rfl, by simp only [List.length_cons]; omega⟩

variable (b : Byte) {bs : List Byte}

/-- The 8088/8086 decoder needs at most five bytes after the opcode. -/
theorem decodeIntel_decodes (h : 5 ≤ bs.length) : Decodes (decodeIntel b bs) := by
  obtain ⟨reg, rm, rest, hrm, hrest⟩ := readRM_of_le (n := 2) h
  obtain ⟨r0, rest, rfl, hrest1⟩ := exists_cons_of_le hrest
  obtain ⟨r1, rest, rfl, -⟩ := exists_cons_of_le hrest1
  obtain ⟨x0, bs, rfl, h1⟩ := exists_cons_of_le h
  obtain ⟨x1, bs, rfl, h2⟩ := exists_cons_of_le h1
  obtain ⟨x2, bs, rfl, h3⟩ := exists_cons_of_le h2
  obtain ⟨x3, bs, rfl, -⟩ := exists_cons_of_le h3
  simp only [decodeIntel, decodeRow0, decodeRow1, decodeRow2, decodeRow3, decodeRow4, decodeRow5, decodeRow6, decodeRow7,
    decodeRow8, decodeRow9, decodeRowA, decodeRowB, decodeRowC, decodeRowD, decodeRowE, decodeRowF, withRM, hrm, withByte, withWord]
  repeat' split
  all_goals exact decodes_ok _ _

/-- The bytes after `0F`. -/
theorem decodeExt_decodes (h : 4 ≤ bs.length) : Decodes (decodeExt b bs) := by
  obtain ⟨reg, rm, rest, hrm, hrest⟩ := readRM_of_le (n := 1) h
  obtain ⟨r0, rest, rfl, -⟩ := exists_cons_of_le hrest
  obtain ⟨x0, bs, rfl, -⟩ := exists_cons_of_le h
  simp only [decodeExt, withRM, hrm, withByte]
  split <;> exact decodes_ok _ _

/-- The V20/V30 decoder needs as many: its rows of its own, or those of the 8088/8086. -/
theorem decodeNec_decodes (h : 5 ≤ bs.length) : Decodes (decodeNec b bs) := by
  have hintel := decodeIntel_decodes b h
  obtain ⟨reg, rm, rest, hrm, hrest⟩ := readRM_of_le (n := 2) h
  obtain ⟨r0, rest, rfl, hrest1⟩ := exists_cons_of_le hrest
  obtain ⟨r1, rest, rfl, -⟩ := exists_cons_of_le hrest1
  obtain ⟨x0, bs, rfl, h1⟩ := exists_cons_of_le h
  have hext := decodeExt_decodes x0 h1
  obtain ⟨x1, bs, rfl, h2⟩ := exists_cons_of_le h1
  obtain ⟨x2, bs, rfl, -⟩ := exists_cons_of_le h2
  simp only [decodeNec, withRM, hrm, withByte, withWord]
  split
  case h_1 => exact hext
  case h_33 => exact hintel
  all_goals repeat' split
  all_goals exact decodes_ok _ _

end Decoder

/-- Six bytes decode on every CPU. -/
theorem decodeTotal : Claim.DecodeTotal := by
  intro cpu bs h
  obtain ⟨b, bs, rfl, h5⟩ := exists_cons_of_le (n := 5) h
  simp only [decode, withByte]
  split
  · exact decodeNec_decodes b h5
  · exact decodeIntel_decodes b h5

/-! ### No step meets a fault (20_memory.md R78, 30_encoding.md R204) -/

/-- The outcome is not a fault. -/
def NoFault (o : Outcome State Fault Refusal) : Prop := ∀ f, o ≠ .fault f

theorem noFault_next (s : State) : NoFault (.next s) := nofun

theorem exec_noFault (i : Instr) (s : State) : NoFault (exec i s) := by
  cases i <;> exact nofun

theorem finish_noFault {more : State → Outcome State Fault Refusal} (hm : ∀ t, NoFault (more t))
    {o : Outcome State Fault Refusal} (h : NoFault o) : NoFault (finish more o) := by
  cases o with
  | next t =>
    unfold finish
    dsimp only
    split
    · exact noFault_next _
    · split
      · exact hm t
      · exact noFault_next t
  | fault f => exact absurd rfl (h f)
  | refused r => exact nofun

/-- The window always decodes, so fetching meets no fault. -/
theorem fetchExec_noFault (n : Nat) (s : State) : NoFault (fetchExec n s) := by
  induction n generalizing s with
  | zero => exact noFault_next s
  | succ n ih =>
    obtain ⟨i, rest, hd⟩ := decodeTotal s.cfg.cpu s.window (by simp [State.window])
    simp only [fetchExec, hd]
    exact finish_noFault ih (exec_noFault i _)

theorem runNext_noFault (s : State) : NoFault (runNext s) := by
  unfold runNext
  split
  · exact noFault_next _
  · dsimp only
    split
    · exact finish_noFault noFault_next (exec_noFault _ _)
    · exact fetchExec_noFault prefixLimit _

theorem euStep_noFault (s : State) : NoFault (euStep s) := by
  unfold euStep
  dsimp only
  split
  · exact noFault_next _
  · split
    · exact noFault_next _
    · exact runNext_noFault _

theorem runEvent_noFault (e : Event) (s : State) : NoFault (runEvent e s) := by
  cases e with
  | eu => exact euStep_noFault s
  | _ => exact noFault_next _

theorem step_noFault (s : State) : NoFault (step s) := by
  unfold step runStep
  split
  · exact euStep_noFault s
  · exact runEvent_noFault _ _

/-- Settles O22: no step meets a fault, by induction on the number of steps. -/
theorem runsNeverFault : Obligations.RunsNeverFault := by
  intro n
  induction n with
  | zero => exact noFault_next
  | succ n ih =>
    intro s
    simp only [SafeRun, Host.Core.run]
    cases h : core.step s with
    | next t => exact ih t
    | fault f => exact absurd h (step_noFault s f)
    | refused r => exact nofun

end Sys2Proof.Machine

namespace Sys2Proof.Machine
open Sys2Proof Host

/-! ### Ports (20_memory.md R83) -/

section Ports
variable (s : State) (port : Word)

theorem ioReadByte_shows : Shows [.ioRead port (ioReadByte port s).1] s (ioReadByte port s).2 :=
  ((prefetch_fetched s).shows.trans (.of_bus (takeDevice_bus _))).trans (logBus_shows _ rfl)

/-- A word is read as two bytes, the low one first. -/
theorem ioReadWord_shows : Shows [.ioRead (port + 1) (hiByte (ioReadWord port s).1), .ioRead port (loByte (ioReadWord port s).1)] s
    (ioReadWord port s).2 := by
  have h := (ioReadByte_shows s port).trans (ioReadByte_shows (ioReadByte port s).2 (port + 1))
  rw [ioReadWord, loByte_wordOf, hiByte_wordOf]
  exact h

theorem ioWriteByte_shows (v : Byte) : Shows [.ioWrite port v] s (ioWriteByte port v s) :=
  (prefetch_fetched s).shows.trans (logBus_shows _ rfl)

/-- A word is written as two bytes, the low one first. -/
theorem ioWriteWord_shows (v : Word) :
    Shows [.ioWrite (port + 1) (hiByte v), .ioWrite port (loByte v)] s (ioWriteWord port v s) :=
  (ioWriteByte_shows s port _).trans (ioWriteByte_shows _ (port + 1) _)

/-- A port answers with the next byte of the environment. -/
theorem ioReadByte_cons {a : Byte} {rest : List Byte} (h : s.devIn = a :: rest) :
    (ioReadByte port s).1 = a ∧ (ioReadByte port s).2.devIn = rest := by
  simp only [ioReadByte, takeDevice_cons _ ((prefetch_devIn s).trans h), logBus_devIn, setDevIn_devIn, and_self]

theorem ioReadWord_cons {a b : Byte} {rest : List Byte} (h : s.devIn = a :: b :: rest) :
    (ioReadWord port s).1 = wordOf a b ∧ (ioReadWord port s).2.devIn = rest := by
  obtain ⟨hlo, hd⟩ := ioReadByte_cons s port h
  obtain ⟨hhi, hd'⟩ := ioReadByte_cons _ (port + 1) hd
  exact ⟨by rw [ioReadWord, hlo, hhi], hd'⟩

end Ports

/-- Flags that are as before are so outside any mask. -/
theorem flagsKeptBut_of_eq {s t : State} (mask : Word) (h : t.flags = s.flags) : FlagsKeptBut mask s t := by
  rw [FlagsKeptBut, h]

theorem r8_al (s : State) : s.r8 .al = loByte (s.r16 .ax) := rfl
theorem r8_ah (s : State) : s.r8 .ah = hiByte (s.r16 .ax) := rfl

section InOut
variable (s : State) (port : Word)

/-- IN of a byte writes AL and nothing else. -/
theorem inByte_effect : OnlyRegs [.ax] 0 s (inByte port s) ∧ (inByte port s).r8 .ah = s.r8 .ah ∧
    (inByte port s).lastEa = s.lastEa ∧ Shows [.ioRead port ((inByte port s).r8 .al)] s (inByte port s) ∧
    ∀ a rest, s.devIn = a :: rest → (inByte port s).r8 .al = a ∧ (inByte port s).devIn = rest := by
  have hal : (inByte port s).r8 .al = (ioReadByte port s).1 := setR8_r8_same _ .al _
  obtain ⟨-, hother, hregs⟩ := setR8_written .al (ioReadByte port s).1 (ioReadByte_gpr s port)
  refine ⟨⟨hregs, flagsKeptBut_of_eq 0 (ioReadByte_flags s port), memKept_of_mem (ioReadByte_mem s port),
    ioReadByte_ip s port, ioReadByte_system s port⟩, hother .ah (by decide), ioReadByte_lastEa s port, ?_, fun a rest h => ?_⟩
  · rw [hal]
    exact ioReadByte_shows s port
  · rw [hal]
    exact ioReadByte_cons s port h

/-- IN of a word writes AX and nothing else. -/
theorem inWord_effect : OnlyRegs [.ax] 0 s (inWord port s) ∧ (inWord port s).lastEa = s.lastEa ∧
    Shows [.ioRead (port + 1) ((inWord port s).r8 .ah), .ioRead port ((inWord port s).r8 .al)] s (inWord port s) ∧
    ∀ a b rest, s.devIn = a :: b :: rest →
      (inWord port s).r8 .al = a ∧ (inWord port s).r8 .ah = b ∧ (inWord port s).devIn = rest := by
  have hax : (inWord port s).r16 .ax = (ioReadWord port s).1 := setR16_r16_same _ .ax _
  obtain ⟨-, hregs⟩ := setR16_written .ax (ioReadWord port s).1 (ioReadWord_gpr s port)
  rw [r8_al, r8_ah, hax]
  refine ⟨⟨hregs, flagsKeptBut_of_eq 0 (ioReadWord_flags s port), memKept_of_mem (ioReadWord_mem s port),
    ioReadWord_ip s port, ioReadWord_system s port⟩, ioReadWord_lastEa s port, ioReadWord_shows s port, fun a b rest h => ?_⟩
  obtain ⟨hv, hd⟩ := ioReadWord_cons s port h
  exact ⟨by rw [hv, loByte_wordOf], by rw [hv, hiByte_wordOf], hd⟩

/-- OUT of a byte writes the port and nothing else. -/
theorem ioWriteByte_effect (v : Byte) : NothingWritten s (ioWriteByte port v s) ∧ (ioWriteByte port v s).flags = s.flags ∧
    (ioWriteByte port v s).lastEa = s.lastEa ∧ (ioWriteByte port v s).eaOpr = s.eaOpr ∧ (ioWriteByte port v s).devIn = s.devIn ∧
    Ordinary s (ioWriteByte port v s) ∧ Shows [.ioWrite port v] s (ioWriteByte port v s) :=
  ⟨⟨ioWriteByte_gpr s port v, memKept_of_mem (ioWriteByte_mem s port v)⟩, ioWriteByte_flags s port v, ioWriteByte_lastEa s port v,
    ioWriteByte_eaOpr s port v, ioWriteByte_devIn s port v, ⟨ioWriteByte_ip s port v, ioWriteByte_system s port v⟩,
    ioWriteByte_shows s port v⟩

/-- OUT of a word writes the two ports and nothing else. -/
theorem ioWriteWord_effect (v : Word) : NothingWritten s (ioWriteWord port v s) ∧ (ioWriteWord port v s).flags = s.flags ∧
    (ioWriteWord port v s).lastEa = s.lastEa ∧ (ioWriteWord port v s).eaOpr = s.eaOpr ∧ (ioWriteWord port v s).devIn = s.devIn ∧
    Ordinary s (ioWriteWord port v s) ∧
    Shows [.ioWrite (port + 1) (hiByte v), .ioWrite port (loByte v)] s (ioWriteWord port v s) :=
  ⟨⟨ioWriteWord_gpr s port v, memKept_of_mem (ioWriteWord_mem s port v)⟩, ioWriteWord_flags s port v, ioWriteWord_lastEa s port v,
    ioWriteWord_eaOpr s port v, ioWriteWord_devIn s port v, ⟨ioWriteWord_ip s port v, ioWriteWord_system s port v⟩,
    ioWriteWord_shows s port v⟩

end InOut

theorem input : Claim.Input := by
  refine ⟨?_, ?_⟩
  · rintro i port s (⟨b, rfl, rfl⟩ | ⟨rfl, rfl⟩) <;> exact ⟨_, rfl, inByte_effect s _⟩
  · rintro i port s (⟨b, rfl, rfl⟩ | ⟨rfl, rfl⟩) <;> exact ⟨_, rfl, inWord_effect s _⟩

theorem output : Claim.Output := by
  refine ⟨?_, ?_⟩
  · rintro i port s (⟨b, rfl, rfl⟩ | ⟨rfl, rfl⟩) <;> exact ⟨_, rfl, ioWriteByte_effect s _ _⟩
  · rintro i port s (⟨b, rfl, rfl⟩ | ⟨rfl, rfl⟩) <;> exact ⟨_, rfl, ioWriteWord_effect s _ _⟩

/-- Settles O40: IN and OUT are their port accesses, and IN writes the accumulator. -/
theorem inputOutput : Obligations.InputOutput := ⟨input, output⟩

end Sys2Proof.Machine

namespace Sys2Proof.Machine
open Sys2Proof Host

/-! ### String elements (43_string.md R440 to R446, 47_v20_v30_extensions.md R590) -/

section Kept
variable {s u w t : State} {f : Word}

/-- Only the registers of a list, memory, the bus, and the flags, now `f`, may have changed, but DF has not. -/
structure ElementRan (l : List Reg16) (f : Word) (s t : State) : Prop where
  regs : RegsKeptBut l s t
  flags : t.flags = f
  direction : flagDF f = flagDF s.flags
  ip : t.ip = s.ip
  lastEa : t.lastEa = s.lastEa
  system : t.system = s.system

theorem ElementRan.trans {l : List Reg16} (h : ElementRan l f s u) (g : ElementRan [] u.flags u t) : ElementRan l f s t where
  regs r hr := (g.regs r List.not_mem_nil).trans (h.regs r hr)
  flags := g.flags.trans h.flags
  direction := h.direction
  ip := g.ip.trans h.ip
  lastEa := g.lastEa.trans h.lastEa
  system := g.system.trans h.system

/-- The accesses of an element leave all registers alone. -/
theorem ElementRan.of_accesses (hg : t.gpr = s.gpr) (hf : t.flags = s.flags) (hi : t.ip = s.ip) (he : t.lastEa = s.lastEa)
    (hs : t.system = s.system) : ElementRan [] s.flags s t :=
  ⟨fun r _ => r16_of_gpr hg r, hf, rfl, hi, he, hs⟩

theorem stringDelta_of_direction (n : Word) (h : flagDF t.flags = flagDF s.flags) : stringDelta n t = indexStep n s.flags := by
  rw [stringDelta, indexStep, h]

/-- An index register steps by the size of the element. -/
theorem ElementRan.stepIndex {l : List Reg16} (h : ElementRan l f s t) (r : Reg16) (n : Word) (hr : r ∉ l) :
    (t.setR16 r (t.r16 r + stringDelta n t)).r16 r = s.r16 r + indexStep n s.flags ∧
      ElementRan (r :: l) f s (t.setR16 r (t.r16 r + stringDelta n t)) := by
  refine ⟨by rw [setR16_r16_same, h.regs r hr, stringDelta_of_direction n ((congrArg flagDF h.flags).trans h.direction)],
    fun q hq => ?_, h.flags, h.direction, h.ip, h.lastEa, h.system⟩
  obtain ⟨hqr, hql⟩ := not_or.mp (fun e => hq (List.mem_cons.mpr e))
  rw [setR16_r16_ne t r q _ hqr, h.regs q hql]

theorem endString_system (t : State) : (endString t).system = t.systemString := rfl

theorem systemString_of_system (h : t.system = s.system) : t.systemString = s.systemString := by
  have hd : t.dec = s.dec := congrArg System.dec h
  rw [State.systemString, h, hd, State.systemString]

/-- The end of a string instruction that runs once. -/
theorem ElementRan.ended {l : List Reg16} (h : ElementRan l f s w) : RegsKeptBut l s (endString w) ∧
    (endString w).flags = f ∧ (endString w).ip = s.ip ∧ (endString w).lastEa = s.lastEa ∧ (endString w).system = s.systemString :=
  ⟨h.regs, h.flags, h.ip, h.lastEa, (endString_system w).trans (systemString_of_system h.system)⟩

/-- Its end when the element has stepped SI. -/
theorem ElementRan.endSi {l : List Reg16} (h : ElementRan l f s w) (n : Word) (hl : .si ∉ l) :
    (endString (moveSi n w)).r16 .si = s.r16 .si + indexStep n s.flags ∧ RegsKeptBut (.si :: l) s (endString (moveSi n w)) ∧
      (endString (moveSi n w)).flags = f ∧ (endString (moveSi n w)).ip = s.ip ∧ (endString (moveSi n w)).lastEa = s.lastEa ∧
      (endString (moveSi n w)).system = s.systemString :=
  have hk := h.stepIndex .si n hl
  ⟨hk.1, hk.2.ended⟩

/-- Its end when the element has stepped DI. -/
theorem ElementRan.endDi {l : List Reg16} (h : ElementRan l f s w) (n : Word) (hl : .di ∉ l) :
    (endString (moveDi n w)).r16 .di = s.r16 .di + indexStep n s.flags ∧ RegsKeptBut (.di :: l) s (endString (moveDi n w)) ∧
      (endString (moveDi n w)).flags = f ∧ (endString (moveDi n w)).ip = s.ip ∧ (endString (moveDi n w)).lastEa = s.lastEa ∧
      (endString (moveDi n w)).system = s.systemString :=
  have hk := h.stepIndex .di n hl
  ⟨hk.1, hk.2.ended⟩

/-- Its end when the element has stepped SI and DI. -/
theorem ElementRan.endSiDi (h : ElementRan [] f s w) (n : Word) :
    (endString (moveDi n (moveSi n w))).r16 .si = s.r16 .si + indexStep n s.flags ∧
      (endString (moveDi n (moveSi n w))).r16 .di = s.r16 .di + indexStep n s.flags ∧
      RegsKeptBut [.si, .di] s (endString (moveDi n (moveSi n w))) ∧
      (endString (moveDi n (moveSi n w))).flags = f ∧ (endString (moveDi n (moveSi n w))).ip = s.ip ∧
      (endString (moveDi n (moveSi n w))).lastEa = s.lastEa ∧
      (endString (moveDi n (moveSi n w))).system = s.systemString := by
  obtain ⟨hsi, hk⟩ := h.stepIndex .si n (by simp)
  obtain ⟨hdi, hregs, hrest⟩ := ElementRan.endDi (w := moveSi n w) hk n (by simp)
  exact ⟨(setR16_r16_ne (moveSi n w) .di .si _ (by simp)).trans hsi, hdi, fun q hq => hregs q (by simpa [or_comm] using hq), hrest⟩

theorem stringOp_without_rep (i : Instr) (tests : Bool) (elem : State → State) (h : s.dec.rep = none) :
    stringOp i tests elem s = endString (elem s) := by
  simp only [stringOp, h]

theorem MemByte.of_mem {sv off : Word} {v : Byte} (h : MemByte sv off v s w) (hm : t.mem = w.mem) : MemByte sv off v s t := by
  simpa only [MemByte, MemKeptBut, byteAt_of_mem hm] using h

theorem MemWord.of_mem {sv off v : Word} (h : MemWord sv off v s w) (hm : t.mem = w.mem) : MemWord sv off v s t := by
  simpa only [MemWord, MemKeptBut, byteAt_of_mem hm] using h

theorem Shows.of_bus_eq {es : List BusEvent} (h : Shows es s w) (hb : t.bus = w.bus) : Shows es s t := h.trans (.of_bus hb)

theorem oneCycle_of_cfg (h : u.cfg = s.cfg) (a : BitVec 20) : u.oneCycle a = s.oneCycle a := by
  rw [State.oneCycle, State.busWidth, h, State.oneCycle, State.busWidth]

theorem wordWrites_of_cfg (h : u.cfg = s.cfg) (acc : Access) (sv off v : Word) :
    u.wordWrites acc sv off v = s.wordWrites acc sv off v := by
  rw [State.wordWrites, oneCycle_of_cfg h, State.wordWrites]

end Kept

section Accesses
variable (s : State)

theorem segOr_eq_getD (g : SReg) : s.segOr g = s.dec.segOverride.getD g := by
  unfold State.segOr
  cases s.dec.segOverride <;> rfl

theorem readSrc8_ran : ElementRan [] s.flags s (readSrc8 s).2 :=
  .of_accesses (readByte_gpr ..) (readByte_flags ..) (readByte_ip ..) (readByte_lastEa ..) (readByte_system ..)

theorem readSrc16_ran : ElementRan [] s.flags s (readSrc16 s).2 :=
  .of_accesses (readWord_gpr ..) (readWord_flags ..) (readWord_ip ..) (readWord_lastEa ..) (readWord_system ..)

theorem readDst8_ran : ElementRan [] s.flags s (readDst8 s).2 :=
  .of_accesses (readByte_gpr ..) (readByte_flags ..) (readByte_ip ..) (readByte_lastEa ..) (readByte_system ..)

theorem readDst16_ran : ElementRan [] s.flags s (readDst16 s).2 :=
  .of_accesses (readWord_gpr ..) (readWord_flags ..) (readWord_ip ..) (readWord_lastEa ..) (readWord_system ..)

theorem readSrc8_mem : (readSrc8 s).2.mem = s.mem := readByte_mem ..
theorem readSrc16_mem : (readSrc16 s).2.mem = s.mem := readWord_mem ..
theorem readDst8_mem : (readDst8 s).2.mem = s.mem := readByte_mem ..
theorem readDst16_mem : (readDst16 s).2.mem = s.mem := readWord_mem ..
theorem readSrc8_gpr : (readSrc8 s).2.gpr = s.gpr := readByte_gpr ..
theorem readSrc16_gpr : (readSrc16 s).2.gpr = s.gpr := readWord_gpr ..
theorem readDst8_gpr : (readDst8 s).2.gpr = s.gpr := readByte_gpr ..
theorem readDst16_gpr : (readDst16 s).2.gpr = s.gpr := readWord_gpr ..

theorem writeDst8_devIn (v : Byte) : (writeDst8 v s).devIn = s.devIn := writeByte_devIn ..
theorem writeDst16_devIn (v : Word) : (writeDst16 v s).devIn = s.devIn := writeWord_devIn ..

theorem writeDst8_ran (v : Byte) : ElementRan [] s.flags s (writeDst8 v s) :=
  .of_accesses (writeByte_gpr ..) (writeByte_flags ..) (writeByte_ip ..) (writeByte_lastEa ..) (writeByte_system ..)

theorem writeDst16_ran (v : Word) : ElementRan [] s.flags s (writeDst16 v s) :=
  .of_accesses (writeWord_gpr ..) (writeWord_flags ..) (writeWord_ip ..) (writeWord_lastEa ..) (writeWord_system ..)

theorem ioReadByte_ran (port : Word) : ElementRan [] s.flags s (ioReadByte port s).2 :=
  .of_accesses (ioReadByte_gpr ..) (ioReadByte_flags ..) (ioReadByte_ip ..) (ioReadByte_lastEa ..) (ioReadByte_system ..)

theorem ioReadWord_ran (port : Word) : ElementRan [] s.flags s (ioReadWord port s).2 :=
  .of_accesses (ioReadWord_gpr ..) (ioReadWord_flags ..) (ioReadWord_ip ..) (ioReadWord_lastEa ..) (ioReadWord_system ..)

theorem ioWriteByte_ran (port : Word) (v : Byte) : ElementRan [] s.flags s (ioWriteByte port v s) :=
  .of_accesses (ioWriteByte_gpr ..) (ioWriteByte_flags ..) (ioWriteByte_ip ..) (ioWriteByte_lastEa ..) (ioWriteByte_system ..)

theorem ioWriteWord_ran (port v : Word) : ElementRan [] s.flags s (ioWriteWord port v s) :=
  .of_accesses (ioWriteWord_gpr ..) (ioWriteWord_flags ..) (ioWriteWord_ip ..) (ioWriteWord_lastEa ..) (ioWriteWord_system ..)

theorem readByte_leaves (acc : Access) (sv off : Word) : NothingWritten s (readByte acc sv off s).2 ∧
    (readByte acc sv off s).2.flags = s.flags ∧ (readByte acc sv off s).2.lastEa = s.lastEa ∧
    Ordinary s (readByte acc sv off s).2 :=
  ⟨⟨readByte_gpr .., memKept_of_mem (readByte_mem ..)⟩, readByte_flags .., readByte_lastEa .., readByte_ip .., readByte_system ..⟩

theorem readWord_leaves (acc : Access) (sv off : Word) : NothingWritten s (readWord acc sv off s).2 ∧
    (readWord acc sv off s).2.flags = s.flags ∧ (readWord acc sv off s).2.lastEa = s.lastEa ∧
    Ordinary s (readWord acc sv off s).2 :=
  ⟨⟨readWord_gpr .., memKept_of_mem (readWord_mem ..)⟩, readWord_flags .., readWord_lastEa .., readWord_ip .., readWord_system ..⟩

/-- A comparison writes the status flags, DF is not among them. -/
theorem flagDF_aluFlags {n : Nat} (op : AluOp) (a b : BitVec n) (f : Word) : flagDF (aluFlags op a b f) = flagDF f := by
  rw [flagDF, aluFlags, putFlags_getLsbD _ _ _ _ (by decide)]
  rfl

theorem ElementRan.compare {n : Nat} {s u : State} (h : ElementRan [] s.flags s u) (a b : BitVec n) :
    ElementRan [] (putFlags statusMask (subStatus a b false) s.flags) s (u.setFlags (aluFlags .cmp a b u.flags)) :=
  ⟨h.regs, by rw [setFlags_flags, h.flags]; rfl, flagDF_aluFlags .cmp a b s.flags, h.ip, h.lastEa, h.system⟩

/-- A load writes the accumulator. -/
theorem ElementRan.setAl {s u : State} {f : Word} (h : ElementRan [] f s u) (v : Byte) : ElementRan [.ax] f s (u.setR8 .al v) :=
  ⟨fun q hq => (setR8_r16_ne u .al q v (by simpa [Reg8.parent] using hq)).trans (h.regs q List.not_mem_nil), h.flags,
    h.direction, h.ip, h.lastEa, h.system⟩

theorem ElementRan.setAx {s u : State} {f : Word} (h : ElementRan [] f s u) (v : Word) : ElementRan [.ax] f s (u.setR16 .ax v) :=
  ⟨fun q hq => (setR16_r16_ne u .ax q v (by simpa using hq)).trans (h.regs q List.not_mem_nil), h.flags,
    h.direction, h.ip, h.lastEa, h.system⟩

/-- The end of a load keeps what the accumulator holds. -/
theorem endSi_ax (n : Word) (w : State) : (endString (moveSi n w)).r16 .ax = w.r16 .ax :=
  setR16_r16_ne w .si .ax _ (by decide)

/-- A string instruction that is not repeated runs one element and ends. -/
theorem completes_element {s : State} {i : Instr} {tests : Bool} {elem : State → State} {P : State → Prop}
    (hx : exec i s = .next (stringOp i tests elem s)) (h : s.dec.rep = none) (hP : P (endString (elem s))) : Completes i s P := by
  rw [stringOp_without_rep i tests elem h] at hx
  exact ⟨_, hx, hP⟩

end Accesses

theorem stringOperands : Claim.StringOperands := by
  rintro s g rfl
  rw [← segOr_eq_getD]
  refine ⟨readByte_memory s _ _ _, readWord_memory s _ _ _, readByte_memory s _ _ _, readWord_memory s _ _ _,
    readByte_shows s _ _ _, readByte_shows s _ _ _, readWord_shows s _ _ _, readWord_shows s _ _ _, ?_⟩
  simp only [List.forall_mem_cons, List.not_mem_nil, false_imp_iff, implies_true, and_true]
  exact ⟨readByte_leaves s _ _ _, readWord_leaves s _ _ _, readByte_leaves s _ _ _, readWord_leaves s _ _ _⟩

section Writes
variable {s u : State} {f : Word}

/-- The destination of an element, once the accesses before the write have left the registers alone. -/
theorem writeDst8_eq (v : Byte) (hs : u.system = s.system) (hg : u.gpr = s.gpr) :
    writeDst8 v u = writeByte .es s.seg.es (s.r16 .di) v u := by
  have hseg : u.seg = s.seg := congrArg System.seg hs
  rw [writeDst8, hseg, r16_of_gpr hg]

theorem writeDst16_eq (v : Word) (hs : u.system = s.system) (hg : u.gpr = s.gpr) :
    writeDst16 v u = writeWord .es s.seg.es (s.r16 .di) v u := by
  have hseg : u.seg = s.seg := congrArg System.seg hs
  rw [writeDst16, hseg, r16_of_gpr hg]

/-- The write to the destination: the store, its bus operation, and nothing else. -/
theorem writeDst8_effect (v : Byte) (hs : u.system = s.system) (hg : u.gpr = s.gpr) (hm : u.mem = s.mem) :
    MemByte s.seg.es (s.r16 .di) v s (writeDst8 v u) ∧
      Shows [.memWrite .es (lin s.seg.es (s.r16 .di)) false (zext16 v)] u (writeDst8 v u) := by
  rw [writeDst8_eq v hs hg]
  exact ⟨writeByte_stored .es _ _ v hm (congrArg System.cfg hs), writeByte_shows u .es _ _ v⟩

theorem writeDst16_effect (v : Word) (hs : u.system = s.system) (hg : u.gpr = s.gpr) (hm : u.mem = s.mem) :
    MemWord s.seg.es (s.r16 .di) v s (writeDst16 v u) ∧
      Shows (s.wordWrites .es s.seg.es (s.r16 .di) v) u (writeDst16 v u) := by
  rw [writeDst16_eq v hs hg, ← wordWrites_of_cfg (congrArg System.cfg hs : u.cfg = s.cfg)]
  exact ⟨writeWord_stored .es _ _ v hm (congrArg System.cfg hs), writeWord_shows u .es _ _ v⟩

end Writes

theorem stringMoves : Claim.StringMoves := by
  intro s h
  refine ⟨completes_element (elem := movsElem8) rfl h ?_, completes_element (elem := movsElem16) rfl h ?_,
    completes_element (elem := lodsElem8) rfl h ?_, completes_element (elem := lodsElem16) rfl h ?_,
    completes_element (elem := stosElem8) rfl h ?_, completes_element (elem := stosElem16) rfl h ?_⟩
  · obtain ⟨hsi, hdi, hregs, hflags, hip, hea, hsys⟩ := ((readSrc8_ran s).trans (writeDst8_ran _ (readSrc8 s).1)).endSiDi 1
    obtain ⟨hmem, hshows⟩ := writeDst8_effect (u := (readSrc8 s).2) (readSrc8 s).1 (readByte_system ..) (readSrc8_gpr s)
      (readSrc8_mem s)
    exact ⟨hsi, hdi, hregs, hmem.of_mem rfl, hflags, hip, hea, hsys, hshows.of_bus_eq rfl⟩
  · obtain ⟨hsi, hdi, hregs, hflags, hip, hea, hsys⟩ := ((readSrc16_ran s).trans (writeDst16_ran _ (readSrc16 s).1)).endSiDi 2
    obtain ⟨hmem, hshows⟩ := writeDst16_effect (u := (readSrc16 s).2) (readSrc16 s).1 (readWord_system ..) (readSrc16_gpr s)
      (readSrc16_mem s)
    exact ⟨hsi, hdi, hregs, hmem.of_mem rfl, hflags, hip, hea, hsys, hshows.of_bus_eq rfl⟩
  · obtain ⟨hsi, hregs, hflags, hip, hea, hsys⟩ := ((readSrc8_ran s).setAl (readSrc8 s).1).endSi 1 (by decide)
    have hax := endSi_ax 1 ((readSrc8 s).2.setR8 .al (readSrc8 s).1)
    have hah : ((readSrc8 s).2.setR8 .al (readSrc8 s).1).r8 .ah = s.r8 .ah :=
      (setR8_r8_ne _ .al .ah _ (by decide)).trans (r8_of_gpr (readSrc8_gpr s) .ah)
    exact ⟨hsi, (congrArg loByte hax).trans (setR8_r8_same _ .al _), (congrArg hiByte hax).trans hah, hregs,
      memKept_of_mem (readSrc8_mem s), hflags, hip, hea, hsys, .of_bus rfl⟩
  · obtain ⟨hsi, hregs, hflags, hip, hea, hsys⟩ := ((readSrc16_ran s).setAx (readSrc16 s).1).endSi 2 (by decide)
    exact ⟨hsi, (endSi_ax 2 _).trans (setR16_r16_same _ .ax _), hregs, memKept_of_mem (readSrc16_mem s), hflags, hip, hea, hsys,
      .of_bus rfl⟩
  · obtain ⟨hdi, hregs, hflags, hip, hea, hsys⟩ := (writeDst8_ran s (s.r8 .al)).endDi 1 List.not_mem_nil
    obtain ⟨hmem, hshows⟩ := writeDst8_effect (s.r8 .al) (rfl : s.system = s.system) rfl rfl
    exact ⟨hdi, hregs, hmem.of_mem rfl, hflags, hip, hea, hsys, hshows.of_bus_eq rfl⟩
  · obtain ⟨hdi, hregs, hflags, hip, hea, hsys⟩ := (writeDst16_ran s (s.r16 .ax)).endDi 2 List.not_mem_nil
    obtain ⟨hmem, hshows⟩ := writeDst16_effect (s.r16 .ax) (rfl : s.system = s.system) rfl rfl
    exact ⟨hdi, hregs, hmem.of_mem rfl, hflags, hip, hea, hsys, hshows.of_bus_eq rfl⟩

theorem stringCompares : Claim.StringCompares := by
  intro s h
  refine ⟨completes_element (elem := cmpsElem8) rfl h ?_, completes_element (elem := cmpsElem16) rfl h ?_,
    completes_element (elem := scasElem8) rfl h ?_, completes_element (elem := scasElem16) rfl h ?_⟩
  · obtain ⟨hsi, hdi, hregs, hflags, hip, hea, hsys⟩ :=
      (((readSrc8_ran s).trans (readDst8_ran _)).compare (readSrc8 s).1 (readDst8 (readSrc8 s).2).1).endSiDi 1
    exact ⟨hsi, hdi, hregs, memKept_of_mem ((readDst8_mem _).trans (readSrc8_mem s)), hip, hea, hsys, hflags, .of_bus rfl⟩
  · obtain ⟨hsi, hdi, hregs, hflags, hip, hea, hsys⟩ :=
      (((readSrc16_ran s).trans (readDst16_ran _)).compare (readSrc16 s).1 (readDst16 (readSrc16 s).2).1).endSiDi 2
    exact ⟨hsi, hdi, hregs, memKept_of_mem ((readDst16_mem _).trans (readSrc16_mem s)), hip, hea, hsys, hflags, .of_bus rfl⟩
  · obtain ⟨hdi, hregs, hflags, hip, hea, hsys⟩ :=
      ((readDst8_ran s).compare ((readDst8 s).2.r8 .al) (readDst8 s).1).endDi 1 List.not_mem_nil
    have hal : (readDst8 s).2.r8 .al = s.r8 .al := r8_of_gpr (readDst8_gpr s) .al
    exact ⟨hdi, hregs, memKept_of_mem (readDst8_mem s), hip, hea, hsys, hflags.trans (by rw [hal]), .of_bus rfl⟩
  · obtain ⟨hdi, hregs, hflags, hip, hea, hsys⟩ :=
      ((readDst16_ran s).compare ((readDst16 s).2.r16 .ax) (readDst16 s).1).endDi 2 List.not_mem_nil
    have hax : (readDst16 s).2.r16 .ax = s.r16 .ax := r16_of_gpr (readDst16_gpr s) .ax
    exact ⟨hdi, hregs, memKept_of_mem (readDst16_mem s), hip, hea, hsys, hflags.trans (by rw [hax]), .of_bus rfl⟩

theorem stringInputOutput : Claim.StringInputOutput := by
  intro s h
  refine ⟨completes_element (elem := insElem8) rfl h ?_, completes_element (elem := insElem16) rfl h ?_,
    completes_element (elem := outsElem8) rfl h ?_, completes_element (elem := outsElem16) rfl h ?_⟩
  · have hio := ioReadByte_shows s (s.r16 .dx)
    obtain ⟨hdi, hregs, hflags, hip, hea, hsys⟩ :=
      ((ioReadByte_ran s (s.r16 .dx)).trans (writeDst8_ran _ (ioReadByte (s.r16 .dx) s).1)).endDi 1 List.not_mem_nil
    obtain ⟨hmem, hshows⟩ := writeDst8_effect (u := (ioReadByte (s.r16 .dx) s).2) (ioReadByte (s.r16 .dx) s).1
      (ioReadByte_system ..) (ioReadByte_gpr ..) (ioReadByte_mem ..)
    refine ⟨hdi, hregs, hmem.of_mem rfl, hflags, hip, hea, hsys, (hio.trans hshows).of_bus_eq rfl, fun a rest hd => ?_⟩
    obtain ⟨ha, hrest⟩ := ioReadByte_cons s (s.r16 .dx) hd
    exact ⟨ha, (writeDst8_devIn _ _).trans hrest⟩
  · have hio := ioReadWord_shows s (s.r16 .dx)
    obtain ⟨hdi, hregs, hflags, hip, hea, hsys⟩ :=
      ((ioReadWord_ran s (s.r16 .dx)).trans (writeDst16_ran _ (ioReadWord (s.r16 .dx) s).1)).endDi 2 List.not_mem_nil
    obtain ⟨hmem, hshows⟩ := writeDst16_effect (u := (ioReadWord (s.r16 .dx) s).2) (ioReadWord (s.r16 .dx) s).1
      (ioReadWord_system ..) (ioReadWord_gpr ..) (ioReadWord_mem ..)
    refine ⟨hdi, hregs, hmem.of_mem rfl, hflags, hip, hea, hsys, (hio.trans hshows).of_bus_eq rfl, fun a b rest hd => ?_⟩
    obtain ⟨hab, hrest⟩ := ioReadWord_cons s (s.r16 .dx) hd
    exact ⟨hab, (writeDst16_devIn _ _).trans hrest⟩
  · obtain ⟨hsi, hregs, hflags, hip, hea, hsys⟩ :=
      ((readSrc8_ran s).trans (ioWriteByte_ran _ ((readSrc8 s).2.r16 .dx) (readSrc8 s).1)).endSi 1 List.not_mem_nil
    have hshows : Shows [.ioWrite (s.r16 .dx) (readSrc8 s).1] (readSrc8 s).2
        (ioWriteByte ((readSrc8 s).2.r16 .dx) (readSrc8 s).1 (readSrc8 s).2) := by
      rw [← r16_of_gpr (readSrc8_gpr s) .dx]
      exact ioWriteByte_shows ..
    have hmem := (ioWriteByte_mem (readSrc8 s).2 ((readSrc8 s).2.r16 .dx) (readSrc8 s).1).trans (readSrc8_mem s)
    exact ⟨hsi, hregs, memKept_of_mem hmem, hflags, hip, hea, hsys, hshows.of_bus_eq rfl⟩
  · obtain ⟨hsi, hregs, hflags, hip, hea, hsys⟩ :=
      ((readSrc16_ran s).trans (ioWriteWord_ran _ ((readSrc16 s).2.r16 .dx) (readSrc16 s).1)).endSi 2 List.not_mem_nil
    have hshows : Shows [.ioWrite (s.r16 .dx + 1) (hiByte (readSrc16 s).1), .ioWrite (s.r16 .dx) (loByte (readSrc16 s).1)]
        (readSrc16 s).2 (ioWriteWord ((readSrc16 s).2.r16 .dx) (readSrc16 s).1 (readSrc16 s).2) := by
      rw [← r16_of_gpr (readSrc16_gpr s) .dx]
      exact ioWriteWord_shows ..
    have hmem := (ioWriteWord_mem (readSrc16 s).2 ((readSrc16 s).2.r16 .dx) (readSrc16 s).1).trans (readSrc16_mem s)
    exact ⟨hsi, hregs, memKept_of_mem hmem, hflags, hip, hea, hsys, hshows.of_bus_eq rfl⟩

/-- Settles O49: an element is its accesses, then the steps of the index registers; without REP the instruction ends there. -/
theorem stringElements : Obligations.StringElements := ⟨stringOperands, stringMoves, stringCompares, stringInputOutput⟩

end Sys2Proof.Machine

namespace Sys2Proof.Machine
open Sys2Proof Host

/-! ### The next T-state (22_biu_tstate_engine.md R141, R145, R146) -/

section Waits
variable (s : State) (a : EuAct) (inp : BusIn)

theorem noWait_iff (b : Biu) : b.noWait = true ↔ b.busWait = 0 ∧ b.ioWait = 0 ∧ b.dmaWait = 0 := by
  simp [Biu.noWait, and_assoc]

/-- The wait count depends on the address latch, the bus state and the tables. -/
theorem waitCount_of_eq {s t : State} (hc : t.cfg = s.cfg) (hb : t.biu.busState = s.biu.busState)
    (ha : t.biu.address = s.biu.address) : t.waitCount inp = s.waitCount inp := by
  simp only [State.waitCount, kindAt_of_cfg hc, hc, hb, ha]

theorem loadWait_busWait (w : Nat) (b : Biu) : (loadWait w b).busWait =
    if b.busState = .codeFetch ∨ b.busState = .memRead ∨ b.busState = .memWrite then w else b.busWait := by
  unfold loadWait
  cases h : b.busState <;> simp

theorem loadWait_ioWait (w : Nat) (b : Biu) : (loadWait w b).ioWait =
    if b.busState = .ioRead ∨ b.busState = .ioWrite then w else b.ioWait := by
  unfold loadWait
  cases h : b.busState <;> simp

theorem loadWait_dmaWait (w : Nat) (b : Biu) : (loadWait w b).dmaWait = b.dmaWait := by
  unfold loadWait
  split <;> rfl

/-- The action of the EU leaves the wait counters and what the wait count depends on. -/
theorem acted_waits : drainWaits s.dma.st.holds (acted a s).biu = { (acted a s).biu with
      busWait := s.biu.busWait - 1, ioWait := if s.dma.st.holds then s.biu.ioWait else s.biu.ioWait - 1,
      dmaWait := s.biu.dmaWait - 1 } ∧
    (acted a s).waitCount inp = s.waitCount inp := by
  obtain ⟨_, _, _, _, _, _, h, -⟩ := acted_biu s a
  exact ⟨by rw [drainWaits, h], waitCount_of_eq inp (acted_cfg s a) (acted_busState s a) (by rw [h])⟩

/-- In `T3` the counter of the access is loaded and the others fall. -/
theorem ready_noWait_t3 (h : s.biu.tState = .t3) : (ready a inp s).biu.noWait = true ↔
    (if s.biu.busState = .codeFetch ∨ s.biu.busState = .memRead ∨ s.biu.busState = .memWrite then s.waitCount inp
      else s.biu.busWait - 1) = 0 ∧
    (if s.biu.busState = .ioRead ∨ s.biu.busState = .ioWrite then s.waitCount inp
      else if s.dma.st.holds then s.biu.ioWait else s.biu.ioWait - 1) = 0 ∧ s.biu.dmaWait - 1 = 0 := by
  obtain ⟨hd, hw⟩ := acted_waits s (s.euAct a) inp
  have hw' : ((acted (s.euAct a) s).setBiu (drainWaits s.dma.st.holds (acted (s.euAct a) s).biu)).waitCount inp =
      s.waitCount inp := (waitCount_of_eq inp rfl rfl rfl).trans hw
  rw [noWait_iff, ready, beforeTransfer, if_pos (by simpa using h), (callIoRead_called _ inp).1]
  simp only [setBiu_biu, hw', loadWait_busWait, loadWait_ioWait, loadWait_dmaWait]
  simp only [hd, acted_busState]

/-- In `Tw` all counters fall. -/
theorem ready_noWait_tw (h : s.biu.tState = .tw) : (ready a inp s).biu.noWait = true ↔
    s.biu.busWait - 1 = 0 ∧ (if s.dma.st.holds then s.biu.ioWait else s.biu.ioWait - 1) = 0 ∧ s.biu.dmaWait - 1 = 0 := by
  obtain ⟨hd, -⟩ := acted_waits s (s.euAct a) inp
  rw [noWait_iff, ready, beforeTransfer, if_neg (by simp [h]), setBiu_biu, hd]

end Waits

section T1
variable (s : State) (a : EuAct) (inp : BusIn)

/-- A bus cycle starts from `T0` of its address cycle, with no hold, and ends it. -/
theorem addressCycle_of_starts {hold : Bool} (h : s.biu.starts hold a = true) :
    s.biu.ta = .t0 ∧ hold = false ∧ (addressCycle hold a s).ta = .td := by
  have hp := h
  simp only [Biu.starts, Bool.and_eq_true, beq_iff_eq, Bool.not_eq_true'] at hp
  obtain ⟨⟨⟨ht, hh⟩, ha⟩, -⟩ := hp
  refine ⟨ht, hh, ?_⟩
  simp only [addressCycle, ht, ha, h, Bool.false_eq_true, if_false, if_true]

theorem tick_enters_t1 (h : (tick a inp s).biu.tState = .t1) :
    (tick a inp s).biu.ta = .td ∧ s.biu.ta = .t0 ∧ s.dma.st.holds = false := by
  rw [tick_tState] at h
  obtain ⟨ht, hh, hd⟩ := addressCycle_of_starts _ _ (nextTState_t1 h).1
  rw [afterTwo_ta] at ht
  exact ⟨(tick_ta ..).trans hd, ht, hh⟩

end T1

/-- Settles O56: step 3 of the tick, with the counters as they stand at the transfer. -/
theorem nextTStateOfTick : Obligations.NextTState := by
  intro a inp s
  refine ⟨fun h => ?_, fun h => ?_, fun h => ?_, fun h => ?_, fun h => ?_, fun h => ?_, fun h => ?_, fun h => ?_, fun h => ?_,
    fun h => ?_, fun h => ?_, tick_enters_t1 s a inp⟩
  · rw [tick_tState, h, nextTState]
    split <;> simp
  · rw [tick_tState, h, nextTState]
    split <;> simp
  · rw [tick_tState, h, nextTState]
  · rw [tick_tState, h, nextTState]
  · rw [tick_tState_of_ready s a inp (.inl h)]
    refine if_congr ((ready_noWait_t3 s a inp h).trans ?_) rfl rfl
    refine and_congr ?_ (and_congr ?_ ?_)
    · split <;> omega
    · split
      · rfl
      · split <;> omega
    · omega
  · rcases h with h | h <;> simp only [State.waitCount, h]
  · simp only [State.waitCount, h]
  · simp only [State.waitCount, h]
  · simp only [State.waitCount, h]
  · rw [tick_tState_of_ready s a inp (.inr h)]
    refine if_congr ((ready_noWait_tw s a inp h).trans ?_) rfl rfl
    split <;> omega
  · rw [tick_tState, h, nextTState]
    split <;> simp

end Sys2Proof.Machine

namespace Sys2Proof.Machine
open Sys2Proof Host

/-! ### A step fetches and runs (32_decode_sequencer.md R260 to R278) -/

section BeginStep
variable (s : State)

/-- The code fetches at the start of an EU step, which is counted first. -/
theorem beginStep_codeFetched : CodeFetched (s.setSteps (s.steps + 1)) (beginStep s) :=
  (completeFetch_codeFetched _).trans (prefetch_codeFetched _)

variable {s}

/-- With no code fetch on the bus and no fill to come the step is counted and no more. -/
theorem beginStep_eq (hc : s.biu.cycle = none) (hf : s.fills = []) (ht : s.biu.tState ≠ .t1 ∨ s.biu.prep ≠ .fetch) :
    beginStep s = s.setSteps (s.steps + 1) := by
  have h : (s.setSteps (s.steps + 1)).completeFetch = s.setSteps (s.steps + 1) :=
    completeFetch_eq _ hc (fetchInT1_eq_false.mpr ht)
  rw [beginStep, h]
  exact prefetch_nil _ hf

/-- A code fetch in its `T1` is made. -/
theorem completeFetch_of_t1 (hc : s.biu.cycle = none) (ht : s.biu.tState = .t1) (hp : s.biu.prep = .fetch) :
    s.completeFetch = s.fetchNow s.fetchWide := by
  have hcycle : s.completeCycle = s := by simp only [State.completeCycle, hc]
  simp only [State.completeFetch, hcycle, (fetchInT1_iff _).mpr ⟨ht, hp⟩, if_true]

theorem fetchNow_fills (wide : Bool) : (s.fetchNow wide).fills = s.fills := rfl

theorem beginStep_of_t1 (hc : s.biu.cycle = none) (hf : s.fills = []) (ht : s.biu.tState = .t1) (hp : s.biu.prep = .fetch) :
    beginStep s = (s.setSteps (s.steps + 1)).fetchNow (s.setSteps (s.steps + 1)).fetchWide := by
  have h := completeFetch_of_t1 (s := s.setSteps (s.steps + 1)) hc ht hp
  rw [beginStep, h]
  exact prefetch_nil _ ((fetchNow_fills _).trans hf)

/-- The address cycle of the fetch has ended with it. -/
theorem fetchNow_endsT1 (wide : Bool) (ht : s.biu.tState = .t1) (hp : s.biu.prep = .fetch) :
    (s.fetchNow wide).biu.tState = .ti ∧ (s.fetchNow wide).biu.prep = .idle := by
  have hd : s.biu.dropPrepared = ({ s.biu with prep := .idle, ta := .td } : Biu).toIdle := by
    simp only [Biu.dropPrepared, Biu.dropAddressCycle, hp, ht, if_true]
  show s.biu.dropPrepared.leaveInit.tState = .ti ∧ s.biu.dropPrepared.leaveInit.prep = .idle
  rw [hd]
  exact ⟨rfl, rfl⟩

/-- What the fetch brings is queued and seen on the bus. -/
theorem fetchNow_brings (s : State) : ∃ l w, QueueGrew l s (s.fetchNow s.fetchWide) ∧
    l.length = (if s.cfg.busWidth = .word ∧ s.pc.toNat % 2 = 0 then 2 else 1) ∧
    (s.fetchNow s.fetchWide).bus = .codeFetch (s.codeAddr s.pc) (l.length == 2) w :: s.bus ∧ s.FromMemory l := by
  refine ⟨_, s.codeAhead s.fetchWide, fetchNow_grew s _, ?_, ?_, fetchNow_fromMemory s _⟩
  · simp only [← fetchWide_iff]
    split <;> rfl
  · show BusEvent.codeFetch _ s.fetchWide _ :: _ = _
    cases s.fetchWide <;> rfl

theorem runNext_fetches (hf : s.biu.fetchState ≠ .halted) (hl : s.life ≠ .execute) :
    runNext s = fetchExec prefixLimit (beginStep s) := by
  have hlife : (beginStep s).life = s.life := congrArg System.life (beginStep_fetched s).system
  unfold runNext
  rw [if_neg hf]
  dsimp only
  split
  · next h _ => exact absurd (hlife.symm.trans h) hl
  · rfl

end BeginStep

theorem stepFetches : Claim.StepFetches := by
  rintro s c hs hh hq hf hl rfl
  have hc := beginStep_codeFetched s
  have hsys := hc.fetched.system
  refine ⟨by rw [step_eu hs, euStep_running s hh hq, runNext_fetches hf hl], hc.fetched.ip, hc.fetched.gpr, congrArg System.seg hsys,
    hc.fetched.flags, hc.fetched.mem, congrArg System.cfg hsys, congrArg System.pins hsys, congrArg System.inhibit hsys,
    congrArg System.nmiLatch hsys, congrArg System.lock hsys, (congrArg System.halted hsys).trans hh, hc.fetched.lastEa,
    hc.fetched.devIn, hc.fetched.stale, congrArg System.dec hsys, congrArg System.life hsys, (congrArg System.sequences hsys).trans hq,
    (congrArg System.script hsys).trans hs, hc.running hf, hc.fetched.bus.imp fun l hl => ⟨hl.2, hl.1⟩, beginStep_eq,
    fun hcy hfi ht hp => ?_⟩
  have hcode := codeAddr_of_eq hc.fetched.stale hsys
  obtain ⟨hti, hidle⟩ := fetchNow_endsT1 (s := s.setSteps (s.steps + 1)) (s.setSteps (s.steps + 1)).fetchWide ht hp
  obtain ⟨l, w, hgrew, hlen, hbus, hmem⟩ := fetchNow_brings (s.setSteps (s.steps + 1))
  rw [← beginStep_of_t1 hcy hfi ht hp] at hti hidle hgrew hbus
  refine ⟨hti, hidle, l, w, hgrew, hlen, hbus.trans ?_, fun k b off hb ho ha => ?_⟩
  · rw [hcode]
    rfl
  · rw [hcode] at ha ⊢
    exact hmem k b off hb ho ha

section Taking
variable (s : State)

/-- A wait for a byte does not stop fetching. -/
theorem await_running (h : s.biu.fetchState ≠ .halted) : s.await.biu.fetchState ≠ .halted := by
  have hc := (completeFetch_codeFetched s).running h
  have hr : s.completeFetch.biu.fetchState.resumed ≠ .halted := by
    cases e : s.completeFetch.biu.fetchState <;> simp_all [FetchState.resumed]
  unfold State.await
  split
  · exact h
  · dsimp only
    split
    · exact hc
    · exact (fetchNow_codeFetched _ _).running hr

theorem takeByte_running (h : s.biu.fetchState ≠ .halted) : (takeByte s).biu.fetchState ≠ .halted :=
  syncFetchState_ne_halted _ (await_running s h)

theorem takeBytes_running (n : Nat) (h : s.biu.fetchState ≠ .halted) : (takeBytes n s).biu.fetchState ≠ .halted := by
  induction n generalizing s with
  | zero => exact h
  | succ n ih => exact ih _ (takeByte_running s h)

/-- The state in which an instruction is decoded differs in the decode state and the tag of the next byte. -/
theorem fetchState_eq : ∃ b, fetchState s = (s.setDec (fetchState s).dec).setNextIsFirst b := by
  unfold fetchState
  split
  · exact ⟨s.nextIsFirst, rfl⟩
  · exact ⟨true, rfl⟩

theorem fetchState_window : (fetchState s).window = s.window := by
  obtain ⟨b, h⟩ := fetchState_eq s
  rw [h]
  rfl

theorem window_head : s.window.head? = some (s.codeAt 0) := rfl
theorem window_second : s.window.tail.head? = some (s.codeAt 1) := rfl

theorem mandatoryPrefix_window (cpu : CpuModel) : mandatoryPrefix cpu s.window =
    if cpu.isNec = true ∧ s.codeAt 0 = 0x0F then some 0x0F else none := by
  simp only [mandatoryPrefix, window_head, Bool.and_eq_true, beq_iff_eq, Option.some.injEq]

theorem opcodeByte_window (cpu : CpuModel) : opcodeByte cpu s.window =
    some (if cpu.isNec = true ∧ s.codeAt 0 = 0x0F then s.codeAt 1 else s.codeAt 0) := by
  rw [opcodeByte, mandatoryPrefix_window, window_second, window_head]
  split <;> rfl

/-- What stands in the record once the bytes of an instruction are taken (R262). -/
def recordedIn (d : DecodeState) (i : Instr) (n : Nat) (s : State) : DecodeState :=
  { d with instr := some i, length := d.length + n, mandatory := mandatoryPrefix s.cfg.cpu s.window,
           opcode := opcodeByte s.cfg.cpu s.window, operands := undefinedOperands s.cfg.cpu s.window }

/-- The record of an instruction already begun goes on. -/
theorem recordedIn_of_goesOn (i : Instr) (n : Nat) (h : s.life = .decodePrefix) : recordedIn (fetchState s).dec i n s =
    { s.dec with instr := some i, length := s.dec.length + n,
                 mandatory := if s.cfg.cpu.isNec = true ∧ s.codeAt 0 = 0x0F then some 0x0F else none,
                 opcode := some (if s.cfg.cpu.isNec = true ∧ s.codeAt 0 = 0x0F then s.codeAt 1 else s.codeAt 0),
                 operands := undefinedOperands s.cfg.cpu s.window } := by
  rw [recordedIn, mandatoryPrefix_window, opcodeByte_window, fetchState, if_pos h]

/-- Otherwise it begins anew. -/
theorem recordedIn_of_begin (i : Instr) (n : Nat) (h : s.life ≠ .decodePrefix) : recordedIn (fetchState s).dec i n s =
    { DecodeState.clear with tfAtStart := flagTF s.flags, startCs := s.seg.cs, startIp := s.ip, instr := some i, length := n,
                             mandatory := if s.cfg.cpu.isNec = true ∧ s.codeAt 0 = 0x0F then some 0x0F else none,
                             opcode := some (if s.cfg.cpu.isNec = true ∧ s.codeAt 0 = 0x0F then s.codeAt 1 else s.codeAt 0),
                             operands := undefinedOperands s.cfg.cpu s.window } := by
  have hlen : (beginInstr s).dec.length = 0 := rfl
  rw [recordedIn, mandatoryPrefix_window, opcodeByte_window, fetchState, if_neg h, hlen, Nat.zero_add]
  rfl

theorem readyToExec_eq (i : Instr) (n : Nat) : ∃ b, readyToExec i n s =
    (takeBytes (n - i.lateBytes) ((s.setDec (recordedIn (fetchState s).dec i n s)).setNextIsFirst b)).setLife .checkInterrupts := by
  obtain ⟨b, h⟩ := fetchState_eq s
  have hw := fetchState_window s
  have hcfg : (fetchState s).cfg = s.cfg := by rw [h]; rfl
  refine ⟨b, ?_⟩
  simp only [readyToExec, consume, hw, hcfg]
  conv_lhs => rw [h]
  rfl

end Taking

theorem fetchRuns : Claim.FetchRuns := by
  refine ⟨fun c => rfl, ?_⟩
  rintro n c i rest mandatory opcode hf hd rfl rfl
  have hrun := fetchExec_ok c n hd
  refine ⟨_, rfl, fun t h => by rw [hrun, h]; rfl, fun f h => by rw [hrun, h]; rfl, fun e h => by rw [hrun, h]; rfl, ?_⟩
  generalize maxInstrBytes - rest.length = len
  obtain ⟨b, hr⟩ := readyToExec_eq c i len
  have ht := takeBytes_taken ((c.setDec (recordedIn (fetchState c).dec i len c)).setNextIsFirst b) (len - i.lateBytes)
  have hnh := takeBytes_running ((c.setDec (recordedIn (fetchState c).dec i len c)).setNextIsFirst b) (len - i.lateBytes) hf
  have hsys := ht.system
  rw [hr]
  refine ⟨ht.ip, ht.gpr, congrArg System.seg hsys, ht.flags, ht.mem, congrArg System.cfg hsys, congrArg System.pins hsys,
    congrArg System.inhibit hsys, congrArg System.nmiLatch hsys, congrArg System.lock hsys, congrArg System.halted hsys, ht.lastEa,
    ht.devIn, ht.stale, congrArg System.sequences hsys, rfl, hnh, ht.bus.imp fun l hl => ⟨hl.2, hl.1⟩,
    fun hl => (congrArg System.dec hsys :).trans (recordedIn_of_goesOn c i len hl),
    fun hl => (congrArg System.dec hsys :).trans (recordedIn_of_begin c i len hl)⟩

/-- Settles O17: a step is the fetches that come first, then the decoding, with its record, and the meaning. -/
theorem stepRunsDecoded : Obligations.StepRunsDecoded := ⟨stepFetches, fetchRuns⟩

end Sys2Proof.Machine

namespace Sys2Proof.Machine
open Sys2Proof Host

/-! ### Loads of segment registers (40_data_transfer.md R305, R310, 46_undefined_opcodes.md R553, R565, log 46) -/

/-- The load of a segment register, once its word is read. -/
def loadSreg (g : SReg) (v : Word) (s : State) : State :=
  if g = .cs then loadCs v s else (s.setSreg g v).setInhibit true

/-- A segment register has taken a word and the inhibit is set; the registers, memory and the place in the instruction stream are as
before. The old CS stays a segment that code may come from. -/
structure SregLoaded (g : SReg) (v : Word) (s t : State) : Prop where
  system : t.system = { s.system with seg := s.seg.set g v, inhibit := true }
  gpr : t.gpr = s.gpr
  mem : t.mem = s.mem
  flags : t.flags = s.flags
  ip : t.ip = s.ip
  lastEa : t.lastEa = s.lastEa
  cs : g = .cs → t.stale = s.seg.cs :: s.stale ∧ Grown s t
  other : g ≠ .cs → t.stale = s.stale

theorem loadCs_loaded (v : Word) (s : State) : SregLoaded .cs v s (loadCs v s) where
  system := by simp [loadCs]
  gpr := prefetch_gpr s
  mem := prefetch_mem s
  flags := prefetch_flags s
  ip := prefetch_ip s
  lastEa := prefetch_lastEa s
  cs _ := ⟨by simp [loadCs], prefetch_grown s⟩
  other h := absurd rfl h

theorem loadSreg_loaded (g : SReg) (v : Word) (s : State) : SregLoaded g v s (loadSreg g v s) := by
  by_cases h : g = .cs
  · subst h
    exact loadCs_loaded v s
  · rw [loadSreg, if_neg h]
    exact ⟨rfl, rfl, rfl, rfl, rfl, rfl, fun e => absurd e h, fun _ => rfl⟩

theorem exec_movSreg (s : State) (rm : RM16) :
    ∀ p ∈ movSregForms, exec (p.2 rm) s = .next (loadSreg p.1 (load16 rm s).1 (load16 rm s).2) := by
  simp only [movSregForms, List.forall_mem_cons, List.not_mem_nil, false_imp_iff, implies_true, and_true]
  exact ⟨rfl, rfl, rfl, rfl, rfl, rfl, rfl, rfl⟩

theorem exec_popSreg (s : State) : ∀ p ∈ popSregForms, exec p.2 s = .next (loadSreg p.1 (pop16 s).1 (pop16 s).2) := by
  simp only [popSregForms, List.forall_mem_cons, List.not_mem_nil, false_imp_iff, implies_true, and_true]
  exact ⟨rfl, rfl, rfl, rfl⟩

/-- A load of a segment register after the read of its word, which has left the system part alone. -/
theorem SregLoaded.after {g : SReg} {v : Word} {s u t : State} (h : SregLoaded g v u t) (hs : u.system = s.system)
    (hst : u.stale = s.stale) (hq : Flow s u) :
    t.system = { s.system with seg := s.seg.set g v, inhibit := true } ∧
      (g = .cs → t.stale = s.seg.cs :: s.stale ∧ ∃ l, QueueGrew l s t) ∧ (g ≠ .cs → t.stale = s.stale) := by
  have hseg : u.seg = s.seg := congrArg System.seg hs
  refine ⟨by rw [h.system, hs, hseg], fun hg => ?_, fun hg => (h.other hg).trans hst⟩
  obtain ⟨hstale, hgrown⟩ := h.cs hg
  exact ⟨by rw [hstale, hseg, hst], hq.grown.trans hgrown⟩

theorem pop16_r16_sp (s : State) : (pop16 s).2.r16 .sp = s.r16 .sp + 2 := by
  rw [State.r16, pop16_gpr, Gpr.get_set_same]

theorem pop16_regsKeptBut (s : State) : RegsKeptBut [.sp] s (pop16 s).2 := fun r hr => by
  rw [State.r16, pop16_gpr, Gpr.get_set_ne _ _ _ _ (List.ne_of_not_mem_cons hr), State.r16]

theorem Segs.get_set (g : Segs) (r q : SReg) (v : Word) : (g.set r v).get q = if q = r then v else g.get q := by
  split
  · next h => rw [h, Segs.get_set_same]
  · next h => exact Segs.get_set_ne g r q v h

/-- Settles O34: each form reads its word by `load16` or `pop16`, which leave the system part alone, and then loads the register. -/
theorem loadSegment : Obligations.LoadSegment := by
  refine ⟨fun p hp rm s => ⟨_, exec_movSreg s rm p hp, ?_⟩, fun p hp s => ⟨_, exec_popSreg s p hp, ?_⟩, Segs.get_set⟩
  · have h := loadSreg_loaded p.1 (load16 rm s).1 (load16 rm s).2
    obtain ⟨hsys, hstale⟩ := h.after (load16_system s rm) (load16_stale s rm) (load16_flow s rm)
    exact ⟨hsys, ⟨h.gpr.trans (load16_gpr s rm), memKept_of_mem (h.mem.trans (load16_mem s rm))⟩,
      h.flags.trans (load16_flags s rm), h.ip.trans (load16_ip s rm), h.lastEa.trans (load16_lastEa s rm), hstale⟩
  · have h := loadSreg_loaded p.1 (pop16 s).1 (pop16 s).2
    obtain ⟨hsys, hstale⟩ := h.after (pop16_system s) (pop16_stale s) (pop16_flow s)
    exact ⟨hsys, (r16_of_gpr h.gpr .sp).trans (pop16_r16_sp s),
      fun r hr => (r16_of_gpr h.gpr r).trans (pop16_regsKeptBut s r hr), memKept_of_mem (h.mem.trans (pop16_mem s)),
      h.flags.trans (pop16_flags s), h.ip.trans (pop16_ip s), h.lastEa.trans (pop16_lastEa s), hstale⟩

end Sys2Proof.Machine

namespace Sys2Proof.Machine
open Sys2Proof Host

/-! ### Repetitions (43_string.md R441, R447, 47_v20_v30_extensions.md R582, R597) -/

section Elements
variable {s t u : State}

/-- An element leaves alone what the loop looks at: CX, IF, the place in the instruction stream and the system part. -/
structure ElementKeeps (s t : State) : Prop where
  cx : t.r16 .cx = s.r16 .cx
  interrupts : flagIF t.flags = flagIF s.flags
  ip : t.ip = s.ip
  lastEa : t.lastEa = s.lastEa
  system : t.system = s.system

theorem ElementKeeps.trans (h : ElementKeeps s t) (g : ElementKeeps t u) : ElementKeeps s u :=
  ⟨g.cx.trans h.cx, g.interrupts.trans h.interrupts, g.ip.trans h.ip, g.lastEa.trans h.lastEa, g.system.trans h.system⟩

/-- The accesses of an element write no register and no flag. -/
theorem ElementRan.keeps (h : ElementRan [] s.flags s t) : ElementKeeps s t :=
  ⟨h.regs .cx List.not_mem_nil, congrArg flagIF h.flags, h.ip, h.lastEa, h.system⟩

theorem ElementKeeps.setR16 (h : ElementKeeps s t) (r : Reg16) (v : Word) (hr : .cx ≠ r) : ElementKeeps s (t.setR16 r v) :=
  h.trans ⟨setR16_r16_ne t r .cx v hr, rfl, rfl, rfl, rfl⟩

theorem ElementKeeps.setAl (h : ElementKeeps s t) (v : Byte) : ElementKeeps s (t.setR8 .al v) :=
  h.trans ⟨setR8_r16_ne t .al .cx v (by decide), rfl, rfl, rfl, rfl⟩

theorem ElementKeeps.moveSi (h : ElementKeeps s t) (n : Word) : ElementKeeps s (moveSi n t) := h.setR16 .si _ (by decide)
theorem ElementKeeps.moveDi (h : ElementKeeps s t) (n : Word) : ElementKeeps s (moveDi n t) := h.setR16 .di _ (by decide)

/-- A comparison writes the status flags, IF is not among them. -/
theorem flagIF_aluFlags {n : Nat} (op : AluOp) (a b : BitVec n) (f : Word) : flagIF (aluFlags op a b f) = flagIF f := by
  rw [flagIF, aluFlags, putFlags_getLsbD _ _ _ _ (by decide)]
  rfl

theorem ElementKeeps.compare (h : ElementKeeps s t) {n : Nat} (a b : BitVec n) :
    ElementKeeps s (t.setFlags (aluFlags .cmp a b t.flags)) :=
  h.trans ⟨rfl, flagIF_aluFlags .cmp a b t.flags, rfl, rfl, rfl⟩

end Elements

section Forms
variable (s : State)

theorem movsElem8_keeps : ElementKeeps s (movsElem8 s) :=
  (((readSrc8_ran s).keeps.trans (writeDst8_ran _ _).keeps).moveSi 1).moveDi 1
theorem movsElem16_keeps : ElementKeeps s (movsElem16 s) :=
  (((readSrc16_ran s).keeps.trans (writeDst16_ran _ _).keeps).moveSi 2).moveDi 2
theorem cmpsElem8_keeps : ElementKeeps s (cmpsElem8 s) :=
  ((((readSrc8_ran s).keeps.trans (readDst8_ran _).keeps).compare _ _).moveSi 1).moveDi 1
theorem cmpsElem16_keeps : ElementKeeps s (cmpsElem16 s) :=
  ((((readSrc16_ran s).keeps.trans (readDst16_ran _).keeps).compare _ _).moveSi 2).moveDi 2
theorem scasElem8_keeps : ElementKeeps s (scasElem8 s) := ((readDst8_ran s).keeps.compare _ _).moveDi 1
theorem scasElem16_keeps : ElementKeeps s (scasElem16 s) := ((readDst16_ran s).keeps.compare _ _).moveDi 2
theorem lodsElem8_keeps : ElementKeeps s (lodsElem8 s) := ((readSrc8_ran s).keeps.setAl _).moveSi 1
theorem lodsElem16_keeps : ElementKeeps s (lodsElem16 s) := ((readSrc16_ran s).keeps.setR16 .ax _ (by decide)).moveSi 2
theorem stosElem8_keeps : ElementKeeps s (stosElem8 s) := (writeDst8_ran s _).keeps.moveDi 1
theorem stosElem16_keeps : ElementKeeps s (stosElem16 s) := (writeDst16_ran s _).keeps.moveDi 2
theorem insElem8_keeps : ElementKeeps s (insElem8 s) := ((ioReadByte_ran s _).keeps.trans (writeDst8_ran _ _).keeps).moveDi 1
theorem insElem16_keeps : ElementKeeps s (insElem16 s) := ((ioReadWord_ran s _).keeps.trans (writeDst16_ran _ _).keeps).moveDi 2
theorem outsElem8_keeps : ElementKeeps s (outsElem8 s) :=
  ((readSrc8_ran s).keeps.trans (ioWriteByte_ran _ _ _).keeps).moveSi 1
theorem outsElem16_keeps : ElementKeeps s (outsElem16 s) :=
  ((readSrc16_ran s).keeps.trans (ioWriteWord_ran _ _ _).keeps).moveSi 2

theorem stringForms_keep : ∀ p ∈ stringForms, ElementKeeps s (p.2.2 s) := by
  simp only [stringForms, List.forall_mem_cons, List.not_mem_nil, false_imp_iff, implies_true, and_true]
  exact ⟨movsElem8_keeps s, movsElem16_keeps s, cmpsElem8_keeps s, cmpsElem16_keeps s, stosElem8_keeps s, stosElem16_keeps s,
    lodsElem8_keeps s, lodsElem16_keeps s, scasElem8_keeps s, scasElem16_keeps s, insElem8_keeps s, insElem16_keeps s,
    outsElem8_keeps s, outsElem16_keeps s⟩

theorem exec_stringForm : ∀ p ∈ stringForms, exec p.1 s = .next (stringOp p.1 p.2.1 p.2.2 s) := by
  simp only [stringForms, List.forall_mem_cons, List.not_mem_nil, false_imp_iff, implies_true, and_true]
  exact ⟨rfl, rfl, rfl, rfl, rfl, rfl, rfl, rfl, rfl, rfl, rfl, rfl, rfl, rfl⟩

end Forms

section Iteration
variable {s : State} (i : Instr) (tests : Bool) {k : RepKind}

theorem stringOp_of_cx_zero (elem : State → State) (h : s.dec.rep = some k) (hcx : s.r16 .cx = 0) :
    stringOp i tests elem s = endString s := by
  simp only [stringOp, h, hcx, if_true]

/-- What an element leaves, with the count down by one (R441). -/
def counted (s : State) : State := s.setR16 .cx (s.r16 .cx - 1)

theorem stringOp_of_cx_ne_zero (elem : State → State) (h : s.dec.rep = some k) (hcx : s.r16 .cx ≠ 0) :
    stringOp i tests elem s = afterElement i tests k (counted (elem s)) := by
  simp only [stringOp, h, if_neg hcx, counted]

/-- The flag test or the count ends the repetition. -/
theorem afterElement_ends (h : (tests && repStops k s.flags) = true ∨ s.r16 .cx = 0) : afterElement i tests k s = endString s := by
  unfold afterElement
  rcases h with h | h
  · rw [if_pos h]
  · rw [if_pos h, ite_self]

theorem afterElement_interrupted (h : (tests && repStops k s.flags) = false) (hcx : s.r16 .cx ≠ 0)
    (ha : (s.interruptAcceptable || (s.cfg.repTfPerIteration && s.dec.tfAtStart)) = true) :
    afterElement i tests k s = interruptString s := by
  rw [afterElement, h, if_neg Bool.false_ne_true, if_neg hcx, if_pos ha]

theorem afterElement_goesOn (h : (tests && repStops k s.flags) = false) (hcx : s.r16 .cx ≠ 0)
    (ha : (s.interruptAcceptable || (s.cfg.repTfPerIteration && s.dec.tfAtStart)) = false) :
    afterElement i tests k s = continueString i s := by
  rw [afterElement, h, if_neg Bool.false_ne_true, if_neg hcx, ha, if_neg Bool.false_ne_true]

end Iteration

/-- The end of an iteration makes no access and writes only the place in the instruction stream and what the sequencer records. -/
structure IterationLeaves (s t : State) : Prop where
  gpr : t.gpr = s.gpr
  mem : t.mem = s.mem
  flags : t.flags = s.flags
  lastEa : t.lastEa = s.lastEa
  seg : t.seg = s.seg
  silent : Shows [] s t

theorem IterationLeaves.trans {s t u : State} (h : IterationLeaves s t) (g : IterationLeaves t u) : IterationLeaves s u :=
  ⟨g.gpr.trans h.gpr, g.mem.trans h.mem, g.flags.trans h.flags, g.lastEa.trans h.lastEa, g.seg.trans h.seg,
    h.silent.trans g.silent⟩

section Ends
variable (s : State)

theorem endString_leaves : IterationLeaves s (endString s) := ⟨rfl, rfl, rfl, rfl, rfl, .of_bus rfl⟩

theorem continueString_leaves (i : Instr) : IterationLeaves s (continueString i s) := ⟨rfl, rfl, rfl, rfl, rfl, .of_bus rfl⟩

/-- An interrupted repetition resumes at the first or the last of its prefixes: which one is a draw on the V20/V30 and a parameter on
the 8088/8086 (R441, R686, R597, log 17). -/
theorem interruptString_eq : ∃ (last : Bool) (d : Nat), (s.cfg.cpu.isNec = false → last = s.cfg.repResumeAtLastPrefix) ∧
    interruptString s = endString (nearTransfer (if last then s.dec.lastPrefixIp else s.dec.startIp) (s.setDraws d)) := by
  cases h : s.cfg.cpu.isNec with
  | true => exact ⟨_, s.draws + 1, nofun, by rw [interruptString, resumesAtLastPrefix, if_pos h]; rfl⟩
  | false => exact ⟨_, s.draws, fun _ => rfl, by rw [interruptString, resumesAtLastPrefix, h]; rfl⟩

theorem setDraws_leaves (d : Nat) : IterationLeaves s (s.setDraws d) := ⟨rfl, rfl, rfl, rfl, rfl, .of_bus rfl⟩

theorem nearTransfer_leaves (t : Word) : IterationLeaves s (nearTransfer t s) :=
  ⟨nearTransfer_gpr s t, nearTransfer_mem s t, nearTransfer_flags s t, nearTransfer_lastEa s t,
    congrArg System.seg (nearTransfer_system s t), (prefetch_fetched s).shows.trans (.of_bus rfl)⟩

theorem endString_fetchesAt {t : Word} (h : FetchesAt t s) : FetchesAt t (endString s) := h

theorem interruptString_leaves : IterationLeaves s (interruptString s) := by
  obtain ⟨last, d, -, h⟩ := interruptString_eq s
  rw [h]
  exact ((setDraws_leaves s d).trans (nearTransfer_leaves _ _)).trans (endString_leaves _)

theorem interruptString_system : (interruptString s).system = s.systemString := by
  obtain ⟨last, d, -, h⟩ := interruptString_eq s
  rw [h, endString_system]
  exact systemString_of_system (nearTransfer_system (s.setDraws d) _)

/-- IP is backed up to one of the prefixes, and the queue is emptied (R118, log 31). -/
theorem interruptString_fetchesAt : ∃ last : Bool, (s.cfg.cpu.isNec = false → last = s.cfg.repResumeAtLastPrefix) ∧
    FetchesAt (if last then s.dec.lastPrefixIp else s.dec.startIp) (interruptString s) := by
  obtain ⟨last, d, hlast, h⟩ := interruptString_eq s
  rw [h]
  exact ⟨last, hlast, endString_fetchesAt _ (nearTransfer_jumped _ _).1⟩

theorem afterElement_leaves (i : Instr) (tests : Bool) (k : RepKind) : IterationLeaves s (afterElement i tests k s) := by
  unfold afterElement
  split
  · exact endString_leaves s
  · split
    · exact endString_leaves s
    · split
      · exact interruptString_leaves s
      · exact continueString_leaves s i

end Ends

theorem repetitionOfNone : Claim.RepetitionOfNone := by
  intro p hp s hrep hcx
  obtain ⟨k, hk⟩ := Option.ne_none_iff_exists'.mp hrep
  have hx := exec_stringForm s p hp
  rw [stringOp_of_cx_zero _ _ _ hk hcx] at hx
  exact ⟨_, hx, ⟨rfl, memKept_of_mem rfl⟩, rfl, rfl, rfl, rfl, endString_system s⟩

/-- Whether an interrupt or a trap between iterations is acceptable is read in IF and the system part, which an element keeps. -/
theorem acceptable_of_system {s t : State} (h : t.system = s.system) (hif : flagIF t.flags = flagIF s.flags) :
    (t.interruptAcceptable || (t.cfg.repTfPerIteration && t.dec.tfAtStart)) =
      (s.nmiLatch || (s.pins.intr && flagIF s.flags && !s.inhibit) || (s.cfg.repTfPerIteration && s.dec.tfAtStart)) := by
  have hnmi : t.nmiLatch = s.nmiLatch := congrArg System.nmiLatch h
  have hpins : t.pins = s.pins := congrArg System.pins h
  have hinhibit : t.inhibit = s.inhibit := congrArg System.inhibit h
  have hcfg : t.cfg = s.cfg := congrArg System.cfg h
  have hdec : t.dec = s.dec := congrArg System.dec h
  rw [State.interruptAcceptable, hif, hnmi, hpins, hinhibit, hcfg, hdec]

theorem repetition : Claim.Repetition := by
  rintro p hp s u k stops accept hk hcx hu hstops rfl
  have hkeep : ElementKeeps s u := hu ▸ stringForms_keep s p hp
  have hx := exec_stringForm s p hp
  rw [stringOp_of_cx_ne_zero _ _ _ hk hcx, ← hu] at hx
  have hsys : (counted u).system = s.system := hkeep.system
  have hcfg : (counted u).cfg = s.cfg := congrArg System.cfg hsys
  have hdec : (counted u).dec = s.dec := congrArg System.dec hsys
  have hcount : (counted u).r16 .cx = s.r16 .cx - 1 := by rw [counted, setR16_r16_same, hkeep.cx]
  have hzero : (counted u).r16 .cx = 0 ↔ s.r16 .cx = 1 := by rw [hcount, sub_eq_zero]
  have htest : (p.2.1 && repStops k (counted u).flags) = stops := hstops.symm
  have haccept := acceptable_of_system (t := counted u) hsys hkeep.interrupts
  have hl := afterElement_leaves (counted u) p.1 p.2.1 k
  refine ⟨_, hx, (r16_of_gpr hl.gpr .cx).trans hcount, fun r hr => (r16_of_gpr hl.gpr r).trans (setR16_r16_ne u .cx r _ hr),
    memKept_of_mem hl.mem, hl.flags, hl.lastEa.trans hkeep.lastEa, hl.seg.trans (congrArg System.seg hsys),
    (Shows.of_bus rfl : Shows [] u (counted u)).trans hl.silent, fun hend => ?_, fun hs h1 ha => ?_, fun hs h1 ha => ?_⟩
  · rw [afterElement_ends p.1 p.2.1 (hend.imp htest.trans hzero.mpr)]
    exact ⟨(endString_system _).trans (systemString_of_system hsys), hkeep.ip⟩
  · rw [afterElement_interrupted p.1 p.2.1 (htest.trans hs) (hzero.not.mpr h1) (haccept.trans ha)]
    obtain ⟨last, hlast, hf⟩ := interruptString_fetchesAt (counted u)
    rw [hcfg] at hlast
    rw [hdec] at hf
    exact ⟨(interruptString_system _).trans (systemString_of_system hsys), last, hlast, hf⟩
  · rw [afterElement_goesOn p.1 p.2.1 (htest.trans hs) (hzero.not.mpr h1) (haccept.trans ha)]
    exact ⟨rfl, hkeep.ip, congrArg (fun d : DecodeState => { d with inRep := true, instr := some p.1 }) hdec⟩

/-- Settles O50: an iteration is an element, which keeps what the loop looks at but its flags, the count, and one of four ends. -/
theorem repeatedStrings : Obligations.RepeatedStrings := ⟨repetitionOfNone, repetition⟩

end Sys2Proof.Machine

namespace Sys2Proof

/-! ### What was encoded is decoded (30_encoding.md R190 to R203, 31_modrm_ea.md R232, 47_v20_v30_extensions.md R581, R598) -/

/-- First bytes for which the V20/V30 decoder has a row of its own (47_v20_v30_extensions.md R598). -/
def necRow (b : Byte) : Bool :=
  decide (b.toNat = 0x0F ∨ 0x60 ≤ b.toNat ∧ b.toNat ≤ 0x6F ∨ b.toNat = 0x8D ∨ 0xC0 ≤ b.toNat ∧ b.toNat ≤ 0xC1 ∨
    0xC4 ≤ b.toNat ∧ b.toNat ≤ 0xC5 ∨ 0xC8 ≤ b.toNat ∧ b.toNat ≤ 0xC9 ∨ 0xD0 ≤ b.toNat ∧ b.toNat ≤ 0xD3 ∨ b.toNat = 0xD6 ∨
    b.toNat = 0xF1 ∨ 0xFE ≤ b.toNat)

/-- Every other first byte means the same on all four CPUs. -/
theorem decodeNec_eq_intel {b : Byte} (bs : List Byte) (h : necRow b = false) : decodeNec b bs = decodeIntel b bs := by
  unfold decodeNec
  split
  case h_33 => rfl
  all_goals next heq =>
    rw [necRow, heq] at h
    exact absurd h (by decide)

section Cpu
variable {cpu : CpuModel} {b : Byte} {bs : List Byte} {r : DecodeResult}

theorem decode_intel (hc : (!cpu.isNec) = true) (h : decodeIntel b bs = r) : decode cpu (b :: bs) = r := by
  rw [decode, withByte_cons, if_neg (by simpa using hc), h]

theorem decode_nec (hc : cpu.isNec = true) (h : decodeNec b bs = r) : decode cpu (b :: bs) = r := by
  rw [decode, withByte_cons, if_pos hc, h]

theorem decode_both (hi : decodeIntel b bs = r) (hn : decodeNec b bs = r) : decode cpu (b :: bs) = r := by
  rw [decode, withByte_cons, hi, hn, ite_self]

theorem decode_shared (h : decodeIntel b bs = r) (hb : necRow b = false) : decode cpu (b :: bs) = r :=
  decode_both h ((decodeNec_eq_intel bs hb).trans h)

end Cpu

section Immediates
variable (reg : BitVec 3) (imm rest : List Byte) (k : BitVec 3 → RMRaw → List Byte → DecodeResult)

/-! The operand is taken and the bytes of the immediate are left. -/

theorem withRM_rm8_append (rm : RM8) (h : rm.wf = true) : withRM (rm.enc reg ++ imm ++ rest) k = k reg rm.raw (imm ++ rest) := by
  rw [List.append_assoc, withRM_rm8 rm h]

theorem withRM_rm16_append (rm : RM16) (h : rm.wf = true) : withRM (rm.enc reg ++ imm ++ rest) k = k reg rm.raw (imm ++ rest) := by
  rw [List.append_assoc, withRM_rm16 rm h]

end Immediates

/-- A word taken from its two bytes. -/
theorem ok_word (f : Word → Instr) (w : Word) (rest : List Byte) :
    DecodeResult.ok (f (wordOf (loByte w) (hiByte w))) rest = .ok (f w) rest := by rw [wordOf_bytes]

/-- A second byte that has no row of its own is the default row (47_v20_v30_extensions.md R581). -/
theorem decodeExt_default {op2 : Byte} (bs : List Byte) (h : (!isExtOpcode op2) = true) : decodeExt op2 bs = .ok (.ext0F op2) bs := by
  unfold decodeExt
  split
  case h_27 => rfl
  all_goals next heq => simp [isExtOpcode, heq] at h

/-- The eight opcodes of ESC, whose low bits are a part of the instruction (30_encoding.md R202). -/
theorem decodeIntel_esc (op : BitVec 3) (bs : List Byte) :
    decodeIntel (0xD8 ||| op.setWidth 8) bs = withRM bs fun reg rm bs => .ok (.esc op reg rm.rm16) bs := by
  have h : ∀ op : BitVec 3, op = 0 ∨ op = 1 ∨ op = 2 ∨ op = 3 ∨ op = 4 ∨ op = 5 ∨ op = 6 ∨ op = 7 := by decide
  rcases h op with rfl | rfl | rfl | rfl | rfl | rfl | rfl | rfl <;> rfl

/-- Settles O1, by the shape of the encoding: the decoder's row for the first byte reads back each part in turn. -/
theorem Machine.decodeOfEncode : Obligations.DecodeOfEncode := by
  intro cpu i rest hw hc
  cases i with
  -- the opcode and bytes that are read one by one
  | addAlIb _ | orAlIb _ | adcAlIb _ | sbbAlIb _ | andAlIb _ | subAlIb _ | xorAlIb _ | cmpAlIb _ | jo _ | jno _ | jb _
  | jnb _ | jz _ | jnz _ | jbe _ | ja _ | js _ | jns _ | jp _ | jnp _ | jl _ | jge _ | jle _ | jg _ | testAlIb _ | intIb _
  | aamIb _ | aadIb _ | loopnz _ | loopz _ | loop _ | jcxz _ | inAlIb _ | inAxIb _ | outIbAl _ | outIbAx _ | jmpJb _ | pushEs
  | popEs | pushCs | pushSs | popSs | pushDs | popDs | segEs | daa | segCs | das | segSs | aaa | segDs | aas | nop | xchgAxCx
  | xchgAxDx | xchgAxBx | xchgAxSp | xchgAxBp | xchgAxSi | xchgAxDi | cbw | cwd | wait | pushf | popf | sahf | lahf | movsb
  | movsw | cmpsb | cmpsw | stosb | stosw | lodsb | lodsw | scasb | scasw | ret | retf | int3 | into | iret | xlat | inAlDx
  | inAxDx | outDxAl | outDxAx | lock | repne | rep | hlt | cmc | clc | stc | cli | sti | cld | std =>
    exact decode_shared rfl rfl
  | joDup60 _ | jnoDup61 _ | jbDup62 _ | jnbDup63 _ | jzDup64 _ | jnzDup65 _ | jbeDup66 _ | jaDup67 _ | jsDup68 _
  | jnsDup69 _ | jpDup6A _ | jnpDup6B _ | jlDup6C _ | jgeDup6D _ | jleDup6E _ | jgDup6F _ | popCs | retC1 | retfC9 | salc
  | lockF1 | fe2 | fe3 | fe4 | fe5 | fe6 | fe7 =>
    exact decode_intel hc rfl
  | pushIbs _ | pusha | popa | undef62Mod3 | undef63 | repnc | repc | undef66 | undef67 | insb | insw | outsb
  | outsw | undefC0Reg6 | leave | undefD0Reg6 | undefD6 | undefF1 | undefFe2 | undefFe3 | undefFe4 | undefFe5 | undefFe6
  | undefFe7 | undef8DMod3 | undefC4Mod3 | undefC5Mod3 | undefFfReg3 | undefFfReg5 | add4s | sub4s | cmp4s | test1EbCl
  | test1EvCl | clr1EbCl | clr1EvCl | set1EbCl | set1EvCl | not1EbCl | not1EvCl | test1EbIb | test1EvIb | clr1EbIb | clr1EvIb
  | set1EbIb | set1EvIb | not1EbIb | not1EvIb | rol4 | ror4 | insFieldReg | insFieldImm | extFieldReg | extFieldImm | brkem =>
    exact decode_nec hc rfl
  | ext0F op2 => exact decode_nec hc (decodeExt_default rest hw)
  -- the opcode, with a register number in its low bits
  | incR16 r | decR16 r | pushR16 r | popR16 r | movR8Ib r _ => cases r <;> exact decode_shared rfl rfl
  | movR16Iv r imm => cases r <;> exact decode_shared (ok_word _ imm rest) rfl
  -- words
  | addAxIv imm | orAxIv imm | adcAxIv imm | sbbAxIv imm | andAxIv imm | subAxIv imm | xorAxIv imm | cmpAxIv imm
  | movAlOb imm | movAxOv imm | movObAl imm | movOvAx imm | testAxIv imm | retIw imm | retfIw imm | callJv imm | jmpJv imm =>
    exact decode_shared (ok_word _ imm rest) rfl
  | retIwC0 imm | retfIwC8 imm => exact decode_intel hc (ok_word _ imm rest)
  | pushIv imm => exact decode_nec hc (ok_word _ imm rest)
  | enter size level => exact decode_nec hc (ok_word (.enter · level) size rest)
  | callAp off sg => exact decode_shared ((ok_word (.callAp · _) off rest).trans (ok_word _ sg rest)) rfl
  | jmpAp off sg => exact decode_shared ((ok_word (.jmpAp · _) off rest).trans (ok_word _ sg rest)) rfl
  -- an operand of `mod` and `rm`
  | addEbGb rm _ | addGbEb _ rm | orEbGb rm _ | orGbEb _ rm | adcEbGb rm _ | adcGbEb _ rm | sbbEbGb rm _ | sbbGbEb _ rm
  | andEbGb rm _ | andGbEb _ rm | subEbGb rm _ | subGbEb _ rm | xorEbGb rm _ | xorGbEb _ rm | cmpEbGb rm _ | cmpGbEb _ rm
  | testEbGb rm _ | xchgEbGb rm _ | movEbGb rm _ | movGbEb _ rm =>
    exact decode_shared ((withRM_rm8 rm hw _ rest _).trans (by simp)) rfl
  | addEvGv rm _ | addGvEv _ rm | orEvGv rm _ | orGvEv _ rm | adcEvGv rm _ | adcGvEv _ rm | sbbEvGv rm _ | sbbGvEv _ rm
  | andEvGv rm _ | andGvEv _ rm | subEvGv rm _ | subGvEv _ rm | xorEvGv rm _ | xorGvEv _ rm | cmpEvGv rm _ | cmpGvEv _ rm
  | testEvGv rm _ | xchgEvGv rm _ | movEvGv rm _ | movGvEv _ rm | movEsEw rm | movCsEw rm | movSsEw rm | movDsEw rm
  | movEsEw4 rm | movCsEw5 rm | movSsEw6 rm | movDsEw7 rm | popEv rm | popEvReg1 rm | popEvReg2 rm | popEvReg3 rm
  | popEvReg4 rm | popEvReg5 rm | popEvReg6 rm | popEvReg7 rm =>
    exact decode_shared ((withRM_rm16 rm hw _ rest _).trans (by simp)) rfl
  | movEwSw rm sr | movEwSwHigh rm sr =>
    cases sr <;> exact decode_shared ((withRM_rm16 rm hw _ rest _).trans (by simp [SReg.code, SReg.ofCode])) rfl
  | esc op ext rm =>
    exact decode_shared ((decodeIntel_esc op _).trans ((withRM_rm16 rm hw ext rest _).trans (by simp)))
      (by clear * -; revert op; decide)
  | callEv rm | jmpEv rm | pushEv rm | pushEvReg7 rm =>
    refine decode_both ?_ ?_ <;> exact (withRM_rm16 rm hw _ rest _).trans (by simp)
  -- an operand of `mod` and `rm`, with its width and the shift count in the opcode
  | notEbEv rm | negEbEv rm | mulEbEv rm | imulEbEv rm | divEbEv rm | idivEbEv rm =>
    cases rm with
    | byte rm => exact decode_shared (b := 0xF6 ||| 0) ((withRM_rm8 rm hw _ rest _).trans (by simp [RMRaw.rmw])) rfl
    | word rm => exact decode_shared (b := 0xF6 ||| 1) ((withRM_rm16 rm hw _ rest _).trans (by simp [RMRaw.rmw])) rfl
  | incEbEv rm | decEbEv rm =>
    cases rm with
    | byte rm => refine decode_both (b := 0xFE ||| 0) ?_ ?_ <;> exact (withRM_rm8 rm hw _ rest _).trans (by simp [RMRaw.rmw])
    | word rm => refine decode_both (b := 0xFE ||| 1) ?_ ?_ <;> exact (withRM_rm16 rm hw _ rest _).trans (by simp [RMRaw.rmw])
  | setmo rm =>
    cases rm with
    | byte rm => exact decode_intel (b := 0xD0 ||| 0) hc ((withRM_rm8 rm hw _ rest _).trans (by simp [RMRaw.rmw]))
    | word rm => exact decode_intel (b := 0xD0 ||| 1) hc ((withRM_rm16 rm hw _ rest _).trans (by simp [RMRaw.rmw]))
  | setmoc rm =>
    cases rm with
    | byte rm => exact decode_intel (b := 0xD2 ||| 0) hc ((withRM_rm8 rm hw _ rest _).trans (by simp [RMRaw.rmw]))
    | word rm => exact decode_intel (b := 0xD2 ||| 1) hc ((withRM_rm16 rm hw _ rest _).trans (by simp [RMRaw.rmw]))
  | rolEbEv rm n | rorEbEv rm n | rclEbEv rm n | rcrEbEv rm n | shlEbEv rm n | shrEbEv rm n | sarEbEv rm n =>
    cases rm with
    | byte rm => cases n with
      | one => refine decode_both (b := 0xD0 ||| 0 ||| 0) ?_ ?_ <;>
          exact (withRM_rm8 rm hw _ rest _).trans (by simp [RMRaw.rmw, ShiftCount.ofBit])
      | cl => refine decode_both (b := 0xD0 ||| 0 ||| 2) ?_ ?_ <;>
          exact (withRM_rm8 rm hw _ rest _).trans (by simp [RMRaw.rmw, ShiftCount.ofBit])
    | word rm => cases n with
      | one => refine decode_both (b := 0xD0 ||| 1 ||| 0) ?_ ?_ <;>
          exact (withRM_rm16 rm hw _ rest _).trans (by simp [RMRaw.rmw, ShiftCount.ofBit])
      | cl => refine decode_both (b := 0xD0 ||| 1 ||| 2) ?_ ?_ <;>
          exact (withRM_rm16 rm hw _ rest _).trans (by simp [RMRaw.rmw, ShiftCount.ofBit])
  -- an operand of `mod` and `rm` and an immediate
  | addEbIb rm imm | orEbIb rm imm | adcEbIb rm imm | sbbEbIb rm imm | andEbIb rm imm | subEbIb rm imm | xorEbIb rm imm
  | cmpEbIb rm imm | addEbIb82 rm imm | orEbIb82 rm imm | adcEbIb82 rm imm | sbbEbIb82 rm imm | andEbIb82 rm imm
  | subEbIb82 rm imm | xorEbIb82 rm imm | cmpEbIb82 rm imm | movEbIb rm imm | movEbIbReg1 rm imm | movEbIbReg2 rm imm
  | movEbIbReg3 rm imm | movEbIbReg4 rm imm | movEbIbReg5 rm imm | movEbIbReg6 rm imm | movEbIbReg7 rm imm | testEbIb rm imm
  | testEbIbReg1 rm imm =>
    exact decode_shared ((withRM_rm8_append _ [imm] rest _ rm hw).trans (by simp)) rfl
  | addEvIbs rm imm | orEvIbs rm imm | adcEvIbs rm imm | sbbEvIbs rm imm | andEvIbs rm imm | subEvIbs rm imm
  | xorEvIbs rm imm | cmpEvIbs rm imm =>
    exact decode_shared ((withRM_rm16_append _ [imm] rest _ rm hw).trans (by simp)) rfl
  | addEvIv rm imm | orEvIv rm imm | adcEvIv rm imm | sbbEvIv rm imm | andEvIv rm imm | subEvIv rm imm | xorEvIv rm imm
  | cmpEvIv rm imm | movEvIv rm imm | movEvIvReg1 rm imm | movEvIvReg2 rm imm | movEvIvReg3 rm imm | movEvIvReg4 rm imm
  | movEvIvReg5 rm imm | movEvIvReg6 rm imm | movEvIvReg7 rm imm | testEvIv rm imm | testEvIvReg1 rm imm =>
    exact decode_shared ((withRM_rm16_append _ (wordBytes imm) rest _ rm hw).trans (by simp [wordBytes])) rfl
  | imulGvEvIv r rm imm =>
    exact decode_nec hc ((withRM_rm16_append _ (wordBytes imm) rest _ rm hw).trans (by simp [wordBytes]))
  | imulGvEvIbs r rm imm => exact decode_nec hc ((withRM_rm16_append _ [imm] rest _ rm hw).trans (by simp))
  | rolEbEvIb rm imm | rorEbEvIb rm imm | rclEbEvIb rm imm | rcrEbEvIb rm imm | shlEbEvIb rm imm | shrEbEvIb rm imm
  | sarEbEvIb rm imm =>
    cases rm with
    | byte rm => exact decode_nec (b := 0xC0 ||| 0) hc ((withRM_rm8_append _ [imm] rest _ rm hw).trans (by simp [RMRaw.rmw]))
    | word rm => exact decode_nec (b := 0xC0 ||| 1) hc ((withRM_rm16_append _ [imm] rest _ rm hw).trans (by simp [RMRaw.rmw]))
  -- rows split by `mod`
  | leaMod01 r m | leaMod2 r m | lesMod01 r m | lesMod2 r m | ldsMod01 r m | ldsMod2 r m | callMpMod01 m | callMpMod2 m
  | jmpMpMod01 m | jmpMpMod2 m =>
    obtain ⟨hm, hmod⟩ := Bool.and_eq_true_iff.mp hw
    refine decode_both ?_ ?_ <;> exact (withRM_mem m hm _ rest _).trans (by simpa using hmod)
  | boundMod01 r m | boundMod2 r m =>
    obtain ⟨hm, hmod⟩ := Bool.and_eq_true_iff.mp hw
    exact decode_nec hc ((withRM_mem m hm _ rest _).trans (by simpa using hmod))
  | leaMod3 r q | lesMod3 r q | ldsMod3 r q | callMpMod3 q | jmpMpMod3 q =>
    exact decode_intel hc ((withRM_reg q.code _ rest _).trans (by simp))

end Sys2Proof

namespace Sys2Proof.Machine
open Sys2Proof

/-! ### What comes before the opcode (30_encoding.md R192, R193, 45_processor_control.md R530, R531) -/

/-- The byte is read with its note in the decode state; only LOCK asserts the LOCK output. -/
theorem exec_prefix (s : State) : ∀ p ∈ prefixForms, exec p.1 s =
    .next ((prefixRead (p.2 s.dec) s).setLock (if p.1 = .lock ∨ p.1 = .lockF1 then true else s.lock)) := by
  simp only [prefixForms, List.forall_mem_cons, List.not_mem_nil, false_imp_iff, implies_true, and_true]
  exact ⟨rfl, rfl, rfl, rfl, rfl, rfl, rfl, rfl, rfl, rfl⟩

/-- Settles O48: every form is `prefixRead`, which writes the decode state and the phase. -/
theorem prefixesRecorded : Obligations.PrefixesRecorded := fun p hp s =>
  ⟨_, exec_prefix s p hp, rfl, rfl, rfl, ⟨rfl, memKept_of_mem rfl⟩, rfl, rfl, rfl, rfl, rfl, rfl⟩

/-! ### Interrupt instructions (44_control_transfer.md R490 to R492, 47_v20_v30_extensions.md R583, R596, 60_exceptions.md R620, R621) -/

theorem interruptSequence : Claim.InterruptSequence := fun n ret s => (interrupt_entered s n ret).1

theorem exec_into (s : State) : exec .into s = .next (if flagOF s.flags then interrupt 4 s.ip s else s) := rfl

theorem softwareInterrupt : Claim.SoftwareInterrupt := by
  intro s
  refine ⟨fun n => ⟨_, rfl, interrupt_entered s n s.ip⟩, ⟨_, rfl, interrupt_entered s 3 s.ip⟩, fun h => ?_, fun h => ?_⟩
  · exact ⟨_, (exec_into s).trans (by rw [if_pos h]), interrupt_entered s 4 s.ip⟩
  · rw [exec_into, h]
    rfl

section Undefined
variable (s : State)

theorem exec_undefined : ∀ i ∈ undefinedForms, exec i s = .next (undefinedOpcode s) := by
  simp only [undefinedForms, List.forall_mem_cons, List.not_mem_nil, false_imp_iff, implies_true, and_true]
  exact ⟨rfl, rfl, rfl, rfl, rfl, rfl, rfl, rfl, rfl, rfl, rfl⟩

theorem exec_undefinedGroup : ∀ i ∈ undefinedGroupForms, exec i s = .next (undefinedGroupForm s) := by
  simp only [undefinedGroupForms, List.forall_mem_cons, List.not_mem_nil, false_imp_iff, implies_true, and_true]
  exact ⟨rfl, rfl, rfl, rfl, rfl, rfl, rfl, rfl⟩

/-- An undefined opcode is INT 6 with the offset of its first byte. -/
theorem undefinedOpcode_entered : Entered 6 s.dec.startIp s.flags s (undefinedOpcode s) ∧ (undefinedOpcode s).lastEa = s.lastEa :=
  interrupt_entered s 6 s.dec.startIp

/-- A group form does the same, once the offset of its memory operand is computed (log 24). -/
theorem undefinedGroupForm_entered : Entered 6 s.dec.startIp s.flags s (undefinedGroupForm s) ∧
    (undefinedGroupForm s).lastEa = (match s.dec.operands.first with
      | .addressingMode m => eaOff m s
      | _ => s.lastEa) := by
  unfold undefinedGroupForm
  cases s.dec.operands.first with
  | addressingMode m =>
    obtain ⟨he, hl⟩ := undefinedOpcode_entered (s.setLastEa (eaOff m s))
    exact ⟨he.mono rfl rfl rfl, hl⟩
  | none | register8 _ | register16 _ | immediate8 _ | implicit => exact undefinedOpcode_entered s

end Undefined

section Pairs
variable {cpu : CpuModel} (hc : cpu.isNec = true) (reg : BitVec 3) (rest : List Byte)
include hc

/-- The record of an encoding with an operand of `mod` and `rm`. -/
theorem undefinedOperands_rmw (op : Byte) (rm : RMW) (h : rm.wf = true) :
    undefinedOperands cpu (op :: (rm.enc reg ++ rest)) = undefinedPair op reg rm.raw rest := by
  simp only [undefinedOperands, readRM_rmw rm h, hc, if_true]

/-- The same with `mod` 3. -/
theorem undefinedOperands_reg (op : Byte) (q : Reg16) :
    undefinedOperands cpu (op :: ((RM16.reg q).enc reg ++ rest)) = undefinedPair op reg (.reg q.code) rest :=
  undefinedOperands_rmw hc reg rest op (.word (.reg q)) rfl

variable {rm : RMW} (hw : rm.wf = true)
include hw

/-- Group 2 with an immediate has it as its second operand. -/
theorem undefinedGroup_immediate {op : Byte} (hop : op = 0xC0 ∨ op = 0xC1) (hbit : op &&& 1 = rm.wBit) (imm : Byte) :
    decode cpu (op :: (rm.enc 6 ++ imm :: rest)) = .ok .undefC0Reg6 rest ∧
    undefinedOperands cpu (op :: (rm.enc 6 ++ imm :: rest)) = rm.pair (.immediate8 imm) := by
  have hpair : undefinedPair op 6 rm.raw (imm :: rest) = rm.pair (.immediate8 imm) := by
    unfold undefinedPair
    rw [if_pos ⟨hop, rfl⟩, RMW.raw_rmw rm op hbit]
  refine ⟨?_, (undefinedOperands_rmw hc _ _ _ _ hw).trans hpair⟩
  rcases hop with rfl | rfl <;> exact decode_nec hc (withRM_rmw rm hw _ _ _)

/-- Group 2 by 1 or CL has its count as an implicit one. -/
theorem undefinedGroup_count {op : Byte} (hop : op = 0xD0 ∨ op = 0xD1 ∨ op = 0xD2 ∨ op = 0xD3) (hbit : op &&& 1 = rm.wBit) :
    decode cpu (op :: (rm.enc 6 ++ rest)) = .ok .undefD0Reg6 rest ∧
    undefinedOperands cpu (op :: (rm.enc 6 ++ rest)) = rm.pair .implicit := by
  have hpair : undefinedPair op 6 rm.raw rest = rm.pair .implicit := by
    unfold undefinedPair
    rw [if_neg (by rcases hop with rfl | rfl | rfl | rfl <;> decide), if_pos ⟨hop, rfl⟩, RMW.raw_rmw rm op hbit]
  refine ⟨?_, (undefinedOperands_rmw hc _ _ _ _ hw).trans hpair⟩
  rcases hop with rfl | rfl | rfl | rfl <;> exact decode_nec hc (withRM_rmw rm hw _ _ _)

/-- Group 4 has the one operand. -/
theorem undefinedGroup_alone (hreg : 2 ≤ reg.toNat) (hbit : 0xFE &&& 1 = rm.wBit) :
    (∃ i ∈ undefinedGroupForms, decode cpu (0xFE :: (rm.enc reg ++ rest)) = .ok i rest) ∧
    undefinedOperands cpu (0xFE :: (rm.enc reg ++ rest)) = rm.pair .none := by
  have hpair : undefinedPair 0xFE reg rm.raw rest = rm.pair .none := by
    unfold undefinedPair
    rw [if_neg (by simp), if_neg (by simp), if_pos ⟨rfl, hreg⟩, RMW.raw_rmw rm 0xFE hbit]
  refine ⟨?_, (undefinedOperands_rmw hc _ _ _ _ hw).trans hpair⟩
  have h : ∀ reg : BitVec 3, 2 ≤ reg.toNat → reg = 2 ∨ reg = 3 ∨ reg = 4 ∨ reg = 5 ∨ reg = 6 ∨ reg = 7 := by decide
  rcases h reg hreg with rfl | rfl | rfl | rfl | rfl | rfl <;>
    exact ⟨_, by decide, decode_nec hc ((withRM_rmw rm hw _ _ _).trans rfl)⟩

end Pairs

section Encodings
variable {cpu : CpuModel}

theorem undefinedGroup_encoded : ∀ p ∈ undefinedGroupCodes, ∀ (cpu : CpuModel) (rm : RMW) (imm : Byte) (tail rest bs : List Byte),
    cpu.isNec = true → rm.wf = true → p.1 &&& 1 = rm.wBit → tail = (if p.1 = 0xC0 ∨ p.1 = 0xC1 then imm :: rest else rest) →
    bs = p.1 :: (rm.enc p.2 ++ tail) →
    (∃ i ∈ undefinedGroupForms, decode cpu bs = .ok i rest) ∧
    undefinedOperands cpu bs =
      rm.pair (if p.1 = 0xC0 ∨ p.1 = 0xC1 then .immediate8 imm else if p.1 = 0xFE then .none else .implicit) := by
  rintro ⟨op, reg⟩ hp cpu rm imm tail rest bs hc hw hbit rfl rfl
  have hcodes : (op = 0xC0 ∨ op = 0xC1) ∧ reg = 6 ∨ (op = 0xD0 ∨ op = 0xD1 ∨ op = 0xD2 ∨ op = 0xD3) ∧ reg = 6 ∨
      op = 0xFE ∧ 2 ≤ reg.toNat := by
    revert hp
    clear hbit
    revert op reg
    decide
  rcases hcodes with ⟨hop, rfl⟩ | ⟨hop, rfl⟩ | ⟨rfl, hreg⟩
  · simp only [if_pos hop]
    obtain ⟨hd, ho⟩ := undefinedGroup_immediate hc rest hw hop hbit imm
    exact ⟨⟨_, by decide, hd⟩, ho⟩
  · have himm : ¬(op = 0xC0 ∨ op = 0xC1) := by rcases hop with rfl | rfl | rfl | rfl <;> decide
    have halone : op ≠ 0xFE := by rcases hop with rfl | rfl | rfl | rfl <;> decide
    simp only [if_neg himm, if_neg halone]
    obtain ⟨hd, ho⟩ := undefinedGroup_count hc rest hw hop hbit
    exact ⟨⟨_, by decide, hd⟩, ho⟩
  · exact undefinedGroup_alone hc reg rest hw hreg hbit

/-- BOUND, LEA, LES and LDS with a register in place of memory (47_v20_v30_extensions.md R583). -/
theorem undefinedRegisters_encoded (op : Byte) (r q : Reg16) (rest : List Byte) (hc : cpu.isNec = true)
    (hop : op ∈ [0x62, 0x8D, 0xC4, 0xC5]) :
    (∃ i ∈ undefinedForms, decode cpu (op :: ((RM16.reg q).enc r.code ++ rest)) = .ok i rest) ∧
    undefinedOperands cpu (op :: ((RM16.reg q).enc r.code ++ rest)) =
      { first := .register16 r, second := .register16 q, size := .operand16 } := by
  have hpair : undefinedPair op r.code (.reg q.code) rest = { first := .register16 r, second := .register16 q, size := .operand16 } := by
    simp only [List.mem_cons, List.not_mem_nil, or_false] at hop
    rcases hop with rfl | rfl | rfl | rfl <;> simp [undefinedPair]
  refine ⟨?_, (undefinedOperands_reg hc _ _ _ q).trans hpair⟩
  simp only [List.mem_cons, List.not_mem_nil, or_false] at hop
  rcases hop with rfl | rfl | rfl | rfl <;> exact ⟨_, by decide, decode_nec hc (withRM_reg q.code _ rest _)⟩

/-- The far CALL and JMP with a register in place of memory. -/
theorem undefinedFar_encoded (n : BitVec 3) (q : Reg16) (rest : List Byte) (hc : cpu.isNec = true) (hn : n ∈ [3, 5]) :
    (∃ i ∈ undefinedForms, decode cpu (0xFF :: ((RM16.reg q).enc n ++ rest)) = .ok i rest) ∧
    undefinedOperands cpu (0xFF :: ((RM16.reg q).enc n ++ rest)) = { first := .register16 q, second := .none, size := .operand16 } := by
  have hpair : undefinedPair 0xFF n (.reg q.code) rest = { first := .register16 q, second := .none, size := .operand16 } := by
    simp only [List.mem_cons, List.not_mem_nil, or_false] at hn
    rcases hn with rfl | rfl <;> simp [undefinedPair, RMW.pair, RMW.operand, RMW.size]
  refine ⟨?_, (undefinedOperands_reg hc _ _ _ q).trans hpair⟩
  simp only [List.mem_cons, List.not_mem_nil, or_false] at hn
  rcases hn with rfl | rfl <;> exact ⟨_, by decide, decode_nec hc (withRM_reg q.code _ rest _)⟩

/-- The 8088/8086 has no undefined encoding. -/
theorem undefinedOperands_intel (bs : List Byte) (hc : cpu.isNec = false) : undefinedOperands cpu bs = OperandPair.empty := by
  cases bs with
  | nil => rfl
  | cons op tail =>
    simp only [undefinedOperands, hc]
    cases readRM tail <;> rfl

end Encodings

theorem undefinedOpcodeTrap : Claim.UndefinedOpcodeTrap := by
  refine ⟨fun i hi s => ⟨_, exec_undefined s i hi, undefinedOpcode_entered s⟩,
    fun i hi s => ⟨_, exec_undefinedGroup s i hi, undefinedGroupForm_entered s⟩, undefinedGroup_encoded, ?_, ?_,
    fun _ => undefinedOperands_intel, fun b s => ⟨_, rfl, undefinedOpcode_entered s⟩⟩
  · rintro op r q cpu rest bs hc hop rfl
    exact undefinedRegisters_encoded op r q rest hc hop
  · rintro n q cpu rest bs hc hn rfl
    exact undefinedFar_encoded n q rest hc hn

/-- Settles O45: each form is the INT sequence, and its encoding is read by the row of its first byte. -/
theorem interruptInstructions : Obligations.InterruptInstructions := ⟨interruptSequence, softwareInterrupt, undefinedOpcodeTrap⟩

end Sys2Proof.Machine

namespace Sys2Proof.Machine
open Sys2Proof

/-! ### What is decoded (30_encoding.md R190, R203, R204, 47_v20_v30_extensions.md R581, R598) -/

/-- Settles O3: the decoder computes. -/
theorem decodeSampleWords : Obligations.DecodeSampleWords :=
  ⟨rfl, rfl, rfl, rfl, rfl, rfl, rfl, rfl, rfl, rfl, rfl, rfl⟩

/-- The decoder, where it finds an instruction in the bytes, finds one of the kind `P` in at most `n` bytes at their front. -/
structure Takes (P : Instr → Prop) (n : Nat) (bs : List Byte) (r : DecodeResult) : Prop where
  front : ∀ i rest, r = .ok i rest → P i ∧ ∃ pre, bs = pre ++ rest ∧ pre.length ≤ n

/-- What `mod` and `rm` select has an encoding. -/
def RawWf : RMRaw → Bool
  | .reg _ => true
  | .mem m => m.wf

@[simp] theorem rm8_wf (rm : RMRaw) : rm.rm8.wf = RawWf rm := by cases rm <;> rfl
@[simp] theorem rm16_wf (rm : RMRaw) : rm.rm16.wf = RawWf rm := by cases rm <;> rfl
@[simp] theorem rmw_wf (rm : RMRaw) (op : Byte) : (rm.rmw op).wf = RawWf rm := by
  unfold RMRaw.rmw
  split <;> simp [RMW.wf]

section Rules
variable {P : Instr → Prop} {n : Nat} {bs : List Byte}

theorem takes_ok {i : Instr} (h : P i) : Takes P n bs (.ok i bs) := by
  refine ⟨fun j rest hj => ?_⟩
  cases hj
  exact ⟨h, [], rfl, n.zero_le⟩

/-- More bytes at the front. -/
theorem takes_append {m : Nat} {pre : List Byte} {r : DecodeResult} (hp : pre.length ≤ m) (h : Takes P n bs r) :
    Takes P (n + m) (pre ++ bs) r := by
  refine ⟨fun i rest hr => ?_⟩
  obtain ⟨hi, pre', rfl, hlen⟩ := h.front i rest hr
  exact ⟨hi, pre ++ pre', (List.append_assoc ..).symm, by simp only [List.length_append]; omega⟩

theorem takes_rejected (e : DecodeError) : Takes P n bs (.rejected e) :=
  ⟨fun _ _ h => by cases h⟩

theorem takes_byte {k : Byte → List Byte → DecodeResult} (h : ∀ b tl, Takes P n tl (k b tl)) :
    Takes P (n + 1) bs (withByte bs k) := by
  cases bs with
  | nil => exact takes_rejected _
  | cons b tl => exact takes_append (pre := [b]) le_rfl (h b tl)

theorem takes_word {k : Word → List Byte → DecodeResult} (h : ∀ w tl, Takes P n tl (k w tl)) :
    Takes P (n + 2) bs (withWord bs k) := by
  match bs with
  | [] | [_] => exact takes_rejected _
  | lo :: hi :: tl => exact takes_append (pre := [lo, hi]) le_rfl (h _ tl)

/-! The two sides of a row split by `mod` (30_encoding.md R201). -/

theorem mod2_wf {m : Mem} (hm : RawWf (.mem m) = true) (h : m.isMod2 = true) : (m.wf && m.isMod2) = true := by
  rw [h, Bool.and_true]
  exact hm

theorem mod01_wf {m : Mem} (hm : RawWf (.mem m) = true) (h : ¬m.isMod2 = true) : (m.wf && !m.isMod2) = true := by
  rw [Bool.not_eq_true] at h
  rw [h, Bool.not_false, Bool.and_true]
  exact hm

theorem ind_wf : ∀ n : BitVec 3, n ≠ 6#3 → (Mem.ind (Base.ofCode n)).wf = true := by decide

/-- ModR/M and displacement are at most three bytes, and the form without displacement is never `[BP]`. -/
theorem readRM_front {reg : BitVec 3} {rm : RMRaw} {rest : List Byte} (h : readRM bs = some (reg, rm, rest)) :
    RawWf rm = true ∧ ∃ pre, bs = pre ++ rest ∧ pre.length ≤ 3 := by
  unfold readRM at h
  split at h
  · cases h
  next x tl =>
    dsimp only at h
    split at h
    · split at h
      · split at h
        · cases h
          exact ⟨rfl, [x, _, _], rfl, by simp⟩
        · cases h
        · cases h
      · next hrm =>
        cases h
        exact ⟨ind_wf _ hrm, [x], rfl, by simp⟩
    · cases h
      exact ⟨rfl, [x, _], rfl, by simp⟩
    · cases h
    · cases h
      exact ⟨rfl, [x, _, _], rfl, by simp⟩
    · cases h
    · cases h
    · cases h
      exact ⟨rfl, [x], rfl, by simp⟩

theorem takes_rm {k : BitVec 3 → RMRaw → List Byte → DecodeResult}
    (h : ∀ reg rm tl, RawWf rm = true → Takes P n tl (k reg rm tl)) : Takes P (n + 3) bs (withRM bs k) := by
  unfold withRM
  split
  · next hrm =>
    obtain ⟨hw, pre, rfl, hlen⟩ := readRM_front hrm
    exact takes_append hlen (h _ _ _ hw)
  · exact takes_rejected _

theorem Takes.mono {Q : Instr → Prop} {r : DecodeResult} (ht : Takes P n bs r) (h : ∀ i, P i → Q i) : Takes Q n bs r :=
  ⟨fun i rest hr => (ht.front i rest hr).imp_left (h i)⟩

end Rules

/-- An instruction of a CPU that has an encoding. -/
def Finds (cpu : CpuModel) (i : Instr) : Prop := i.wf = true ∧ i.on cpu = true

/-- What the 8088/8086 has for the first byte `b` is an instruction of the V20/V30 too, where these have no row of their own. -/
def IntelFinds (b : Byte) (i : Instr) : Prop := i.wf = true ∧ i.on .i8088 = true ∧ (necRow b = false → i.on .v20 = true)

section Decoders
variable {b : Byte} {bs : List Byte}

/-! The rules are directed by what the decoder does next: it answers, reads a part, or looks at a value. What remains is, of each
instruction, that it has an encoding, with its CPUs. -/

/-- The rows that all CPUs share. -/
theorem decodeShared_takes : ∀ row ∈ [decodeRow1, decodeRow2, decodeRow3, decodeRow4, decodeRow5, decodeRow7, decodeRow9, decodeRowA,
    decodeRowB, decodeRowE], Takes (IntelFinds b) 5 bs (row b bs) := by
  simp only [List.forall_mem_cons, List.not_mem_nil, false_imp_iff, implies_true, and_true, decodeRow1, decodeRow2, decodeRow3,
    decodeRow4, decodeRow5, decodeRow7, decodeRow9, decodeRowA, decodeRowB, decodeRowE]
  refine ⟨?_, ?_, ?_, ?_, ?_, ?_, ?_, ?_, ?_, ?_⟩
  all_goals split
  all_goals repeat' first | apply takes_ok | apply takes_byte | apply takes_word | apply takes_rm | intro _
  all_goals first
    | exact ⟨rfl, rfl, fun _ => rfl⟩
    | exact ⟨(rm8_wf _).trans ‹_›, rfl, fun _ => rfl⟩
    | exact ⟨(rm16_wf _).trans ‹_›, rfl, fun _ => rfl⟩

/-- The rows of which the V20/V30 has a part of its own. -/
theorem decodeOwn_takes : ∀ p ∈ [(0, decodeRow0), (6, decodeRow6), (8, decodeRow8), (12, decodeRowC), (13, decodeRowD),
    (15, decodeRowF)], b.toNat / 16 = p.1 → Takes (IntelFinds b) 5 bs (p.2 b bs) := by
  simp only [List.forall_mem_cons, List.not_mem_nil, false_imp_iff, implies_true, and_true, decodeRow0, decodeRow6,
    decodeRow8, decodeRowC, decodeRowD, decodeRowF]
  refine ⟨fun hb => ?_, fun hb => ?_, fun hb => ?_, fun hb => ?_, fun hb => ?_, fun hb => ?_⟩
  all_goals split
  all_goals repeat' first | apply takes_ok | apply takes_byte | apply takes_word | apply takes_rm | intro _ | split
  all_goals first
    | exact ⟨rfl, rfl, fun _ => rfl⟩
    | exact ⟨(rm8_wf _).trans ‹_›, rfl, fun _ => rfl⟩
    | exact ⟨(rm16_wf _).trans ‹_›, rfl, fun _ => rfl⟩
    | exact ⟨(rmw_wf _ _).trans ‹_›, rfl, fun _ => rfl⟩
    -- rows split by `mod`
    | exact ⟨mod2_wf ‹_› ‹_›, rfl, fun _ => rfl⟩
    | exact ⟨mod01_wf ‹_› ‹_›, rfl, fun _ => rfl⟩
    -- instructions of the 8088/8086 alone
    | exact ⟨rfl, rfl, fun hn => absurd hn (by grind [necRow])⟩
    | exact ⟨(rmw_wf _ _).trans ‹_›, rfl, fun hn => absurd hn (by grind [necRow])⟩

theorem decodeIntel_takes : Takes (IntelFinds b) 5 bs (decodeIntel b bs) := by
  have hs := decodeShared_takes (b := b) (bs := bs)
  have ho := decodeOwn_takes (b := b) (bs := bs)
  simp only [List.forall_mem_cons, List.not_mem_nil, false_imp_iff, implies_true, and_true] at hs ho
  obtain ⟨h1, h2, h3, h4, h5, h7, h9, hA, hB, hE⟩ := hs
  obtain ⟨h0, h6, h8, hC, hD, hF⟩ := ho
  have hlt := b.isLt
  unfold decodeIntel
  split
  case h_16 =>
    simp only [imp_false] at *
    exact hF (by omega)
  exacts [h0 ‹_›, h1, h2, h3, h4, h5, h6 ‹_›, h7, h8 ‹_›, h9, hA, hB, hC ‹_›, hD ‹_›, hE]

theorem decodeExt_takes : Takes (Finds .v20) 4 bs (decodeExt b bs) := by
  unfold decodeExt
  split
  case h_27 =>
    simp only [imp_false] at *
    have hw : (!isExtOpcode b) = true := by simp [isExtOpcode, *]
    exact takes_ok ⟨hw, rfl⟩
  all_goals repeat' first | exact takes_ok ⟨rfl, rfl⟩ | apply takes_byte | apply takes_rm | intro _

theorem decodeNec_takes : Takes (Finds .v20) 5 bs (decodeNec b bs) := by
  have hshared : necRow b = false → Takes (Finds .v20) 5 bs (decodeIntel b bs) := fun hb =>
    decodeIntel_takes.mono fun i ⟨hw, _, hon⟩ => ⟨hw, hon hb⟩
  unfold decodeNec
  split
  case h_33 =>
    simp only [imp_false] at *
    exact hshared (decide_eq_false (by omega))
  all_goals repeat' first
    | exact decodeExt_takes | apply takes_ok | apply takes_byte | apply takes_word | apply takes_rm | intro _ | split
  all_goals first
    | exact ⟨rfl, rfl⟩
    | exact ⟨(rm16_wf _).trans ‹_›, rfl⟩
    | exact ⟨(rmw_wf _ _).trans ‹_›, rfl⟩
    | exact ⟨mod2_wf ‹_› ‹_›, rfl⟩
    | exact ⟨mod01_wf ‹_› ‹_›, rfl⟩

end Decoders

/-- The decoder takes a first byte. -/
theorem decode_takes (cpu : CpuModel) (b : Byte) (bs : List Byte) : Takes (Finds cpu) 5 bs (decode cpu (b :: bs)) := by
  cases cpu with
  | i8088 | i8086 => exact decodeIntel_takes.mono fun i ⟨hw, hon, _⟩ => ⟨hw, hon⟩
  | v20 | v30 => exact decodeNec_takes

theorem decodeWellFormed : Claim.DecodeWellFormed := by
  intro cpu bs i rest h
  cases bs with
  | nil => cases h
  | cons b bs =>
    obtain ⟨⟨hw, hon⟩, pre, rfl, hlen⟩ := (decode_takes cpu b bs).front i rest h
    exact ⟨hw, hon, b :: pre, rfl, by simp, Nat.succ_le_succ hlen⟩

/-- Settles O2: the decoder's reads take at most five bytes after the first, and six bytes are enough for each of them. -/
theorem decodeSound : Obligations.DecodeSound := ⟨decodeWellFormed, decodeTotal⟩

end Sys2Proof.Machine

namespace Sys2Proof.Machine
open Sys2Proof

/-! ### Effective addresses and what operands read as (31_modrm_ea.md R232 to R241, 32_decode_sequencer.md R270 to R272) -/

section DefaultSegment

/-- The bases with BP default to SS (R238). -/
theorem baseSeg_eq_ss_iff (b : Base) : baseSeg b = .ss ↔ b = .bp ∨ b = .bpsi ∨ b = .bpdi := by
  cases b <;> decide

theorem baseSeg_ss_or_ds (b : Base) : baseSeg b = .ss ∨ baseSeg b = .ds := by
  cases b <;> decide

/-- A memory form defaults to SS where its base has BP; a direct address has no base. -/
theorem defaultSeg_eq_ss_iff (m : Mem) : defaultSeg m = .ss ↔
    ∃ c, (c = .bp ∨ c = .bpsi ∨ c = .bpdi) ∧ (m = .ind c ∨ (∃ e, m = .disp8 c e) ∨ ∃ e, m = .disp16 c e) := by
  cases m with
  | direct o => simp [defaultSeg]
  | ind b => simp [defaultSeg, baseSeg_eq_ss_iff]
  | disp8 b d => simp [defaultSeg, baseSeg_eq_ss_iff]
  | disp16 b d => simp [defaultSeg, baseSeg_eq_ss_iff]

theorem defaultSeg_ss_or_ds (m : Mem) : defaultSeg m = .ss ∨ defaultSeg m = .ds := by
  cases m with
  | direct o => exact .inr rfl
  | ind b | disp8 b d | disp16 b d => exact baseSeg_ss_or_ds b

end DefaultSegment

theorem effectiveAddress : Claim.EffectiveAddress := fun s _ _ _ =>
  ⟨rfl, rfl, rfl, rfl, rfl, rfl, rfl, rfl, rfl, rfl, rfl, rfl, fun m => segOr_eq_getD s (defaultSeg m), defaultSeg_eq_ss_iff,
    defaultSeg_ss_or_ds⟩

section MemoryOperands
variable (s : State) (m : Mem)

theorem value8_mem (h : s.isMemory (lin (s.sreg (eaSeg m s)) (eaOff m s))) :
    (RM8.mem m).value s = s.byteAt (lin (s.sreg (eaSeg m s)) (eaOff m s)) :=
  readByte_memory (s.setLastEa (eaOff m s)) (accessOf (eaSeg m s)) _ _ h

theorem value16_mem (h : s.wordInMemory (s.sreg (eaSeg m s)) (eaOff m s)) :
    (RM16.mem m).value s = s.wordAt (s.sreg (eaSeg m s)) (eaOff m s) :=
  readWord_memory (s.setLastEa (eaOff m s)) (accessOf (eaSeg m s)) _ _ h

/-- The latch takes a byte with a high byte of 0 (R272, log 43). -/
theorem load8_mem_eaOpr : (load8 (.mem m) s).2.eaOpr = ((RM8.mem m).value s).setWidth 16 := rfl

theorem load16_mem_eaOpr : (load16 (.mem m) s).2.eaOpr = (RM16.mem m).value s := rfl

end MemoryOperands

theorem operandRead : Claim.OperandRead := fun s m _ _ =>
  ⟨rfl, rfl, value8_mem s m, value16_mem s m, load8_lastEa s (.mem m), load16_lastEa s (.mem m), load8_mem_eaOpr s m,
    load16_mem_eaOpr s m, rfl, rfl⟩

section FarPointers
variable (s : State) (r : SReg) (off : Word)

/-- The state between the two words of a far pointer: the first is in the latch. -/
def farOffsetRead : State :=
  (readWord (accessOf r) (s.sreg r) off s).2.setEaOpr (readWord (accessOf r) (s.sreg r) off s).1

theorem readFar_eq : readFar r off s = ((readWord (accessOf r) (s.sreg r) off s).1,
    readWord (accessOf r) (s.sreg r) (off + 2) (farOffsetRead s r off)) := rfl

theorem farOffsetRead_mem : (farOffsetRead s r off).mem = s.mem := by simp [farOffsetRead]
theorem farOffsetRead_cfg : (farOffsetRead s r off).cfg = s.cfg := by simp [farOffsetRead]

theorem readFar_offset (h : s.wordInMemory (s.sreg r) off) : (readFar r off s).1 = s.wordAt (s.sreg r) off :=
  readWord_memory s _ _ _ h

/-- Reading the offset word has changed neither memory nor its map. -/
theorem readFar_segment (h : s.wordInMemory (s.sreg r) (off + 2)) :
    (readFar r off s).2.1 = s.wordAt (s.sreg r) (off + 2) := by
  rw [readFar_eq, readWord_memory _ _ _ _ (wordInMemory_of_cfg (farOffsetRead_cfg s r off) _ _ h),
    wordAt_of_mem (farOffsetRead_mem s r off)]

theorem readFar_leaves : NothingWritten s (readFar r off s).2.2 ∧ (readFar r off s).2.2.flags = s.flags ∧
    Ordinary s (readFar r off s).2.2 := by
  obtain ⟨⟨hgpr, hmem⟩, hflags, -, hip, hsys⟩ := readWord_leaves s (accessOf r) (s.sreg r) off
  obtain ⟨⟨hgpr', hmem'⟩, hflags', -, hip', hsys'⟩ :=
    readWord_leaves (farOffsetRead s r off) (accessOf r) (s.sreg r) (off + 2)
  exact ⟨⟨hgpr'.trans hgpr, fun a => (hmem' a).trans (hmem a)⟩, hflags'.trans hflags, hip'.trans hip, hsys'.trans hsys⟩

end FarPointers

theorem farPointerRead : Claim.FarPointerRead := fun r off s =>
  ⟨readFar_offset s r off, readFar_segment s r off, readFar_leaves s r off⟩

/-- Settles O11: the segment of an effective address is by cases on the base, and operands and far pointers are reads at it. -/
theorem operandValues : Obligations.OperandValues := ⟨effectiveAddress, operandRead, farPointerRead⟩

end Sys2Proof.Machine

namespace Sys2Proof.Machine
open Sys2Proof

/-! ### Shifts and rotates (42_logic_shift_rotate.md R406 to R408, 47_v20_v30_extensions.md R591) -/

section Shifts
variable (s : State) (op : ShiftOp)

theorem shiftOut_zero {n : Nat} (a : BitVec n) : shiftOut op 0 a s = (none, s.flags) := rfl

theorem shiftOut_pos {n count : Nat} (h : 0 < count) (a : BitVec n) : shiftOut op count a s =
    (some (shiftIter op count (flagCF s.flags) a).2,
      shiftFlags op count (shiftIter op count (flagCF s.flags) a).1 (shiftIter op count (flagCF s.flags) a).2 s.flags) :=
  if_neg h.ne'

/-- A shift looks only at the flags, and at its count. -/
theorem shiftOut_congr {s t : State} {n : Nat} (count : Nat) (a : BitVec n) (hf : t.flags = s.flags) :
    shiftOut op count a t = shiftOut op count a s := by rw [shiftOut, shiftOut, hf]

theorem shiftCount_congr {s t : State} (n : ShiftCount) (hg : t.gpr = s.gpr) (hc : t.cfg = s.cfg) :
    shiftCount n t = shiftCount n s := by
  cases n with
  | one => rfl
  | cl => rw [shiftCount, shiftCount, r8_of_gpr hg, hc]

/-- The count is that of the state before the load of the operand. -/
theorem shiftOut_shiftCount_congr {s t : State} {k : Nat} (n : ShiftCount) (a : BitVec k) (hg : t.gpr = s.gpr)
    (hf : t.flags = s.flags) (hc : t.cfg = s.cfg) :
    shiftOut op (shiftCount n t) a t = shiftOut op (shiftCount n s) a s := by
  rw [shiftCount_congr n hg hc, shiftOut_congr op _ a hf]

theorem shiftRM_modified (rm : RMW) (n : ShiftCount) :
    ModifiedW rm (fun a => shiftOut op (shiftCount n s) a s) (fun a => shiftOut op (shiftCount n s) a s) s
      (shiftRM op rm n s) :=
  modifyW_modified s rm (fun a t => shiftOut op (shiftCount n t) a t) (fun a t => shiftOut op (shiftCount n t) a t)
    (fun a _ => shiftOut_shiftCount_congr op n a) (fun a _ => shiftOut_shiftCount_congr op n a)

theorem shiftImm_modified (rm : RMW) (imm : Byte) :
    ModifiedLateW 1 rm (fun a => shiftOut op (imm &&& s.cfg.shiftCountMask).toNat a s)
      (fun a => shiftOut op (imm &&& s.cfg.shiftCountMask).toNat a s) s (shiftImm op rm imm s) :=
  modifyW_late s 1 rm _ _ (fun a _ _ hf _ => shiftOut_congr op _ a hf) (fun a _ _ hf _ => shiftOut_congr op _ a hf)

end Shifts

theorem exec_shiftForms {p : ShiftOp × (RMW → ShiftCount → Instr)} (hp : p ∈ shiftForms) (rm : RMW) (n : ShiftCount)
    (s : State) : exec (p.2 rm n) s = .next (shiftRM p.1 rm n s) := by
  simp only [shiftForms, List.mem_cons, List.not_mem_nil, or_false] at hp
  rcases hp with rfl | rfl | rfl | rfl | rfl | rfl | rfl <;> rfl

theorem exec_shiftImmForms {p : ShiftOp × (RMW → Byte → Instr)} (hp : p ∈ shiftImmForms) (rm : RMW) (imm : Byte)
    (s : State) : exec (p.2 rm imm) s = .next (shiftImm p.1 rm imm s) := by
  simp only [shiftImmForms, List.mem_cons, List.not_mem_nil, or_false] at hp
  rcases hp with rfl | rfl | rfl | rfl | rfl | rfl | rfl <;> rfl

theorem shiftRotate : Claim.ShiftRotate := by
  intro p hp rm n s count hcount
  have hn : count = shiftCount n s := by cases n <;> exact hcount
  have h := shiftRM_modified s p.1 rm n
  rw [← hn] at h
  refine ⟨fun h0 => ⟨_, exec_shiftForms hp rm n s, ?_⟩, fun hpos => ⟨_, exec_shiftForms hp rm n s, ?_⟩⟩
  · rw [h0] at h
    exact h
  · simpa only [shiftOut_pos s p.1 hpos] using h

theorem shiftRotateImmediate : Claim.ShiftRotateImmediate := by
  intro p hp rm imm s count hcount
  have h := shiftImm_modified s p.1 rm imm
  rw [← hcount] at h
  refine ⟨fun h0 => ⟨_, exec_shiftImmForms hp rm imm s, ?_⟩, fun hpos => ⟨_, exec_shiftImmForms hp rm imm s, ?_⟩⟩
  · rw [h0] at h
    exact h
  · simpa only [shiftOut_pos s p.1 hpos] using h

/-- Settles O26: every form is one operation on its operand, which looks only at the flags and at its count. -/
theorem shiftRotateForms : Obligations.ShiftRotateForms := ⟨shiftRotate, shiftRotateImmediate⟩

end Sys2Proof.Machine

namespace Sys2Proof.Machine
open Sys2Proof

/-! ### Products in twice the width -/

section Widened
variable {n m : Nat}

/-- A product of zero-extended factors does not wrap. -/
theorem toNat_setWidth_mul (h : n * 2 ≤ m) (a b : BitVec n) :
    (a.setWidth m * b.setWidth m).toNat = a.toNat * b.toNat := by
  have hlt : a.toNat * b.toNat < 2 ^ m := BitVec.toNat_mul_toNat_lt.trans_le (Nat.pow_le_pow_right (by decide) h)
  rw [BitVec.toNat_mul, BitVec.toNat_setWidth, BitVec.toNat_setWidth, ← Nat.mul_mod, Nat.mod_eq_of_lt hlt]

/-- A product of sign-extended factors does not wrap. -/
theorem toInt_signExtend_mul (hn : 0 < n) (h : n * 2 ≤ m) (a b : BitVec n) :
    (a.signExtend m * b.signExtend m).toInt = a.toInt * b.toInt := by
  have hle : a.toInt * b.toInt ≤ 2 ^ (n * 2 - 2) := BitVec.toInt_mul_toInt_le
  have hge : -2 ^ (n * 2 - 2) ≤ a.toInt * b.toInt := BitVec.le_toInt_mul_toInt
  have hfour : (2 : Int) ^ (n * 2 - 2) * 2 ^ 2 = 2 ^ (n * 2) := pow_sub_mul_pow 2 (by omega)
  have hm : (2 : Int) ^ (n * 2) ≤ 2 ^ m := pow_le_pow_right₀ (by decide) h
  have hpos : (0 : Int) < 2 ^ (n * 2 - 2) := by positivity
  rw [BitVec.toInt_mul, BitVec.toInt_signExtend_of_le (by omega), BitVec.toInt_signExtend_of_le (by omega)]
  apply Int.bmod_eq_of_le_mul_two <;> push_cast <;> omega

/-- A word is the sign extension of a narrower one when they stand for the same integer. -/
theorem bne_signExtend (h : n ≤ m) (x : BitVec m) (y : BitVec n) :
    (x != y.signExtend m) = decide (x.toInt ≠ y.toInt) := by
  rw [← BitVec.toInt_signExtend_of_le (x := y) h, bne, beq_eq_decide, ← decide_not]
  exact decide_eq_decide.mpr (not_congr BitVec.toInt_inj.symm)

end Widened

theorem toNat_append_word (hi lo : Word) : (hi ++ lo).toNat = hi.toNat * 65536 + lo.toNat := by
  rw [BitVec.toNat_append, ← Nat.shiftLeft_add_eq_or_of_lt lo.isLt, Nat.shiftLeft_eq]

/-! ### What the parts of a multiplication write -/

section OnlyRegs
variable {l : List Reg16} {mask : Word} {s t u : State}

theorem OnlyRegs.trans (h : OnlyRegs l mask s t) (g : OnlyRegs l mask t u) : OnlyRegs l mask s u := by
  obtain ⟨hr, hf, hm, hip, hsys⟩ := h
  obtain ⟨gr, gf, gm, gip, gsys⟩ := g
  exact ⟨fun r h => (gr r h).trans (hr r h), gf.trans hf, fun a => (gm a).trans (hm a), gip.trans hip, gsys.trans hsys⟩

/-- Nothing that the frame speaks of has changed. -/
theorem onlyRegs_of_eq (hg : t.gpr = s.gpr) (hf : t.flags = s.flags) (hm : t.mem = s.mem) (ho : Ordinary s t) :
    OnlyRegs l mask s t :=
  ⟨fun r _ => r16_of_gpr hg r, flagsKeptBut_of_eq mask hf, memKept_of_mem hm, ho⟩

theorem load8_onlyRegs (s : State) (rm : RM8) : OnlyRegs l mask s (load8 rm s).2 :=
  onlyRegs_of_eq (load8_gpr s rm) (load8_flags s rm) (load8_mem s rm) (load8_ordinary s rm)

theorem load16_onlyRegs (s : State) (rm : RM16) : OnlyRegs l mask s (load16 rm s).2 :=
  onlyRegs_of_eq (load16_gpr s rm) (load16_flags s rm) (load16_mem s rm) (load16_ordinary s rm)

/-- The load of an operand with an immediate of `k` bytes after it, which IP passes. -/
theorem loaded16_onlyRegs (s : State) (k : Nat) (rm : RM16) : OnlyRegs l mask (s.past k) (loaded16 k rm s) :=
  onlyRegs_of_eq (loaded16_gpr s k rm) (loaded16_flags s k rm) (loaded16_mem s k rm)
    ⟨loaded16_ip s k rm, loaded16_system s k rm⟩

theorem setR16_onlyRegs (s : State) {r : Reg16} (hr : r ∈ l) (v : Word) : OnlyRegs l mask s (s.setR16 r v) :=
  ⟨fun q hq => setR16_r16_ne s r q v fun e => hq (e ▸ hr), rfl, fun _ => rfl, rfl, rfl⟩

theorem freeIfRep_onlyRegs (s : State) (w : Word) : OnlyRegs l mask s (freeIfRep w s).2 := by
  unfold freeIfRep
  split
  · exact onlyRegs_of_eq rfl rfl rfl ⟨rfl, rfl⟩
  · exact onlyRegs_of_eq rfl rfl rfl ⟨rfl, rfl⟩

/-- The flags that a multiplication writes and those that it leaves free are status flags (R368). -/
theorem mulFlags_onlyRegs (s : State) (b : Bool) : OnlyRegs l statusMask s (mulFlags b s) := by
  have hfree : (mulFlags b s).flags &&& ~~~statusMask = (s.setFlags _).flags &&& ~~~statusMask :=
    kept_mono (havocFlags_kept _ _) (by decide)
  exact ⟨fun _ _ => rfl, hfree.trans (kept_mono (putFlags_kept (cfMask ||| ofMask) _ s.flags) (by decide)), fun _ => rfl,
    rfl, rfl⟩

end OnlyRegs

section Parts
variable (s : State)

@[simp] theorem freeIfRep_lastEa (w : Word) : (freeIfRep w s).2.lastEa = s.lastEa := by
  unfold freeIfRep
  split
  · rfl
  · rfl

theorem freeIfRep_of_not_rep (w : Word) (h : s.repBefore = false) : freeIfRep w s = (w, s) := by simp [freeIfRep, h]

theorem repBefore_of_dec {s t : State} (h : t.dec = s.dec) : t.repBefore = s.repBefore := by
  rw [State.repBefore, State.repBefore, h]

@[simp] theorem mulFlags_lastEa (b : Bool) : (mulFlags b s).lastEa = s.lastEa := rfl
@[simp] theorem mulFlags_r16 (b : Bool) (r : Reg16) : (mulFlags b s).r16 r = s.r16 r := rfl

/-- CF and OF are outside the flags that are free. -/
@[simp] theorem flagCF_mulFlags (b : Bool) : flagCF (mulFlags b s).flags = b :=
  (putFlags_getLsbD _ _ _ 0 (by decide)).trans (flagCF_putStatus b false false false false b _ _ (by decide))

@[simp] theorem flagOF_mulFlags (b : Bool) : flagOF (mulFlags b s).flags = b :=
  (putFlags_getLsbD _ _ _ 11 (by decide)).trans (flagOF_putStatus b false false false false b _ _ (by decide))

end Parts

end Sys2Proof.Machine

namespace Sys2Proof.Machine
open Sys2Proof

/-! ### Multiplication (41_arithmetic.md R368, R369, 47_v20_v30_extensions.md R589) -/

section Multiply
variable (s : State) (signed : Bool)

theorem mul8_onlyRegs (rm : RM8) : OnlyRegs [.ax] statusMask s (mul8 signed rm s) :=
  (((load8_onlyRegs s rm).trans (freeIfRep_onlyRegs _ _)).trans (setR16_onlyRegs _ (by decide) _)).trans (mulFlags_onlyRegs _ _)

theorem mul8_lastEa (rm : RM8) : (mul8 signed rm s).lastEa = rm.ea s :=
  (freeIfRep_lastEa _ _).trans (load8_lastEa s rm)

/-- The byte product, unless REP makes it free (log 15). -/
theorem mul8_ax (rm : RM8) (h : s.repBefore = false) : (mul8 signed rm s).r16 .ax =
    if signed then (s.r8 .al).signExtend 16 * (rm.value s).signExtend 16 else zext16 (s.r8 .al) * zext16 (rm.value s) := by
  have hrep : (load8 rm s).2.repBefore = false := (repBefore_of_dec (load8_dec s rm)).trans h
  have hal : (load8 rm s).2.r8 .al = s.r8 .al := r8_of_gpr (load8_gpr s rm) .al
  rw [mul8, mulFlags_r16, setR16_r16_same, freeIfRep_of_not_rep _ _ hrep, hal, RM8.value]

/-- CF and OF follow the product that stands in AX. -/
theorem mul8_flags (rm : RM8) : let t := mul8 signed rm s
    let wide := if signed then t.r16 .ax != (t.r8 .al).signExtend 16 else t.r8 .ah != 0
    flagCF t.flags = wide ∧ flagOF t.flags = wide := by
  simp only [r8_al, r8_ah, mul8, mulFlags_r16, setR16_r16_same, flagCF_mulFlags, flagOF_mulFlags, and_self]

theorem mul16_onlyRegs (rm : RM16) : OnlyRegs [.ax, .dx] statusMask s (mul16 signed rm s) :=
  (((((load16_onlyRegs s rm).trans (freeIfRep_onlyRegs _ _)).trans (freeIfRep_onlyRegs _ _)).trans
    (setR16_onlyRegs _ (by decide) _)).trans (setR16_onlyRegs _ (by decide) _)).trans (mulFlags_onlyRegs _ _)

theorem mul16_lastEa (rm : RM16) : (mul16 signed rm s).lastEa = rm.ea s :=
  (freeIfRep_lastEa _ _).trans ((freeIfRep_lastEa _ _).trans (load16_lastEa s rm))

/-- The word product, unless REP makes it free (log 15). -/
theorem mul16_dx_ax (rm : RM16) (h : s.repBefore = false) :
    ((mul16 signed rm s).r16 .dx ++ (mul16 signed rm s).r16 .ax : BitVec 32) =
      if signed then (s.r16 .ax).signExtend 32 * (rm.value s).signExtend 32
      else (s.r16 .ax).setWidth 32 * (rm.value s).setWidth 32 := by
  have hrep : (load16 rm s).2.repBefore = false := (repBefore_of_dec (load16_dec s rm)).trans h
  have hax : (load16 rm s).2.r16 .ax = s.r16 .ax := r16_of_gpr (load16_gpr s rm) .ax
  simp only [mul16, mulFlags_r16, setR16_r16_same, setR16_r16_ne _ .ax .dx _ (by decide), freeIfRep_of_not_rep _ _ hrep, hax]
  exact BitVec.extractLsb'_append_extractLsb' (w := 16) (len := 16)

/-- CF and OF follow the product that stands in DX:AX. -/
theorem mul16_flags (rm : RM16) : let t := mul16 signed rm s
    let wide := if signed then (t.r16 .dx ++ t.r16 .ax : BitVec 32) != (t.r16 .ax).signExtend 32 else t.r16 .dx != 0
    flagCF t.flags = wide ∧ flagOF t.flags = wide := by
  simp only [mul16, mulFlags_r16, setR16_r16_same, setR16_r16_ne _ .ax .dx _ (by decide), flagCF_mulFlags, flagOF_mulFlags,
    and_self]

end Multiply

theorem multiplyUnsigned : Claim.MultiplyUnsigned := by
  refine ⟨fun rm s => ⟨_, rfl, mul8_onlyRegs s false rm, mul8_lastEa s false rm, (mul8_flags s false rm).1,
      (mul8_flags s false rm).2, fun h => ?_⟩,
    fun rm s => ⟨_, rfl, mul16_onlyRegs s false rm, mul16_lastEa s false rm, (mul16_flags s false rm).1,
      (mul16_flags s false rm).2, fun h => ?_⟩⟩
  · have hp := mul8_ax s false rm h
    exact (congrArg BitVec.toNat hp).trans (toNat_setWidth_mul (by decide) _ _)
  · have hp := mul16_dx_ax s false rm h
    rw [← toNat_append_word]
    exact (congrArg BitVec.toNat hp).trans (toNat_setWidth_mul (by decide) _ _)

theorem multiplySigned : Claim.MultiplySigned := by
  refine ⟨fun rm s => ?_, fun rm s => ?_⟩
  · obtain ⟨hcf, hof⟩ := mul8_flags s true rm
    have hwide := bne_signExtend (by decide) ((mul8 true rm s).r16 .ax) ((mul8 true rm s).r8 .al)
    refine ⟨_, rfl, mul8_onlyRegs s true rm, mul8_lastEa s true rm, hcf.trans hwide, hof.trans hwide, fun h => ?_⟩
    exact (congrArg BitVec.toInt (mul8_ax s true rm h)).trans (toInt_signExtend_mul (by decide) (by decide) _ _)
  · obtain ⟨hcf, hof⟩ := mul16_flags s true rm
    have hwide := bne_signExtend (by decide) ((mul16 true rm s).r16 .dx ++ (mul16 true rm s).r16 .ax)
      ((mul16 true rm s).r16 .ax)
    refine ⟨_, rfl, mul16_onlyRegs s true rm, mul16_lastEa s true rm, hcf.trans hwide, hof.trans hwide, fun h => ?_⟩
    exact (congrArg BitVec.toInt (mul16_dx_ax s true rm h)).trans (toInt_signExtend_mul (by decide) (by decide) _ _)

/-- A product fits in a word when reducing it modulo 2^16 leaves it as it is. -/
theorem bmod_word_eq_iff (p : Int) : p.bmod 65536 = p ↔ -32768 ≤ p ∧ p ≤ 32767 := by
  rw [Int.bmod_eq_iff (by decide)]
  omega

section MultiplyImmediate
variable (s : State) (k : Nat) (r : Reg16) (rm : RM16) (imm : Word)

theorem imulImm_onlyRegs : OnlyRegs [r] statusMask (s.past k) (imulImm k r rm imm s) :=
  ((loaded16_onlyRegs s k rm).trans (setR16_onlyRegs _ List.mem_cons_self _)).trans (mulFlags_onlyRegs _ _)

theorem imulImm_lastEa : (imulImm k r rm imm s).lastEa = rm.ea s := loaded16_lastEa s k rm

theorem imulImm_product :
    ((imulImm k r rm imm s).r16 r).toInt = ((rm.value s).toInt * imm.toInt).bmod 65536 := by
  rw [imulImm, mulFlags_r16, setR16_r16_same, BitVec.toInt_ofInt, RM16.value]

/-- CF and OF say that the product does not fit. -/
theorem imulImm_flags : let t := imulImm k r rm imm s
    let lost := decide ((t.r16 r).toInt ≠ (rm.value s).toInt * imm.toInt)
    flagCF t.flags = lost ∧ flagOF t.flags = lost := by
  have hfits := bmod_word_eq_iff ((rm.value s).toInt * imm.toInt)
  have hlost : decide ((rm.value s).toInt * imm.toInt < -32768 ∨ 32767 < (rm.value s).toInt * imm.toInt) =
      decide (((imulImm k r rm imm s).r16 r).toInt ≠ (rm.value s).toInt * imm.toInt) := by
    rw [imulImm_product, decide_eq_decide, Ne, hfits]
    omega
  exact ⟨(flagCF_mulFlags _ _).trans hlost, (flagOF_mulFlags _ _).trans hlost⟩

end MultiplyImmediate

theorem multiplyImmediate : Claim.MultiplyImmediate := by
  refine ⟨fun r rm imm s => ?_, fun r rm imm s => ?_⟩
  · obtain ⟨hcf, hof⟩ := imulImm_flags s 2 r rm imm
    exact ⟨_, rfl, imulImm_onlyRegs s 2 r rm imm, imulImm_lastEa s 2 r rm imm, imulImm_product s 2 r rm imm, hcf, hof⟩
  · have himm : (sext16 imm).toInt = imm.toInt := BitVec.toInt_signExtend_of_le (by decide)
    have hp := imulImm_product s 1 r rm (sext16 imm)
    obtain ⟨hcf, hof⟩ := imulImm_flags s 1 r rm (sext16 imm)
    rw [himm] at hp hcf hof
    exact ⟨_, rfl, imulImm_onlyRegs s 1 r rm (sext16 imm), imulImm_lastEa s 1 r rm (sext16 imm), hp, hcf, hof⟩

/-- Settles O28: a multiplication is a load, the writes of its product and its flags; in twice the width no product wraps. -/
theorem multiplyProducts : Obligations.MultiplyProducts := ⟨multiplyUnsigned, multiplySigned, multiplyImmediate⟩

end Sys2Proof.Machine

namespace Sys2Proof.Machine
open Sys2Proof

/-! ### Reads before a write

An instruction of this family reads its operand, if it has to, and then writes one place. -/

/-- The instruction has written nothing yet: of the parts that a frame speaks of, only `last_ea`, now `ea`, may have changed. -/
structure OnlyRead (ea : Word) (s u : State) : Prop where
  gpr : u.gpr = s.gpr
  mem : u.mem = s.mem
  flags : u.flags = s.flags
  lastEa : u.lastEa = ea
  ordinary : Ordinary s u

section OnlyRead
variable {ea : Word} {s u : State}

theorem OnlyRead.refl : OnlyRead s.lastEa s s := ⟨rfl, rfl, rfl, rfl, rfl, rfl⟩

theorem onlyRead_setLastEa (s : State) (v : Word) : OnlyRead v s (s.setLastEa v) := ⟨rfl, rfl, rfl, rfl, rfl, rfl⟩

theorem onlyRead_bumpDraws (s : State) : OnlyRead s.lastEa s s.bumpDraws := ⟨rfl, rfl, rfl, rfl, rfl, rfl⟩

theorem load8_onlyRead (s : State) (rm : RM8) : OnlyRead (rm.ea s) s (load8 rm s).2 :=
  ⟨load8_gpr s rm, load8_mem s rm, load8_flags s rm, load8_lastEa s rm, load8_ordinary s rm⟩

theorem load16_onlyRead (s : State) (rm : RM16) : OnlyRead (rm.ea s) s (load16 rm s).2 :=
  ⟨load16_gpr s rm, load16_mem s rm, load16_flags s rm, load16_lastEa s rm, load16_ordinary s rm⟩

theorem OnlyRead.readByte (h : OnlyRead ea s u) (acc : Access) (sv off : Word) : OnlyRead ea s (readByte acc sv off u).2 where
  gpr := (readByte_gpr u acc sv off).trans h.gpr
  mem := (readByte_mem u acc sv off).trans h.mem
  flags := (readByte_flags u acc sv off).trans h.flags
  lastEa := (readByte_lastEa u acc sv off).trans h.lastEa
  ordinary := ⟨(readByte_ip u acc sv off).trans h.ordinary.1, (readByte_system u acc sv off).trans h.ordinary.2⟩

theorem OnlyRead.readWord (h : OnlyRead ea s u) (acc : Access) (sv off : Word) : OnlyRead ea s (readWord acc sv off u).2 where
  gpr := (readWord_gpr u acc sv off).trans h.gpr
  mem := (readWord_mem u acc sv off).trans h.mem
  flags := (readWord_flags u acc sv off).trans h.flags
  lastEa := (readWord_lastEa u acc sv off).trans h.lastEa
  ordinary := ⟨(readWord_ip u acc sv off).trans h.ordinary.1, (readWord_system u acc sv off).trans h.ordinary.2⟩

theorem OnlyRead.setEaOpr (h : OnlyRead ea s u) (v : Word) : OnlyRead ea s (u.setEaOpr v) :=
  ⟨h.gpr, h.mem, h.flags, h.lastEa, h.ordinary⟩

theorem OnlyRead.readFar (h : OnlyRead ea s u) (r : SReg) (off : Word) : OnlyRead ea s (readFar r off u).2.2 :=
  ((h.readWord _ _ _).setEaOpr _).readWord _ _ _

/-- The write of a byte register after the read. -/
theorem OnlyRead.setR8 (h : OnlyRead ea s u) (r : Reg8) (v : Byte) : Stored8 (.reg r) v s (u.setR8 r v) ∧
    (u.setR8 r v).flags = s.flags ∧ (u.setR8 r v).lastEa = ea ∧ Ordinary s (u.setR8 r v) :=
  ⟨setR8_stored r v h.gpr h.mem, h.flags, h.lastEa, h.ordinary⟩

/-- The write of a word register after the read. -/
theorem OnlyRead.setR16 (h : OnlyRead ea s u) (r : Reg16) (v : Word) : Stored16 (.reg r) v s (u.setR16 r v) ∧
    (u.setR16 r v).flags = s.flags ∧ (u.setR16 r v).lastEa = ea ∧ Ordinary s (u.setR16 r v) :=
  ⟨setR16_stored r v h.gpr h.mem, h.flags, h.lastEa, h.ordinary⟩

theorem OnlyRead.seg (h : OnlyRead ea s u) : u.seg = s.seg := congrArg System.seg h.ordinary.2

theorem OnlyRead.cfg (h : OnlyRead ea s u) : u.cfg = s.cfg := congrArg System.cfg h.ordinary.2

/-- The write of a byte operand after the read. -/
theorem OnlyRead.writePlace8 (h : OnlyRead ea s u) (rm : RM8) (v : Byte) :
    let t := writePlace8 (resolve8 rm s).1 v u
    Stored8 rm v s t ∧ t.flags = s.flags ∧ t.lastEa = ea ∧ Ordinary s t :=
  ⟨writePlace8_stored rm v h.gpr h.mem h.cfg, (writePlace8_flags ..).trans h.flags, (writePlace8_lastEa ..).trans h.lastEa,
    (writePlace8_ip ..).trans h.ordinary.1, (writePlace8_system ..).trans h.ordinary.2⟩

/-- The write of a word operand after the read. -/
theorem OnlyRead.writePlace16 (h : OnlyRead ea s u) (rm : RM16) (v : Word) :
    let t := writePlace16 (resolve16 rm s).1 v u
    Stored16 rm v s t ∧ t.flags = s.flags ∧ t.lastEa = ea ∧ Ordinary s t :=
  ⟨writePlace16_stored rm v h.gpr h.mem h.cfg, (writePlace16_flags ..).trans h.flags, (writePlace16_lastEa ..).trans h.lastEa,
    (writePlace16_ip ..).trans h.ordinary.1, (writePlace16_system ..).trans h.ordinary.2⟩

end OnlyRead

/-! ### MOV (40_data_transfer.md R300 to R304, 46_undefined_opcodes.md R560, R561) -/

section Stores
variable (s : State)

/-- Everything that a store can do, of a value which the address of the operand does not change. -/
theorem store8_modified {v : State → Byte} {b : Byte} (rm : RM8) (h : v (resolve8 rm s).2 = b) :
    Modified8 rm (some b, s.flags) s (store8 rm v s) :=
  ⟨h ▸ store8_stored s rm v, store8_flags s rm v, store8_lastEa s rm v, store8_ordinary s rm v⟩

theorem store16_modified {v : State → Word} {w : Word} (rm : RM16) (h : v (resolve16 rm s).2 = w) :
    Modified16 rm (some w, s.flags) s (store16 rm v s) :=
  ⟨h ▸ store16_stored s rm v, store16_flags s rm v, store16_lastEa s rm v, store16_ordinary s rm v⟩

/-- MOV of a segment register: its value does not depend on the address either. -/
theorem store16_sreg_modified (rm : RM16) (g : SReg) :
    Modified16 rm (some (s.sreg g), s.flags) s (store16 rm (fun t => t.sreg g) s) :=
  store16_modified s rm (congrArg (fun q => Segs.get q g) (resolve16_seg s rm))

theorem movToMoffs8_eq_store (o : Word) : movToMoffs8 o s = store8 (.mem (.direct o)) (fun t => t.r8 .al) s := rfl

theorem movToMoffs16_eq_store (o : Word) : movToMoffs16 o s = store16 (.mem (.direct o)) (fun t => t.r16 .ax) s := rfl

theorem exec_movEbIb {p : RM8 → Byte → Instr} (hp : p ∈ movEbIbForms) (rm : RM8) (imm : Byte) :
    exec (p rm imm) s = .next (store8 rm (fun _ => imm) s) := by
  simp only [movEbIbForms, List.mem_cons, List.not_mem_nil, or_false] at hp
  rcases hp with rfl | rfl | rfl | rfl | rfl | rfl | rfl | rfl <;> rfl

theorem exec_movEvIv {p : RM16 → Word → Instr} (hp : p ∈ movEvIvForms) (rm : RM16) (imm : Word) :
    exec (p rm imm) s = .next (store16 rm (fun _ => imm) s) := by
  simp only [movEvIvForms, List.mem_cons, List.not_mem_nil, or_false] at hp
  rcases hp with rfl | rfl | rfl | rfl | rfl | rfl | rfl | rfl <;> rfl

end Stores

theorem moveByte : Claim.MoveByte := by
  refine ⟨fun rm r s => ⟨_, rfl, ?_⟩, fun p hp rm imm s => ⟨_, exec_movEbIb s hp rm imm, ?_⟩, fun r imm s => ⟨_, rfl, ?_⟩,
    fun o s => ⟨_, rfl, ?_⟩, fun r rm s => ⟨_, rfl, ?_⟩, fun o s => ⟨_, rfl, ?_⟩⟩
  · exact store8_modified s rm (r8_of_gpr (resolve8_gpr s rm) r)
  · exact store8_modified s rm rfl
  · exact OnlyRead.refl.setR8 r imm
  · rw [movToMoffs8_eq_store]
    exact store8_modified s _ rfl
  · exact (load8_onlyRead s rm).setR8 r (rm.value s)
  · exact ((onlyRead_setLastEa s o).readByte _ _ _).setR8 .al _

theorem moveWord : Claim.MoveWord := by
  refine ⟨fun rm r s => ⟨_, rfl, ?_⟩, fun p hp rm imm s => ⟨_, exec_movEvIv s hp rm imm, ?_⟩, fun r imm s => ⟨_, rfl, ?_⟩,
    fun o s => ⟨_, rfl, ?_⟩, fun rm g s => ⟨_, rfl, ?_⟩, fun rm g s => ⟨_, rfl, ?_⟩, fun r rm s => ⟨_, rfl, ?_⟩,
    fun o s => ⟨_, rfl, ?_⟩⟩
  · exact store16_modified s rm (r16_of_gpr (resolve16_gpr s rm) r)
  · exact store16_modified s rm rfl
  · exact OnlyRead.refl.setR16 r imm
  · rw [movToMoffs16_eq_store]
    exact store16_modified s _ rfl
  · exact store16_sreg_modified s rm g
  · exact store16_sreg_modified s rm g
  · exact (load16_onlyRead s rm).setR16 r (rm.value s)
  · exact ((onlyRead_setLastEa s o).readWord _ _ _).setR16 .ax _

/-- Settles O33: MOV stores a register, an immediate or a segment register in its operand, or loads a register. -/
theorem moveForms : Obligations.MoveForms := ⟨moveByte, moveWord⟩

end Sys2Proof.Machine

namespace Sys2Proof.Machine
open Sys2Proof

/-! ### PUSH (40_data_transfer.md R306 to R308, R325, 46_undefined_opcodes.md R562, 47_v20_v30_extensions.md R588, R597) -/

section Push
variable {ea : Word} {s u : State}

/-- The push of a word after the read. -/
theorem OnlyRead.push16 (h : OnlyRead ea s u) (v : Word) : Pushed v s (push16 v u) ∧ (push16 v u).flags = s.flags ∧
    (push16 v u).lastEa = ea ∧ Ordinary s (push16 v u) := by
  have hsp : u.r16 .sp = s.r16 .sp := r16_of_gpr h.gpr .sp
  obtain ⟨hnew, hregs, hkept, hlo, hhi⟩ := push16_pushed u v
  rw [h.seg, hsp] at hkept hlo hhi
  refine ⟨⟨by rw [hnew, hsp], fun r hr => (hregs r hr).trans (r16_of_gpr h.gpr r), fun a ha => ?_, fun hw hr => ?_, fun hw hr => ?_⟩,
    (push16_flags u v).trans h.flags, (push16_lastEa u v).trans h.lastEa, (push16_ip u v).trans h.ordinary.1,
    (push16_system u v).trans h.ordinary.2⟩
  · exact (hkept a ha).trans (byteAt_of_mem h.mem a)
  · exact hlo (h.mem ▸ hw) ((kindAt_of_cfg h.cfg _).trans hr)
  · exact hhi (h.mem ▸ hw) ((kindAt_of_cfg h.cfg _).trans hr)

variable (s)

theorem pushReg_eq_push16 {r : Reg16} (hr : r ≠ .sp) : pushReg r s = push16 (s.r16 r) s := by
  have hv : (s.setR16 .sp (s.r16 .sp - 2)).r16 r = s.r16 r := setR16_r16_ne s .sp r _ hr
  rw [← hv]
  exact if_neg fun h => hr h.1

theorem pushRM_eq_push16 {rm : RM16} (h : rm ≠ .reg .sp) : pushRM rm s = push16 (rm.value s) (load16 rm s).2 := if_neg h

/-- PUSH SP pushes the new SP, or, on the V20/V30, after a draw, one of the two. -/
theorem pushReg_sp : ∃ v u, (v = s.r16 .sp - 2 ∨ (s.cfg.cpu.isNec = true ∧ v = s.r16 .sp)) ∧ OnlyRead s.lastEa s u ∧
    pushReg .sp s = push16 v u := by
  have hnew : (s.setR16 .sp (s.r16 .sp - 2)).r16 .sp = s.r16 .sp - 2 := setR16_r16_same s .sp _
  by_cases hn : s.cfg.cpu.isNec = true
  · refine ⟨if Config.freeBit s.draws then s.r16 .sp else s.r16 .sp - 2, s.bumpDraws, ?_, onlyRead_bumpDraws s, ?_⟩
    · split
      · exact .inr ⟨hn, rfl⟩
      · exact .inl rfl
    · conv_rhs => rw [← hnew]
      exact if_pos ⟨rfl, hn⟩
  · refine ⟨s.r16 .sp - 2, s, .inl rfl, OnlyRead.refl, ?_⟩
    conv_rhs => rw [← hnew]
    exact if_neg fun h => hn h.2

/-- The r/m form pushes, after a draw, the old SP or the new one. -/
theorem pushRM_sp : ∃ v, (v = s.r16 .sp - 2 ∨ v = s.r16 .sp) ∧ pushRM (.reg .sp) s = push16 v s.bumpDraws := by
  refine ⟨if Config.freeBit s.draws then s.r16 .sp else s.r16 .sp - 2, ?_, if_pos rfl⟩
  split
  · exact .inr rfl
  · exact .inl rfl

theorem exec_pushSreg : ∀ p ∈ pushSregForms, exec p.2 s = .next (push16 (s.sreg p.1) s) := by
  simp only [pushSregForms, List.forall_mem_cons, List.not_mem_nil, false_imp_iff, implies_true, and_true]
  exact ⟨rfl, rfl, rfl, rfl⟩

end Push

theorem push : Claim.Push := by
  refine ⟨fun p hp s => ⟨_, exec_pushSreg s p hp, OnlyRead.refl.push16 _⟩, fun s => ⟨_, rfl, OnlyRead.refl.push16 _⟩,
    fun imm s => ⟨_, rfl, OnlyRead.refl.push16 _⟩, fun imm s => ⟨_, rfl, OnlyRead.refl.push16 _⟩,
    fun r s hr => ⟨_, rfl, ?_⟩, fun rm s hrm => ⟨⟨_, rfl, ?_⟩, ⟨_, rfl, ?_⟩⟩⟩
  · rw [pushReg_eq_push16 s hr]
    exact OnlyRead.refl.push16 _
  all_goals
    rw [pushRM_eq_push16 s hrm]
    exact (load16_onlyRead s rm).push16 _

theorem pushStackPointer : Claim.PushStackPointer := by
  refine ⟨fun s => ⟨_, rfl, ?_⟩, fun i hi s => ⟨pushRM (.reg .sp) s, ?_, ?_⟩⟩
  · obtain ⟨v, u, hv, hu, e⟩ := pushReg_sp s
    rw [e]
    exact ⟨⟨v, hv, (hu.push16 v).1⟩, (hu.push16 v).2⟩
  · simp only [List.mem_cons, List.not_mem_nil, or_false] at hi
    rcases hi with rfl | rfl <;> rfl
  · obtain ⟨v, hv, e⟩ := pushRM_sp s
    have h := (onlyRead_bumpDraws s).push16 v
    rw [e]
    exact ⟨⟨v, hv, h.1⟩, h.2⟩

/-- Settles O35: every form is one `push16`, of a word read before it; for SP the word is one of two. -/
theorem pushForms : Obligations.PushForms := ⟨push, pushStackPointer⟩

end Sys2Proof.Machine

namespace Sys2Proof.Machine
open Sys2Proof

/-! ### POP (40_data_transfer.md R309, R311, R326, 46_undefined_opcodes.md R561) -/

section Pop
variable (s : State)

/-- A pop into a register, which may be SP. -/
theorem popReg_effect (r : Reg16) : (popReg r s).r16 r = topWord s ∧ (r ≠ .sp → (popReg r s).r16 .sp = s.r16 .sp + 2) ∧
    RegsKeptBut [r, .sp] s (popReg r s) ∧ MemKept s (popReg r s) ∧ (popReg r s).flags = s.flags ∧
    (popReg r s).lastEa = s.lastEa ∧ Ordinary s (popReg r s) := by
  refine ⟨setR16_r16_same _ r _, fun hr => ?_, fun q hq => ?_, memKept_of_mem (pop16_mem s), pop16_flags s, pop16_lastEa s,
    pop16_ip s, pop16_system s⟩
  · exact (setR16_r16_ne _ r .sp _ hr.symm).trans (pop16_r16_sp s)
  · obtain ⟨hqr, hqsp⟩ := not_or.mp fun e => hq (List.mem_cons.mpr e)
    exact (setR16_r16_ne _ r q _ hqr).trans (pop16_regsKeptBut s q hqsp)

/-- A pop into memory: the address is that of the state before the pop. -/
theorem popRM_mem_effect (m : Mem) : (popRM (.mem m) s).r16 .sp = s.r16 .sp + 2 ∧ RegsKeptBut [.sp] s (popRM (.mem m) s) ∧
    MemWord (s.sreg (eaSeg m s)) (eaOff m s) (topWord (s.setLastEa (eaOff m s))) s (popRM (.mem m) s) ∧
    (popRM (.mem m) s).flags = s.flags ∧ (popRM (.mem m) s).lastEa = eaOff m s ∧ Ordinary s (popRM (.mem m) s) := by
  have hgpr : (popRM (.mem m) s).gpr = (pop16 (s.setLastEa (eaOff m s))).2.gpr := writeWord_gpr ..
  refine ⟨(r16_of_gpr hgpr .sp).trans (pop16_r16_sp _), fun r hr => (r16_of_gpr hgpr r).trans (pop16_regsKeptBut _ r hr),
    writeWord_stored _ _ _ _ (pop16_mem _) (pop16_cfg _), (writeWord_flags ..).trans (pop16_flags _),
    (writeWord_lastEa ..).trans (pop16_lastEa _), (writeWord_ip ..).trans (pop16_ip _), (writeWord_system ..).trans (pop16_system _)⟩

theorem exec_popEv {p : RM16 → Instr} (hp : p ∈ popEvForms) (rm : RM16) : exec (p rm) s = .next (popRM rm s) := by
  simp only [popEvForms, List.mem_cons, List.not_mem_nil, or_false] at hp
  rcases hp with rfl | rfl | rfl | rfl | rfl | rfl | rfl | rfl <;> rfl

/-- Both forms of a pop into a register are the same. -/
theorem exec_popIntoReg {i : Instr} {r : Reg16} (hi : i ∈ Instr.popR16 r :: popEvForms.map fun f => f (.reg r)) :
    exec i s = .next (popReg r s) := by
  rcases List.mem_cons.mp hi with rfl | hi
  · rfl
  · obtain ⟨p, hp, rfl⟩ := List.mem_map.mp hi
    exact exec_popEv s hp (.reg r)

end Pop

/-- Settles O36: a pop has read the top word and moved SP by two before its register, memory word or FLAGS is written. -/
theorem popForms : Obligations.PopForms :=
  ⟨fun r s _ hi => ⟨_, exec_popIntoReg s hi, popReg_effect s r⟩, fun _ hp m s => ⟨_, exec_popEv s hp (.mem m), popRM_mem_effect s m⟩,
    fun s => ⟨_, rfl, rfl, pop16_r16_sp s, pop16_regsKeptBut s, memKept_of_mem (pop16_mem s), pop16_lastEa s, pop16_ip s,
      pop16_system s⟩⟩

end Sys2Proof.Machine

namespace Sys2Proof.Machine
open Sys2Proof

/-! ### XCHG (40_data_transfer.md R312 to R314) -/

section Exchange
variable (s : State)

theorem xchg8_reg_eq (q r : Reg8) : xchg8 (.reg q) r s = (s.setR8 q (s.r8 r)).setR8 r (s.r8 q) := rfl

theorem xchg16_reg_eq (q r : Reg16) : xchg16 (.reg q) r s = (s.setR16 q (s.r16 r)).setR16 r (s.r16 q) := rfl

/-- Two byte registers, possibly the same or halves of one word, are swapped. -/
theorem xchg8_reg_effect (q r : Reg8) : (xchg8 (.reg q) r s).r8 q = s.r8 r ∧ (xchg8 (.reg q) r s).r8 r = s.r8 q ∧
    (∀ p, p ≠ q → p ≠ r → (xchg8 (.reg q) r s).r8 p = s.r8 p) ∧ OnlyRegs [q.parent, r.parent] 0 s (xchg8 (.reg q) r s) ∧
    (xchg8 (.reg q) r s).lastEa = s.lastEa := by
  rw [xchg8_reg_eq]
  refine ⟨?_, setR8_r8_same _ r _, fun p hq hr => ?_,
    ⟨fun p hp => ?_, flagsKeptBut_of_eq 0 rfl, memKept_of_mem rfl, rfl, rfl⟩, rfl⟩
  · by_cases h : q = r
    · rw [h, setR8_r8_same]
    · rw [setR8_r8_ne _ r q _ h, setR8_r8_same]
  · rw [setR8_r8_ne _ r p _ hr, setR8_r8_ne _ q p _ hq]
  · simp only [List.mem_cons, List.not_mem_nil, or_false, not_or] at hp
    rw [setR8_r16_ne _ r p _ hp.2, setR8_r16_ne _ q p _ hp.1]

/-- Two word registers, possibly the same, are swapped. -/
theorem xchg16_reg_effect (q r : Reg16) : (xchg16 (.reg q) r s).r16 q = s.r16 r ∧ (xchg16 (.reg q) r s).r16 r = s.r16 q ∧
    OnlyRegs [q, r] 0 s (xchg16 (.reg q) r s) ∧ (xchg16 (.reg q) r s).lastEa = s.lastEa := by
  rw [xchg16_reg_eq]
  refine ⟨?_, setR16_r16_same _ r _, (setR16_onlyRegs _ (by simp) _).trans (setR16_onlyRegs _ (by simp) _), rfl⟩
  by_cases h : q = r
  · rw [h, setR16_r16_same]
  · rw [setR16_r16_ne _ r q _ h, setR16_r16_same]

/-- A byte register and the byte at an address, which is computed once, are swapped. -/
theorem xchg8_mem_effect (m : Mem) (r : Reg8) : Reg8Written r ((RM8.mem m).value s) s (xchg8 (.mem m) r s) ∧
    MemByte (s.sreg (eaSeg m s)) (eaOff m s) (s.r8 r) s (xchg8 (.mem m) r s) ∧ (xchg8 (.mem m) r s).flags = s.flags ∧
    (xchg8 (.mem m) r s).lastEa = eaOff m s ∧ Ordinary s (xchg8 (.mem m) r s) := by
  have hr : (load8 (.mem m) s).2.r8 r = s.r8 r := r8_of_gpr (load8_gpr s (.mem m)) r
  obtain ⟨⟨hgpr, hmem⟩, hrest⟩ := (load8_onlyRead s (.mem m)).writePlace8 (.mem m) (s.r8 r)
  rw [← hr] at hgpr hmem hrest ⊢
  exact ⟨setR8_written r _ hgpr, hmem, hrest⟩

/-- A word register and the word at an address, which is computed once, are swapped. -/
theorem xchg16_mem_effect (m : Mem) (r : Reg16) : Reg16Written r ((RM16.mem m).value s) s (xchg16 (.mem m) r s) ∧
    MemWord (s.sreg (eaSeg m s)) (eaOff m s) (s.r16 r) s (xchg16 (.mem m) r s) ∧ (xchg16 (.mem m) r s).flags = s.flags ∧
    (xchg16 (.mem m) r s).lastEa = eaOff m s ∧ Ordinary s (xchg16 (.mem m) r s) := by
  have hr : (load16 (.mem m) s).2.r16 r = s.r16 r := r16_of_gpr (load16_gpr s (.mem m)) r
  obtain ⟨⟨hgpr, hmem⟩, hrest⟩ := (load16_onlyRead s (.mem m)).writePlace16 (.mem m) (s.r16 r)
  rw [← hr] at hgpr hmem hrest ⊢
  exact ⟨setR16_written r _ hgpr, hmem, hrest⟩

theorem exec_xchgAx : ∀ p ∈ xchgAxForms, exec p.2 s = .next (xchg16 (.reg .ax) p.1 s) := by
  simp only [xchgAxForms, List.forall_mem_cons, List.not_mem_nil, false_imp_iff, implies_true, and_true]
  exact ⟨rfl, rfl, rfl, rfl, rfl, rfl, rfl⟩

end Exchange

/-- Settles O37: both values are read before either is written. -/
theorem exchangeForms : Obligations.ExchangeForms :=
  ⟨fun q r s => ⟨_, rfl, xchg8_reg_effect s q r⟩, fun m r s => ⟨_, rfl, xchg8_mem_effect s m r⟩,
    fun q r s => ⟨_, rfl, xchg16_reg_effect s q r⟩, fun m r s => ⟨_, rfl, xchg16_mem_effect s m r⟩,
    fun p hp s => ⟨_, exec_xchgAx s p hp, xchg16_reg_effect s .ax p.1⟩, fun _ => rfl⟩

end Sys2Proof.Machine

namespace Sys2Proof.Machine
open Sys2Proof

/-! ### LEA, LDS and LES (40_data_transfer.md R320 to R322, 46_undefined_opcodes.md R564, 60_exceptions.md R627) -/

section Address
variable {ea : Word} {s u : State}

/-- The write of a word register after the read, as a frame. -/
theorem OnlyRead.setR16_onlyRegs (h : OnlyRead ea s u) (r : Reg16) (v : Word) :
    (u.setR16 r v).r16 r = v ∧ OnlyRegs [r] 0 s (u.setR16 r v) ∧ (u.setR16 r v).lastEa = ea :=
  ⟨setR16_r16_same u r v, (onlyRegs_of_eq h.gpr h.flags h.mem h.ordinary).trans
    (Machine.setR16_onlyRegs u List.mem_cons_self v), h.lastEa⟩

/-- A far pointer, read without a write, is loaded. -/
theorem OnlyRead.loadFarPointer (h : OnlyRead ea s u) (r : Reg16) (g : SReg) (off sv : Word) :
    let t := loadFarPointer r g (off, sv, u)
    t.r16 r = off ∧ RegsKeptBut [r] s t ∧ MemKept s t ∧
      t.system = { s.system with inhibit := true, seg := s.seg.set g sv } ∧ t.flags = s.flags ∧ t.ip = s.ip ∧ t.lastEa = ea := by
  obtain ⟨hr, ⟨hregs, -, hmem, hip, -⟩, hea⟩ := h.setR16_onlyRegs r off
  have hsys : (Machine.loadFarPointer r g (off, sv, u)).system = { u.system with inhibit := true, seg := u.seg.set g sv } := rfl
  rw [h.ordinary.2, h.seg] at hsys
  exact ⟨hr, hregs, hmem, hsys, h.flags, hip, hea⟩

theorem loadFar_onlyRead (s : State) (m : Mem) : OnlyRead (eaOff m s) s (loadFar m s).2.2 :=
  (onlyRead_setLastEa s (eaOff m s)).readFar _ _

theorem loadFarLastEa_onlyRead (s : State) : OnlyRead s.lastEa s (loadFarLastEa s).2.2 := OnlyRead.refl.readFar _ _

end Address

/-- Settles O38: LEA writes the offset; LDS and LES read a far pointer, which changes nothing but `last_ea`, and load it. -/
theorem loadAddress : Obligations.LoadAddress := by
  refine ⟨?_, fun r q s => ⟨_, rfl, OnlyRead.refl.setR16_onlyRegs r _⟩, ?_, ?_⟩
  · rintro i r m s (rfl | rfl) <;> exact ⟨_, rfl, (onlyRead_setLastEa s _).setR16_onlyRegs r _⟩
  · rintro i g r m s (⟨rfl, rfl | rfl⟩ | ⟨rfl, rfl | rfl⟩) <;> exact ⟨_, rfl, (loadFar_onlyRead s m).loadFarPointer r _ _ _⟩
  · rintro i g r q s (⟨rfl, rfl⟩ | ⟨rfl, rfl⟩) <;> exact ⟨_, rfl, (loadFarLastEa_onlyRead s).loadFarPointer r _ _ _⟩

end Sys2Proof.Machine

namespace Sys2Proof.Machine
open Sys2Proof

/-! ### XLAT, LAHF, SAHF and SALC (40_data_transfer.md R319, R323, R324, 46_undefined_opcodes.md R556) -/

/-- A flag of the low byte that a masked write takes from a byte. -/
theorem putFlags_zext16_getLsbD {mask : Word} (b : Byte) (f : Word) {i : Nat} (hi : i < 8) (hm : mask.getLsbD i = true) :
    (putFlags mask (zext16 b) f).getLsbD i = b.getLsbD i := by
  rw [putFlags_getLsbD _ _ _ _ (by omega), if_pos hm, zext16, BitVec.getLsbD_setWidth, decide_eq_true (by omega), Bool.true_and]

/-- SAHF writes five flags and nothing else. -/
theorem sahfOp_effect (s : State) : NothingWritten s (sahfOp s) ∧ FlagsKeptBut 0x00D5 s (sahfOp s) ∧
    flagSF (sahfOp s).flags = (s.r8 .ah).getLsbD 7 ∧ flagZF (sahfOp s).flags = (s.r8 .ah).getLsbD 6 ∧
    flagAF (sahfOp s).flags = (s.r8 .ah).getLsbD 4 ∧ flagPF (sahfOp s).flags = (s.r8 .ah).getLsbD 2 ∧
    flagCF (sahfOp s).flags = (s.r8 .ah).getLsbD 0 ∧ (sahfOp s).lastEa = s.lastEa ∧ Ordinary s (sahfOp s) := by
  have hbit {i : Nat} (hi : i < 8) (hm : (0x00D5 : Word).getLsbD i = true) : (sahfOp s).flags.getLsbD i = (s.r8 .ah).getLsbD i :=
    putFlags_zext16_getLsbD (s.r8 .ah) s.flags hi hm
  exact ⟨⟨rfl, memKept_of_mem rfl⟩, putFlags_kept _ _ _, hbit (by decide) (by decide), hbit (by decide) (by decide),
    hbit (by decide) (by decide), hbit (by decide) (by decide), hbit (by decide) (by decide), rfl, rfl, rfl⟩

/-- Settles O39: XLAT, LAHF and SALC write a byte register, XLAT after a read; SAHF writes FLAGS under a mask. -/
theorem accumulatorAndFlags : Obligations.AccumulatorAndFlags := fun s =>
  ⟨⟨_, rfl, ((onlyRead_setLastEa s _).readByte _ _ _).setR8 .al _⟩, ⟨_, rfl, OnlyRead.refl.setR8 .ah _⟩,
    ⟨_, rfl, sahfOp_effect s⟩, ⟨_, rfl, OnlyRead.refl.setR8 .al _⟩⟩

end Sys2Proof.Machine

namespace Sys2Proof.Machine
open Sys2Proof

/-! ### Flags against exact arithmetic (41_arithmetic.md R350 to R352, 42_logic_shift_rotate.md R400) -/

/-- A list holds an even number of marked elements when the exclusive or over the marks is false. -/
theorem filter_length_even {α : Type} (p : α → Bool) (l : List α) :
    ((l.filter p).length % 2 == 0) = !l.foldr (fun i b => p i ^^ b) false := by
  induction l with
  | nil => rfl
  | cons i l ih =>
    rw [List.foldr_cons, ← Bool.not_not (l.foldr _ _), ← ih]
    cases h : p i with
    | false => rw [List.filter_cons_of_neg (by simp [h]), Bool.false_xor, Bool.not_not]
    | true =>
      rw [List.filter_cons_of_pos h, List.length_cons, Bool.true_xor, Bool.eq_iff_iff]
      simp only [beq_iff_eq, Bool.not_eq_true', beq_eq_false_iff_ne, Bool.not_not]
      omega

theorem bitNat_le (c : Bool) : bitNat c ≤ 1 := by cases c <;> decide

section ExactFlags
variable {n : Nat}

theorem parity_eq_evenOnes (r : BitVec n) : parity r = evenOnes r := by
  rw [evenOnes, filter_length_even]
  simp [parity, List.range_succ]

theorem beq_zero_eq_decide (r : BitVec n) : (r == 0) = decide (r.toNat = 0) := by
  rw [beq_eq_decide, decide_eq_decide, ← BitVec.toNat_inj]
  rfl

theorem statusIs_packStatus (c p a z sg o : Bool) (f : Word) :
    StatusIs (putFlags statusMask (packStatus c p a z sg o) f) f c p a z sg o where
  cf := flagCF_putStatus c p a z sg o _ f (by decide)
  pf := flagPF_putStatus c p a z sg o _ f (by decide)
  af := flagAF_putStatus c p a z sg o _ f (by decide)
  zf := flagZF_putStatus c p a z sg o _ f (by decide)
  sf := flagSF_putStatus c p a z sg o _ f (by decide)
  of := flagOF_putStatus c p a z sg o _ f (by decide)
  rest := putFlags_kept _ _ _

variable (a b : BitVec n) (c : Bool)

theorem addN_false : addN a b false = a + b := BitVec.add_zero _

theorem subN_false : subN a b false = a - b := BitVec.sub_zero _

theorem addN_toNat : (addN a b c).toNat = (a.toNat + b.toNat + bitNat c) % 2 ^ n := by simp [addN]

theorem addN_toInt : (addN a b c).toInt = (a.toInt + b.toInt + bitNat c).bmod (2 ^ n) := by
  rw [addN, BitVec.toInt_add, BitVec.toInt_add, BitVec.toInt_ofNat', Int.bmod_add_bmod, Int.add_bmod_bmod]

theorem subN_toInt : (subN a b c).toInt = (a.toInt - b.toInt - bitNat c).bmod (2 ^ n) := by
  rw [subN, BitVec.toInt_sub, BitVec.toInt_sub, BitVec.toInt_ofNat', Int.bmod_sub_bmod, Int.sub_bmod_bmod]

variable {a b c}

theorem subN_toNat (hn : n = 8 ∨ n = 16) : ((subN a b c).toNat : Int) = ((a.toNat : Int) - b.toNat - bitNat c) % 2 ^ n := by
  have hc := bitNat_le c
  rw [subN, BitVec.toNat_sub, BitVec.toNat_sub, BitVec.toNat_ofNat]
  rcases hn with rfl | rfl <;> omega

/-- A sum has left the signed range when both terms have the sign that it has not. -/
theorem addN_overflow (hn : n = 8 ∨ n = 16) : (a.msb == b.msb && (addN a b c).msb != a.msb) =
    decide ((addN a b c).toInt ≠ a.toInt + b.toInt + bitNat c) := by
  have hwrap := addN_toInt a b c
  have hc := bitNat_le c
  simp only [BitVec.msb_eq_toInt]
  rcases hn with rfl | rfl <;> grind

/-- A difference has left the signed range when the terms differ in sign and it has not the sign of the first. -/
theorem subN_overflow (hn : n = 8 ∨ n = 16) : (a.msb != b.msb && (subN a b c).msb != a.msb) =
    decide ((subN a b c).toInt ≠ a.toInt - b.toInt - bitNat c) := by
  have hwrap := subN_toInt a b c
  have hc := bitNat_le c
  simp only [BitVec.msb_eq_toInt]
  rcases hn with rfl | rfl <;> grind

end ExactFlags

theorem additionFlags : Claim.AdditionFlags := by
  intro n a b c f hn
  have h := statusIs_packStatus (decide (2 ^ n ≤ a.toNat + b.toNat + bitNat c)) (parity (addN a b c))
    (decide (16 ≤ a.toNat % 16 + b.toNat % 16 + bitNat c)) (addN a b c == 0) (addN a b c).msb
    (a.msb == b.msb && (addN a b c).msb != a.msb) f
  refine ⟨addN_toNat a b c, ?_⟩
  rw [← parity_eq_evenOnes, ← beq_zero_eq_decide, ← BitVec.msb_eq_toInt, ← addN_overflow hn]
  exact h

theorem subtractionFlags : Claim.SubtractionFlags := by
  intro n a b c f hn
  have hcf : decide (a.toNat < b.toNat + bitNat c) = decide ((a.toNat : Int) - b.toNat - bitNat c < 0) :=
    decide_eq_decide.mpr (by omega)
  have haf : decide (a.toNat % 16 < b.toNat % 16 + bitNat c) = decide ((a.toNat % 16 : Int) - b.toNat % 16 - bitNat c < 0) :=
    decide_eq_decide.mpr (by omega)
  have h := statusIs_packStatus (decide (a.toNat < b.toNat + bitNat c)) (parity (subN a b c))
    (decide (a.toNat % 16 < b.toNat % 16 + bitNat c)) (subN a b c == 0) (subN a b c).msb
    (a.msb != b.msb && (subN a b c).msb != a.msb) f
  refine ⟨subN_toNat hn, ?_⟩
  rw [← hcf, ← haf, ← parity_eq_evenOnes, ← beq_zero_eq_decide, ← BitVec.msb_eq_toInt, ← subN_overflow hn]
  exact h

theorem logicFlags : Claim.LogicFlags := by
  intro n r f _
  rw [← parity_eq_evenOnes, ← beq_zero_eq_decide, ← BitVec.msb_eq_toInt]
  exact statusIs_packStatus false (parity r) false (r == 0) r.msb false f

section SignZeroParity
variable {n : Nat} (r : BitVec n) (f : Word)

theorem flagSF_szp : flagSF (szp r f) = r.msb := flagSF_putStatus _ _ _ _ _ _ _ f (by decide)
theorem flagZF_szp : flagZF (szp r f) = (r == 0) := flagZF_putStatus _ _ _ _ _ _ _ f (by decide)
theorem flagPF_szp : flagPF (szp r f) = evenOnes r :=
  (flagPF_putStatus _ _ _ _ _ _ _ f (by decide)).trans (parity_eq_evenOnes r)

end SignZeroParity

theorem signZeroParity : Claim.SignZeroParity := fun _ r f _ =>
  ⟨(flagSF_szp r f).trans BitVec.msb_eq_toInt, (flagZF_szp r f).trans (beq_zero_eq_decide r), flagPF_szp r f,
    putFlags_kept _ _ _⟩

theorem AluOp.writes_of_ne {op : AluOp} (hc : op ≠ .cmp) (ht : op ≠ .test) : op.writes = true := by
  cases op with
  | cmp => exact absurd rfl hc
  | test => exact absurd rfl ht
  | add | or | adc | sbb | and | sub | xor => rfl

theorem operationResults : Claim.OperationResults := fun _ _ _ _ =>
  ⟨⟨rfl, rfl⟩, ⟨rfl, rfl⟩, ⟨rfl, rfl⟩, ⟨rfl, rfl⟩, ⟨rfl, rfl⟩, ⟨rfl, rfl⟩, ⟨rfl, rfl⟩, ⟨rfl, rfl⟩, ⟨rfl, rfl⟩,
    fun _ => AluOp.writes_of_ne⟩

/-- Settles O4: a packed status word has the flags it is packed from, and each of them is a comparison of exact integers. -/
theorem flagComputations : Obligations.FlagComputations :=
  ⟨additionFlags, subtractionFlags, logicFlags, signZeroParity, operationResults⟩

end Sys2Proof.Machine

namespace Sys2Proof.Machine
open Sys2Proof

/-! ### The forms of the two-operand operations (41_arithmetic.md R353 to R363, 42_logic_shift_rotate.md R400 to R404) -/

section TwoOperand
variable (s : State)

theorem exec_aluEbGb (rm : RM8) (r : Reg8) : ∀ p ∈ aluEbGbForms, exec (p.2 rm r) s = .next (aluRmReg8 p.1 rm r s) :=
  List.forall_iff_forall_mem.mp ⟨rfl, rfl, rfl, rfl, rfl, rfl, rfl, rfl, rfl⟩

theorem exec_aluEvGv (rm : RM16) (r : Reg16) : ∀ p ∈ aluEvGvForms, exec (p.2 rm r) s = .next (aluRmReg16 p.1 rm r s) :=
  List.forall_iff_forall_mem.mp ⟨rfl, rfl, rfl, rfl, rfl, rfl, rfl, rfl, rfl⟩

theorem exec_aluGbEb (r : Reg8) (rm : RM8) : ∀ p ∈ aluGbEbForms, exec (p.2 r rm) s = .next (aluRegRm8 p.1 r rm s) :=
  List.forall_iff_forall_mem.mp ⟨rfl, rfl, rfl, rfl, rfl, rfl, rfl, rfl⟩

theorem exec_aluGvEv (r : Reg16) (rm : RM16) : ∀ p ∈ aluGvEvForms, exec (p.2 r rm) s = .next (aluRegRm16 p.1 r rm s) :=
  List.forall_iff_forall_mem.mp ⟨rfl, rfl, rfl, rfl, rfl, rfl, rfl, rfl⟩

/-- The group forms, their duplicates at `82` among them. -/
theorem exec_aluEbIb (rm : RM8) (imm : Byte) : ∀ p ∈ aluEbIbForms, exec (p.2 rm imm) s = .next (aluRmImm8 p.1 1 rm imm s) :=
  List.forall_iff_forall_mem.mp
    ⟨rfl, rfl, rfl, rfl, rfl, rfl, rfl, rfl, rfl, rfl, rfl, rfl, rfl, rfl, rfl, rfl, rfl, rfl⟩

theorem exec_aluEvIv (rm : RM16) (imm : Word) : ∀ p ∈ aluEvIvForms, exec (p.2 rm imm) s = .next (aluRmImm16 p.1 2 rm imm s) :=
  List.forall_iff_forall_mem.mp ⟨rfl, rfl, rfl, rfl, rfl, rfl, rfl, rfl, rfl, rfl⟩

theorem exec_aluEvIbs (rm : RM16) (imm : Byte) : ∀ p ∈ aluEvIbsForms,
    exec (p.2 rm imm) s = .next (aluRmImm16 p.1 1 rm (sext16 imm) s) :=
  List.forall_iff_forall_mem.mp ⟨rfl, rfl, rfl, rfl, rfl, rfl, rfl, rfl⟩

theorem exec_aluAlIb (imm : Byte) : ∀ p ∈ aluAlIbForms, exec (p.2 imm) s = .next (aluRmImm8 p.1 0 (.reg .al) imm s) :=
  List.forall_iff_forall_mem.mp ⟨rfl, rfl, rfl, rfl, rfl, rfl, rfl, rfl, rfl⟩

theorem exec_aluAxIv (imm : Word) : ∀ p ∈ aluAxIvForms, exec (p.2 imm) s = .next (aluRmImm16 p.1 0 (.reg .ax) imm s) :=
  List.forall_iff_forall_mem.mp ⟨rfl, rfl, rfl, rfl, rfl, rfl, rfl, rfl, rfl⟩

/-- The accumulator forms have no operand to load, so that their immediate is not late. -/
theorem aluRmImm8_reg_effect (op : AluOp) (r : Reg8) (imm : Byte) :
    AluEffect8 op (.reg r) (s.r8 r) imm s.lastEa s (aluRmImm8 op 0 (.reg r) imm s) := by
  have h := aluRmImm8_effect s op 0 (.reg r) imm
  rwa [past_zero] at h

theorem aluRmImm16_reg_effect (op : AluOp) (r : Reg16) (imm : Word) :
    AluEffect16 op (.reg r) (s.r16 r) imm s.lastEa s (aluRmImm16 op 0 (.reg r) imm s) := by
  have h := aluRmImm16_effect s op 0 (.reg r) imm
  rwa [past_zero] at h

end TwoOperand

theorem aluByteFromRegister : Claim.AluByteFromRegister := fun p hp rm r s =>
  ⟨_, exec_aluEbGb s rm r p hp, aluRmReg8_effect s p.1 rm r⟩

theorem aluByteToRegister : Claim.AluByteToRegister := fun p hp r rm s =>
  ⟨_, exec_aluGbEb s r rm p hp, aluRegRm8_effect s p.1 r rm⟩

theorem aluByteImmediate : Claim.AluByteImmediate :=
  ⟨fun p hp rm imm s => ⟨_, exec_aluEbIb s rm imm p hp, aluRmImm8_effect s p.1 1 rm imm⟩,
    fun p hp imm s => ⟨_, exec_aluAlIb s imm p hp, aluRmImm8_reg_effect s p.1 .al imm⟩⟩

/-- Settles O24: each table of forms is one shared operation, of which one lemma says everything it can do. -/
theorem twoOperandBytes : Obligations.TwoOperandBytes := ⟨aluByteFromRegister, aluByteToRegister, aluByteImmediate⟩

theorem aluWordFromRegister : Claim.AluWordFromRegister := fun p hp rm r s =>
  ⟨_, exec_aluEvGv s rm r p hp, aluRmReg16_effect s p.1 rm r⟩

theorem aluWordToRegister : Claim.AluWordToRegister := fun p hp r rm s =>
  ⟨_, exec_aluGvEv s r rm p hp, aluRegRm16_effect s p.1 r rm⟩

theorem aluWordImmediate : Claim.AluWordImmediate :=
  ⟨fun p hp rm imm s => ⟨_, exec_aluEvIv s rm imm p hp, aluRmImm16_effect s p.1 2 rm imm⟩,
    fun p hp rm imm s => ⟨_, exec_aluEvIbs s rm imm p hp, aluRmImm16_effect s p.1 1 rm (sext16 imm)⟩,
    fun p hp imm s => ⟨_, exec_aluAxIv s imm p hp, aluRmImm16_reg_effect s p.1 .ax imm⟩⟩

/-- Settles O25: the same on words, a sign-extended byte being an immediate like another. -/
theorem twoOperandWords : Obligations.TwoOperandWords := ⟨aluWordFromRegister, aluWordToRegister, aluWordImmediate⟩

end Sys2Proof.Machine

namespace Sys2Proof.Machine
open Sys2Proof

/-! ### One-operand operations (41_arithmetic.md R356 to R362, 42_logic_shift_rotate.md R405, 46_undefined_opcodes.md R557) -/

section OneOperandOut
variable {n : Nat} {s t : State}

theorem incDec_false (a : BitVec n) :
    incDec false a s = (some (a + 1), putFlags incMask (addStatus a 1 false) s.flags) := by
  rw [incDec, if_neg (by decide), addN_false]

theorem incDec_true (a : BitVec n) :
    incDec true a s = (some (a - 1), putFlags incMask (subStatus a 1 false) s.flags) := by
  rw [incDec, if_pos rfl, subN_false]

theorem negOut_eq (a : BitVec n) : negOut a s = (some (-a), putFlags statusMask (subStatus 0 a false) s.flags) := by
  rw [negOut, subN_false, BitVec.ofNat_eq_ofNat, BitVec.zero_sub]

theorem setmoOut_pos {count : Nat} (h : count ≠ 0) : setmoOut count s =
    (some (BitVec.allOnes n), putFlags statusMask (logicStatus (BitVec.allOnes n)) s.flags) := if_neg h

/-! Of the state, these operations look only at the flags. -/

theorem incDec_congr (dec : Bool) (a : BitVec n) (hf : t.flags = s.flags) : incDec dec a t = incDec dec a s := by
  rw [incDec, incDec, hf]

theorem negOut_congr (a : BitVec n) (hf : t.flags = s.flags) : negOut a t = negOut a s := by rw [negOut, negOut, hf]

theorem notOut_congr (a : BitVec n) (hf : t.flags = s.flags) : notOut a t = notOut a s := by rw [notOut, notOut, hf]

theorem setmoOut_congr (count : Nat) (hf : t.flags = s.flags) : setmoOut (n := n) count t = setmoOut count s := by
  rw [setmoOut, setmoOut, hf]

end OneOperandOut

section OneOperandEffect
variable (s : State) (rm : RMW)

theorem incDec_modified (dec : Bool) : ModifiedW rm (fun a => incDec dec a s) (fun a => incDec dec a s) s
    (modifyW 0 rm (incDec dec) (incDec dec) s) :=
  modifyW_modified s rm _ _ (fun a _ _ hf _ => incDec_congr dec a hf) (fun a _ _ hf _ => incDec_congr dec a hf)

theorem negOut_modified : ModifiedW rm (fun a => negOut a s) (fun a => negOut a s) s (modifyW 0 rm negOut negOut s) :=
  modifyW_modified s rm _ _ (fun a _ _ hf _ => negOut_congr a hf) (fun a _ _ hf _ => negOut_congr a hf)

theorem notOut_modified : ModifiedW rm (fun a => notOut a s) (fun a => notOut a s) s (modifyW 0 rm notOut notOut s) :=
  modifyW_modified s rm _ _ (fun a _ _ hf _ => notOut_congr a hf) (fun a _ _ hf _ => notOut_congr a hf)

/-- The count is a function of the general registers. -/
theorem setmoRM_modified {count : State → Nat} (hcount : ∀ t : State, t.gpr = s.gpr → count t = count s) :
    ModifiedW rm (fun _ => setmoOut (count s) s) (fun _ => setmoOut (count s) s) s (setmoRM rm count s) :=
  modifyW_modified s rm (fun _ t => setmoOut (count t) t) (fun _ t => setmoOut (count t) t)
    (fun _ t hg hf _ => by rw [hcount t hg, setmoOut_congr _ hf]) (fun _ t hg hf _ => by rw [hcount t hg, setmoOut_congr _ hf])

theorem setmoRM_ones {count : State → Nat} (hcount : ∀ t : State, t.gpr = s.gpr → count t = count s) (hpos : count s ≠ 0) :
    ModifiedW rm (fun _ => (some 0xFF, putFlags statusMask (logicStatus (0xFF : Byte)) s.flags))
      (fun _ => (some 0xFFFF, putFlags statusMask (logicStatus (0xFFFF : Word)) s.flags)) s (setmoRM rm count s) := by
  have h := setmoRM_modified s rm hcount
  simp only [setmoOut_pos hpos] at h
  exact h

end OneOperandEffect

theorem flagCF_putFlags_incMask (f g : Word) : flagCF (putFlags incMask g f) = flagCF f :=
  (putFlags_getLsbD incMask g f 0 (by decide)).trans (if_neg (by decide))

theorem incrementDecrement : Claim.IncrementDecrement := by
  have hinc (rm : RMW) (s : State) := incDec_modified s rm false
  have hdec (rm : RMW) (s : State) := incDec_modified s rm true
  simp only [incDec_false] at hinc
  simp only [incDec_true] at hdec
  exact ⟨fun r s => ⟨_, rfl, hinc (.word (.reg r)) s⟩, fun r s => ⟨_, rfl, hdec (.word (.reg r)) s⟩,
    fun rm s => ⟨_, rfl, hinc rm s⟩, fun rm s => ⟨_, rfl, hdec rm s⟩, flagCF_putFlags_incMask⟩

theorem negateComplement : Claim.NegateComplement := by
  have hneg (rm : RMW) (s : State) := negOut_modified s rm
  simp only [negOut_eq] at hneg
  exact ⟨fun rm s => ⟨_, rfl, hneg rm s⟩, fun rm s => ⟨_, rfl, notOut_modified s rm⟩⟩

theorem setMinusOne : Claim.SetMinusOne := by
  have hcl (s t : State) (hg : t.gpr = s.gpr) : (t.r8 .cl).toNat = (s.r8 .cl).toNat := congrArg BitVec.toNat (r8_of_gpr hg .cl)
  refine ⟨fun rm s => ⟨_, rfl, setmoRM_ones s rm (count := fun _ => 1) (fun _ _ => rfl) (by decide)⟩,
    fun rm s h => ⟨_, rfl, setmoRM_ones s rm (hcl s) fun h0 => h (BitVec.eq_of_toNat_eq h0)⟩, fun rm s h => ⟨_, rfl, ?_⟩⟩
  have hm := setmoRM_modified s rm (hcl s)
  rw [h] at hm
  exact hm

/-- Settles O27: each form is one operation on its operand, which looks only at the flags, SETMOC also at CL. -/
theorem oneOperand : Obligations.OneOperand := ⟨incrementDecrement, negateComplement, setMinusOne⟩

end Sys2Proof.Machine

namespace Sys2Proof.Machine
open Sys2Proof

/-! ### What divisions and adjustments write, as frames -/

section Frames
variable {l : List Reg16} {mask : Word} {ea : Word} {s u : State}

theorem setR8_onlyRegs (s : State) {r : Reg8} (hr : r.parent ∈ l) (v : Byte) : OnlyRegs l mask s (s.setR8 r v) :=
  setR16_onlyRegs s hr _

theorem putFlags_onlyRegs (s : State) {m : Word} (hm : m &&& ~~~mask = 0) (b : Word) :
    OnlyRegs l mask s (s.setFlags (putFlags m b s.flags)) :=
  ⟨fun _ _ => rfl, kept_mono (putFlags_kept m b s.flags) hm, fun _ => rfl, rfl, rfl⟩

theorem havocFlags_onlyRegs (s : State) {m : Word} (hm : m &&& ~~~mask = 0) : OnlyRegs l mask s (s.havocFlags m) :=
  ⟨fun _ _ => rfl, kept_mono (havocFlags_kept s m) hm, fun _ => rfl, rfl, rfl⟩

/-- A flag outside the mask is not free. -/
theorem havocFlags_getLsbD (s : State) {m : Word} {i : Nat} (hi : i < 16) (hm : m.getLsbD i = false) :
    (s.havocFlags m).flags.getLsbD i = s.flags.getLsbD i := by
  rw [havocFlags_flags, putFlags_getLsbD _ _ _ i hi, hm, if_neg Bool.false_ne_true]

theorem OnlyRead.onlyRegs (h : OnlyRead ea s u) : OnlyRegs l mask s u := onlyRegs_of_eq h.gpr h.flags h.mem h.ordinary

theorem OnlyRead.bumpDraws (h : OnlyRead ea s u) : OnlyRead ea s u.bumpDraws :=
  ⟨h.gpr, h.mem, h.flags, h.lastEa, h.ordinary⟩

theorem OnlyRead.dec (h : OnlyRead ea s u) : u.dec = s.dec := congrArg System.dec h.ordinary.2

/-- The divide error after the read of the operand (60_exceptions.md R622). -/
theorem OnlyRead.divideError (h : OnlyRead ea s u) : DivideErrorTaken s (divideError u) ∧ (divideError u).lastEa = ea := by
  obtain ⟨fl, ret, hfl, hret, hent, hea⟩ := divideError_entered u
  rw [h.flags] at hfl
  rw [h.ordinary.1, h.cfg, h.dec] at hret
  exact ⟨⟨fl, ret, hfl, hret, hent.mono h.gpr h.mem h.ordinary.2⟩, hea.trans h.lastEa⟩

end Frames

/-! ### Quotients and remainders (41_arithmetic.md R370, R371) -/

section Words
variable {n : Nat}

theorem toNat_eq_zero_iff (x : BitVec n) : x.toNat = 0 ↔ x = 0 := BitVec.toNat_inj (y := 0)

theorem toInt_eq_zero_iff (x : BitVec n) : x.toInt = 0 ↔ x = 0 := by
  rw [← BitVec.toInt_inj, BitVec.ofNat_eq_ofNat, BitVec.toInt_zero]

/-- A signed remainder is smaller than its divisor, and fits where the divisor does. -/
theorem toInt_ofInt_tmod (hn : 0 < n) (a : Int) {d : BitVec n} (hd : d ≠ 0) :
    (BitVec.ofInt n (a.tmod d.toInt)).toInt = a.tmod d.toInt := by
  have hnz : d.toInt ≠ 0 := mt (toInt_eq_zero_iff d).mp hd
  have hsmall : (a.tmod d.toInt).natAbs < d.toInt.natAbs := by
    rw [Int.natAbs_tmod]
    exact Nat.mod_lt _ (Int.natAbs_pos.mpr hnz)
  have hge := d.le_toInt
  have hlt := d.toInt_lt
  exact BitVec.toInt_ofInt_eq_self hn (by omega) (by omega)

end Words

section DivisionDone
variable {ea : Word} {s u : State}

/-- A byte division ends: the quotient in AL, the remainder in AH, unless REP makes them free (log 15). -/
theorem OnlyRead.divDone8 (h : OnlyRead ea s u) (q r : Byte) : let t := divDone8 q r u
    OnlyRegs [.ax] statusMask s t ∧ t.lastEa = ea ∧ (s.repBefore = false → t.r8 .al = q ∧ t.r8 .ah = r) := by
  refine ⟨((h.onlyRegs.trans (freeIfRep_onlyRegs u _)).trans (Machine.setR16_onlyRegs _ (by decide) _)).trans
    (havocFlags_onlyRegs _ (by decide)), (freeIfRep_lastEa u _).trans h.lastEa, fun hrep => ?_⟩
  have hax : (Machine.divDone8 q r u).r16 .ax = wordOf q r := by
    rw [Machine.divDone8, freeIfRep_of_not_rep _ _ ((repBefore_of_dec h.dec).trans hrep)]
    exact setR16_r16_same u .ax _
  rw [r8_al, r8_ah, hax]
  exact ⟨loByte_wordOf q r, hiByte_wordOf q r⟩

/-- A word division ends: the quotient in AX, the remainder in DX. -/
theorem OnlyRead.divDone16 (h : OnlyRead ea s u) (q r : Word) : let t := divDone16 q r u
    OnlyRegs [.ax, .dx] statusMask s t ∧ t.lastEa = ea ∧ (s.repBefore = false → t.r16 .ax = q ∧ t.r16 .dx = r) := by
  refine ⟨((((h.onlyRegs.trans (freeIfRep_onlyRegs u q)).trans (freeIfRep_onlyRegs _ r)).trans
    (Machine.setR16_onlyRegs _ (by decide) _)).trans (Machine.setR16_onlyRegs _ (by decide) _)).trans
    (havocFlags_onlyRegs _ (by decide)),
    (freeIfRep_lastEa _ r).trans ((freeIfRep_lastEa u q).trans h.lastEa), fun hrep => ?_⟩
  have hu : u.repBefore = false := (repBefore_of_dec h.dec).trans hrep
  have e : Machine.divDone16 q r u = ((u.setR16 .ax q).setR16 .dx r).havocFlags statusMask := by
    rw [Machine.divDone16, freeIfRep_of_not_rep u q hu, freeIfRep_of_not_rep u r hu]
  rw [e]
  exact ⟨(setR16_r16_ne _ .dx .ax r (by decide)).trans (setR16_r16_same u .ax q), setR16_r16_same _ .dx r⟩

end DivisionDone

/-! ### DIV -/

section Div
variable (s : State)

theorem div8_eq (rm : RM8) {a q : Nat} (ha : a = (s.r16 .ax).toNat) (hq : q = a / (rm.value s).toNat) : div8 rm s =
    if (rm.value s).toNat = 0 ∨ 255 < q then divideError (load8 rm s).2
    else divDone8 (BitVec.ofNat 8 q) (BitVec.ofNat 8 (a % (rm.value s).toNat)) (load8 rm s).2 := by
  subst hq ha
  rw [← r16_of_gpr (load8_gpr s rm) .ax]
  rfl

theorem div16_eq (rm : RM16) {a q : Nat} (ha : a = (s.r16 .dx).toNat * 65536 + (s.r16 .ax).toNat)
    (hq : q = a / (rm.value s).toNat) : div16 rm s =
    if (rm.value s).toNat = 0 ∨ 65535 < q then divideError (load16 rm s).2
    else divDone16 (BitVec.ofNat 16 q) (BitVec.ofNat 16 (a % (rm.value s).toNat)) (load16 rm s).2 := by
  subst hq ha
  rw [← r16_of_gpr (load16_gpr s rm) .ax, ← r16_of_gpr (load16_gpr s rm) .dx]
  rfl

/-- A quotient that fits, and the remainder, are those of the exact division. -/
theorem toNat_ofNat_div_mod {n a : Nat} {d : BitVec n} (hd : d ≠ 0) (hq : a / d.toNat < 2 ^ n) :
    a = (BitVec.ofNat n (a / d.toNat)).toNat * d.toNat + (BitVec.ofNat n (a % d.toNat)).toNat ∧
      (BitVec.ofNat n (a % d.toNat)).toNat < d.toNat := by
  have hr : a % d.toNat < d.toNat := Nat.mod_lt _ (Nat.pos_of_ne_zero (mt (toNat_eq_zero_iff d).mp hd))
  rw [BitVec.toNat_ofNat, BitVec.toNat_ofNat, Nat.mod_eq_of_lt hq, Nat.mod_eq_of_lt (hr.trans d.isLt)]
  exact ⟨(Nat.div_add_mod' a d.toNat).symm, hr⟩

end Div

theorem divideUnsigned : Claim.DivideUnsigned := by
  refine ⟨fun rm s h0 hq => ⟨div8 rm s, rfl, ?_⟩, fun rm s h0 hq => ⟨div16 rm s, rfl, ?_⟩⟩
  · have hnz : (rm.value s).toNat ≠ 0 := mt (toNat_eq_zero_iff _).mp h0
    rw [div8_eq s rm rfl rfl, if_neg (not_or.mpr ⟨hnz, hq.not_gt⟩)]
    obtain ⟨hregs, hea, hdone⟩ := (load8_onlyRead s rm).divDone8 _ _
    refine ⟨hregs, hea, fun hrep => ?_⟩
    rw [(hdone hrep).1, (hdone hrep).2]
    exact toNat_ofNat_div_mod h0 (Nat.lt_succ_of_le hq)
  · have hnz : (rm.value s).toNat ≠ 0 := mt (toNat_eq_zero_iff _).mp h0
    rw [div16_eq s rm rfl rfl, if_neg (not_or.mpr ⟨hnz, hq.not_gt⟩)]
    obtain ⟨hregs, hea, hdone⟩ := (load16_onlyRead s rm).divDone16 _ _
    refine ⟨hregs, hea, fun hrep => ?_⟩
    rw [(hdone hrep).1, (hdone hrep).2]
    exact toNat_ofNat_div_mod h0 (Nat.lt_succ_of_le hq)

/-! ### IDIV -/

section LeastQuotient
variable {ea : Word} {s u : State}

theorem idivMin_bounds (traps : Bool) (half : Int) : -half ≤ idivMin traps half ∧ idivMin traps half ≤ 1 - half := by
  cases traps with
  | false => exact ⟨le_refl _, by rw [idivMin, if_neg (by decide)]; omega⟩
  | true => exact ⟨by rw [idivMin, if_pos rfl]; omega, le_refl _⟩

theorem OnlyRead.minQuotientTraps (h : OnlyRead ea s u) : OnlyRead ea s (minQuotientTraps u).2 := by
  unfold Machine.minQuotientTraps
  split
  · exact h.bumpDraws
  · exact h

/-- On the 8088/8086 a parameter decides on the most negative quotient (R371). -/
theorem OnlyRead.minQuotientTraps_intel (h : OnlyRead ea s u) (hn : s.cfg.cpu.isNec = false) :
    (Machine.minQuotientTraps u).1 = s.cfg.idivMinTraps := by
  rw [Machine.minQuotientTraps, h.cfg, if_neg (by rw [hn]; decide)]

/-- The quotients that IDIV is sure to accept, as far as they are negative. -/
theorem OnlyRead.idivMin_le (h : OnlyRead ea s u) {q half : Int}
    (hq : 1 - half ≤ q ∨ (q = -half ∧ s.cfg.cpu.isNec = false ∧ s.cfg.idivMinTraps = false)) :
    idivMin (Machine.minQuotientTraps u).1 half ≤ q := by
  rcases hq with hq | ⟨rfl, hn, ht⟩
  · exact (idivMin_bounds _ half).2.trans hq
  · rw [h.minQuotientTraps_intel hn, ht]
    exact le_refl _

/-- The quotients that IDIV is sure not to accept, as far as they are negative. -/
theorem OnlyRead.lt_idivMin (h : OnlyRead ea s u) {q half : Int}
    (hq : q < -half ∨ (q = -half ∧ s.cfg.cpu.isNec = false ∧ s.cfg.idivMinTraps = true)) :
    q < idivMin (Machine.minQuotientTraps u).1 half := by
  rcases hq with hq | ⟨rfl, hn, ht⟩
  · exact hq.trans_le (idivMin_bounds _ half).1
  · rw [h.minQuotientTraps_intel hn, ht, idivMin, if_pos rfl]
    omega

end LeastQuotient

section Idiv
variable {s : State}

/-- The least quotient that this IDIV accepts, after a draw on the V20/V30. -/
def leastQuotient8 (rm : RM8) (s : State) : Int := idivMin (minQuotientTraps (load8 rm s).2).1 128

def leastQuotient16 (rm : RM16) (s : State) : Int := idivMin (minQuotientTraps (load16 rm s).2).1 32768

theorem idiv8_eq (rm : RM8) {a q : Int} (ha : a = (s.r16 .ax).toInt) (hq : q = a.tdiv (rm.value s).toInt) : idiv8 rm s =
    if (rm.value s).toInt = 0 ∨ 127 < q ∨ q < leastQuotient8 rm s then divideError (minQuotientTraps (load8 rm s).2).2
    else divDone8 (BitVec.ofInt 8 q) (BitVec.ofInt 8 (a.tmod (rm.value s).toInt)) (minQuotientTraps (load8 rm s).2).2 := by
  subst hq ha
  rw [← r16_of_gpr (load8_gpr s rm) .ax]
  rfl

theorem idiv16_eq (rm : RM16) {a q : Int} (ha : a = (s.r16 .dx ++ s.r16 .ax).toInt)
    (hq : q = a.tdiv (rm.value s).toInt) : idiv16 rm s =
    if (rm.value s).toInt = 0 ∨ 32767 < q ∨ q < leastQuotient16 rm s then divideError (minQuotientTraps (load16 rm s).2).2
    else divDone16 (BitVec.ofInt 16 q) (BitVec.ofInt 16 (a.tmod (rm.value s).toInt)) (minQuotientTraps (load16 rm s).2).2 := by
  subst hq ha
  rw [← r16_of_gpr (load16_gpr s rm) .ax, ← r16_of_gpr (load16_gpr s rm) .dx]
  rfl

theorem idiv8_traps {rm : RM8} {q : Int} (hq : q = (s.r16 .ax).toInt.tdiv (rm.value s).toInt)
    (h : rm.value s = 0 ∨ 127 < q ∨ q < leastQuotient8 rm s) :
    DivideErrorTaken s (idiv8 rm s) ∧ (idiv8 rm s).lastEa = rm.ea s := by
  rw [idiv8_eq rm rfl hq, if_pos (h.imp_left (toInt_eq_zero_iff _).mpr)]
  exact (load8_onlyRead s rm).minQuotientTraps.divideError

theorem idiv16_traps {rm : RM16} {q : Int} (hq : q = (s.r16 .dx ++ s.r16 .ax).toInt.tdiv (rm.value s).toInt)
    (h : rm.value s = 0 ∨ 32767 < q ∨ q < leastQuotient16 rm s) :
    DivideErrorTaken s (idiv16 rm s) ∧ (idiv16 rm s).lastEa = rm.ea s := by
  rw [idiv16_eq rm rfl hq, if_pos (h.imp_left (toInt_eq_zero_iff _).mpr)]
  exact (load16_onlyRead s rm).minQuotientTraps.divideError

/-- A quotient that fits, and the remainder, are those of the exact division that rounds toward zero. -/
theorem toInt_ofInt_tdiv_tmod {n : Nat} (hn : 0 < n) {a q : Int} {d : BitVec n} (hd : d ≠ 0) (hq : q = a.tdiv d.toInt)
    (hlo : -2 ^ (n - 1) ≤ q) (hhi : q < 2 ^ (n - 1)) :
    (BitVec.ofInt n q).toInt = q ∧ (BitVec.ofInt n (a.tmod d.toInt)).toInt = a - q * d.toInt := by
  refine ⟨BitVec.toInt_ofInt_eq_self hn hlo hhi, ?_⟩
  rw [toInt_ofInt_tmod hn a hd, Int.tmod_def, hq, Int.mul_comm]

theorem idiv8_divides {rm : RM8} {q : Int} (h0 : rm.value s ≠ 0) (hq : q = (s.r16 .ax).toInt.tdiv (rm.value s).toInt)
    (hhi : q ≤ 127) (hlo : leastQuotient8 rm s ≤ q) : DividedByte rm q s (idiv8 rm s) := by
  have hnz : (rm.value s).toInt ≠ 0 := mt (toInt_eq_zero_iff _).mp h0
  have hmin : -128 ≤ leastQuotient8 rm s := (idivMin_bounds _ _).1
  rw [idiv8_eq rm rfl hq, if_neg (not_or.mpr ⟨hnz, not_or.mpr ⟨hhi.not_gt, hlo.not_gt⟩⟩)]
  obtain ⟨hregs, hea, hdone⟩ := (load8_onlyRead s rm).minQuotientTraps.divDone8 _ _
  refine ⟨hregs, hea, fun hrep => ?_⟩
  rw [(hdone hrep).1, (hdone hrep).2]
  exact toInt_ofInt_tdiv_tmod (by decide) h0 hq (hmin.trans hlo) (Int.lt_add_one_of_le hhi)

theorem idiv16_divides {rm : RM16} {q : Int} (h0 : rm.value s ≠ 0)
    (hq : q = (s.r16 .dx ++ s.r16 .ax).toInt.tdiv (rm.value s).toInt)
    (hhi : q ≤ 32767) (hlo : leastQuotient16 rm s ≤ q) : DividedWord rm q s (idiv16 rm s) := by
  have hnz : (rm.value s).toInt ≠ 0 := mt (toInt_eq_zero_iff _).mp h0
  have hmin : -32768 ≤ leastQuotient16 rm s := (idivMin_bounds _ _).1
  rw [idiv16_eq rm rfl hq, if_neg (not_or.mpr ⟨hnz, not_or.mpr ⟨hhi.not_gt, hlo.not_gt⟩⟩)]
  obtain ⟨hregs, hea, hdone⟩ := (load16_onlyRead s rm).minQuotientTraps.divDone16 _ _
  refine ⟨hregs, hea, fun hrep => ?_⟩
  rw [(hdone hrep).1, (hdone hrep).2]
  exact toInt_ofInt_tdiv_tmod (by decide) h0 hq (hmin.trans hlo) (Int.lt_add_one_of_le hhi)

end Idiv

theorem divideSigned : Claim.DivideSigned := by
  refine ⟨fun rm s q h0 hq => ⟨fun hhi hlo => ⟨_, rfl, ?_⟩, fun hmin _ => ⟨idiv8 rm s, rfl, ?_⟩⟩,
    fun rm s q h0 hq => ⟨fun hhi hlo => ⟨_, rfl, ?_⟩, fun hmin _ => ⟨idiv16 rm s, rfl, ?_⟩⟩⟩
  · exact idiv8_divides h0 hq hhi ((load8_onlyRead s rm).idivMin_le hlo)
  · rcases le_or_gt (leastQuotient8 rm s) q with hle | hlt
    · exact .inl (idiv8_divides h0 hq (by omega) hle)
    · exact .inr (idiv8_traps hq (.inr (.inr hlt)))
  · exact idiv16_divides h0 hq hhi ((load16_onlyRead s rm).idivMin_le hlo)
  · rcases le_or_gt (leastQuotient16 rm s) q with hle | hlt
    · exact .inl (idiv16_divides h0 hq (by omega) hle)
    · exact .inr (idiv16_traps hq (.inr (.inr hlt)))

/-- Settles O29: a division that does not trap ends with the exact quotient and remainder, which fit. -/
theorem divideQuotients : Obligations.DivideQuotients := ⟨divideUnsigned, divideSigned⟩

end Sys2Proof.Machine

namespace Sys2Proof.Machine
open Sys2Proof

/-! ### AAM, AAD, CBW and CWD (41_arithmetic.md R372 to R375, 47_v20_v30_extensions.md R597) -/

section BaseTen
variable (s : State) (imm : Byte)

theorem aaBase_onlyRead : OnlyRead s.lastEa s (aaBase imm s).2 := by
  unfold aaBase
  split
  · exact onlyRead_bumpDraws s
  · exact OnlyRead.refl

/-- The base that the instruction holds is used on the 8088/8086, and everywhere when it is 10 (log 17). -/
theorem aaBase_sure (h : s.cfg.cpu.isNec = false ∨ imm = 10) : aaBase imm s = (imm, s) := by
  refine if_neg fun ⟨hn, hne⟩ => ?_
  rcases h with h | h
  · exact Bool.false_ne_true (h.symm.trans hn)
  · exact hne h

/-- AAM and AAD end with the flags of AL, the other status flags being free. -/
def szpDone (al : Byte) (s : State) : State := (s.setFlags (szp al s.flags)).havocFlags (cfMask ||| ofMask ||| afMask)

theorem szpDone_onlyRegs {l : List Reg16} (al : Byte) : OnlyRegs l statusMask s (szpDone al s) :=
  (putFlags_onlyRegs s (by decide) _).trans (havocFlags_onlyRegs _ (by decide))

theorem szpDone_flags (al : Byte) : flagSF (szpDone al s).flags = al.msb ∧ flagZF (szpDone al s).flags = (al == 0) ∧
    flagPF (szpDone al s).flags = evenOnes al :=
  ⟨(havocFlags_getLsbD _ (by decide) (by decide)).trans (flagSF_szp al s.flags),
    (havocFlags_getLsbD _ (by decide) (by decide)).trans (flagZF_szp al s.flags),
    (havocFlags_getLsbD _ (by decide) (by decide)).trans (flagPF_szp al s.flags)⟩

/-- AAM where its base is not 0: of AL as it was in `s`, in the state `u` after the draw of the base. -/
def aamDone (base : Byte) (s u : State) : State :=
  szpDone (s.r8 .al % base) ((u.setR8 .ah (s.r8 .al / base)).setR8 .al (s.r8 .al % base))

theorem aamOp_eq : aamOp imm s =
    if (aaBase imm s).1 = 0 then divideError (aaBase imm s).2 else aamDone (aaBase imm s).1 s (aaBase imm s).2 := rfl

theorem aamOp_sure (h : s.cfg.cpu.isNec = false ∨ imm = 10) :
    aamOp imm s = if imm = 0 then divideError s else aamDone imm s s := by
  rw [aamOp_eq, aaBase_sure s imm h]

variable {imm s}

theorem OnlyRead.aamDone {ea : Word} {u : State} (h : OnlyRead ea s u) (base : Byte) : let t := aamDone base s u
    OnlyRegs [.ax] statusMask s t ∧ t.lastEa = ea ∧
      (t.r8 .ah).toNat = (s.r8 .al).toNat / base.toNat ∧ (t.r8 .al).toNat = (s.r8 .al).toNat % base.toNat ∧
      flagSF t.flags = (t.r8 .al).msb ∧ flagZF t.flags = (t.r8 .al == 0) ∧ flagPF t.flags = evenOnes (t.r8 .al) := by
  have hal : (Machine.aamDone base s u).r8 .al = s.r8 .al % base := setR8_r8_same _ .al _
  have hah : (Machine.aamDone base s u).r8 .ah = s.r8 .al / base :=
    (setR8_r8_ne _ .al .ah _ (by decide)).trans (setR8_r8_same u .ah _)
  refine ⟨((h.onlyRegs.trans (setR8_onlyRegs u (r := .ah) (by decide) _)).trans
    (setR8_onlyRegs _ (r := .al) (by decide) _)).trans (szpDone_onlyRegs _ _), h.lastEa, ?_⟩
  rw [hal, hah]
  exact ⟨BitVec.toNat_udiv, BitVec.toNat_umod, szpDone_flags _ _⟩

variable (imm s)

/-- AAD gathers AH and AL in AL, by a base that may be a free one. -/
theorem aadOp_effect : let t := aadOp imm s
    OnlyRegs [.ax] statusMask s t ∧ t.lastEa = s.lastEa ∧ t.r8 .ah = 0 ∧
      t.r8 .al = s.r8 .al + s.r8 .ah * (aaBase imm s).1 ∧
      flagSF t.flags = (t.r8 .al).msb ∧ flagZF t.flags = (t.r8 .al == 0) ∧ flagPF t.flags = evenOnes (t.r8 .al) := by
  have hal : (aadOp imm s).r8 .al = s.r8 .al + s.r8 .ah * (aaBase imm s).1 :=
    (setR8_r8_ne _ .ah .al 0 (by decide)).trans (setR8_r8_same _ .al _)
  have hread := aaBase_onlyRead s imm
  refine ⟨((hread.onlyRegs.trans (setR8_onlyRegs _ (r := .al) (by decide) _)).trans
    (setR8_onlyRegs _ (r := .ah) (by decide) 0)).trans (szpDone_onlyRegs _ _), hread.lastEa, setR8_r8_same _ .ah 0, hal, ?_⟩
  rw [hal]
  exact szpDone_flags _ _

end BaseTen

theorem asciiMultiplyDivide : Claim.AsciiMultiplyDivide := by
  refine fun s imm => ⟨fun _ _ => ⟨aamOp imm s, rfl, ?_⟩, fun hsure h0 => ⟨aamOp imm s, rfl, ?_⟩, ⟨aadOp imm s, rfl, ?_⟩⟩
  · rw [aamOp_eq]
    split
    · obtain ⟨htaken, hea⟩ := (aaBase_onlyRead s imm).divideError
      exact ⟨hea, .inl htaken⟩
    · next h =>
      obtain ⟨hregs, hea, hah, hal, -⟩ := (aaBase_onlyRead s imm).aamDone (aaBase imm s).1
      exact ⟨hea, .inr ⟨hregs, _, h, hah, hal⟩⟩
  · rw [aamOp_sure s imm hsure, if_neg h0]
    exact OnlyRead.refl.aamDone imm
  · obtain ⟨hregs, hea, hah, hal, hsf, hzf, hpf⟩ := aadOp_effect s imm
    refine ⟨hregs, hea, hah, hsf, hzf, hpf, fun hsure => ?_⟩
    rw [hal, aaBase_sure s imm hsure, BitVec.toNat_add, BitVec.toNat_mul, Nat.add_mod_mod]

/-- A word with the word of its sign before it is the same integer. -/
theorem toInt_signWord_append (w : Word) : ((if w.msb then 0xFFFF else 0 : Word) ++ w).toInt = w.toInt := by
  rw [← BitVec.toInt_signExtend_of_le (x := w) (v := 32) (by decide), BitVec.signExtend_eq_append_of_le (by decide)]
  rfl

theorem signExtensions : Claim.SignExtensions := by
  refine fun s => ⟨⟨_, rfl, setR16_onlyRegs s (by decide) _, rfl, ?_⟩, ⟨_, rfl, setR16_onlyRegs s (by decide) _, rfl, ?_⟩⟩
  · rw [setR16_r16_same]
    exact BitVec.toInt_signExtend_of_le (by decide)
  · rw [setR16_r16_same, setR16_r16_ne _ .dx .ax _ (by decide)]
    exact toInt_signWord_append (s.r16 .ax)

/-- Settles O32: AAM and AAD end with the flags of AL, and a sign extension is the same integer. -/
theorem baseAndSign : Obligations.BaseAndSign := ⟨asciiMultiplyDivide, signExtensions⟩

end Sys2Proof.Machine

namespace Sys2Proof.Machine
open Sys2Proof

/-! ### The divide error (60_exceptions.md R622) -/

/-- Settles O30: the divide error is taken after the load of the operand, which changes nothing that it looks at. -/
theorem divideErrors : Obligations.DivideError := by
  refine ⟨fun rm s h => ⟨div8 rm s, rfl, ?_⟩, fun rm s h => ⟨div16 rm s, rfl, ?_⟩, fun rm s q hq h => ⟨idiv8 rm s, rfl, ?_⟩,
    fun rm s q hq h => ⟨idiv16 rm s, rfl, ?_⟩, fun s hn => ⟨aamOp 0 s, rfl, ?_⟩⟩
  · rw [div8_eq s rm rfl rfl, if_pos (h.imp_left (toNat_eq_zero_iff _).mpr)]
    exact (load8_onlyRead s rm).divideError
  · rw [div16_eq s rm rfl rfl, if_pos (h.imp_left (toNat_eq_zero_iff _).mpr)]
    exact (load16_onlyRead s rm).divideError
  · exact idiv8_traps hq (h.imp_right (Or.imp_right (load8_onlyRead s rm).lt_idivMin))
  · exact idiv16_traps hq (h.imp_right (Or.imp_right (load16_onlyRead s rm).lt_idivMin))
  · rw [aamOp_sure s 0 (.inl hn), if_pos rfl]
    exact OnlyRead.refl.divideError

end Sys2Proof.Machine

namespace Sys2Proof.Machine
open Sys2Proof

/-! ### AAA, AAS, DAA and DAS (41_arithmetic.md R364 to R367) -/

theorem toNat_lowDigit (b : Byte) : (b &&& 0x0F).toNat = b.toNat % 16 :=
  (BitVec.toNat_and b 0x0F).trans (Nat.and_two_pow_sub_one_eq_mod b.toNat 4)

section AsciiAdjust
variable (s : State) (sub : Bool)

/-- AAA and AAS adjust when the low digit of AL is above 9, or AF is set; the low half of DAA and DAS too. -/
def lowAdjust (s : State) : Bool := decide (9 < (s.r8 .al).toNat % 16) || flagAF s.flags

theorem asciiAdjust_onlyRegs : OnlyRegs [.ax] statusMask s (asciiAdjust sub s) :=
  (((setR8_onlyRegs s (r := .al) (by decide) _).trans (setR8_onlyRegs _ (r := .ah) (by decide) _)).trans
    (putFlags_onlyRegs _ (by decide) _)).trans (havocFlags_onlyRegs _ (by decide))

theorem asciiAdjust_flags : flagAF (asciiAdjust sub s).flags = lowAdjust s ∧ flagCF (asciiAdjust sub s).flags = lowAdjust s :=
  ⟨(havocFlags_getLsbD _ (by decide) (by decide)).trans (flagAF_putStatus _ _ _ _ _ _ _ _ (by decide)),
    (havocFlags_getLsbD _ (by decide) (by decide)).trans (flagCF_putStatus _ _ _ _ _ _ _ _ (by decide))⟩

theorem asciiAdjust_ah : (asciiAdjust sub s).r8 .ah =
    if lowAdjust s then (if sub then s.r8 .ah - 1 else s.r8 .ah + 1) else s.r8 .ah := setR8_r8_same _ .ah _

theorem asciiAdjust_al : (asciiAdjust sub s).r8 .al =
    (if lowAdjust s then (if sub then s.r8 .al - 6 else s.r8 .al + 6) else s.r8 .al) &&& 0x0F :=
  (setR8_r8_ne _ .ah .al _ (by decide)).trans (setR8_r8_same s .al _)

/-- The low digit of AL modulo 16: subtracting 6 is adding 10. -/
theorem asciiAdjust_al_toNat : ((asciiAdjust sub s).r8 .al).toNat =
    ((s.r8 .al).toNat + (if lowAdjust s then (if sub then 10 else 6) else 0)) % 16 := by
  rw [asciiAdjust_al, toNat_lowDigit]
  cases lowAdjust s with
  | false => rfl
  | true =>
    cases sub with
    | false =>
      simp only [if_true, Bool.false_eq_true, if_false, BitVec.toNat_add, BitVec.reduceToNat]
      omega
    | true =>
      simp only [if_true, BitVec.toNat_sub, BitVec.reduceToNat]
      omega

end AsciiAdjust

theorem asciiAdjusts : Claim.AsciiAdjust := by
  rintro s _ rfl
  exact ⟨⟨_, rfl, asciiAdjust_onlyRegs s false, rfl, (asciiAdjust_flags s false).1, (asciiAdjust_flags s false).2,
      asciiAdjust_al_toNat s false, asciiAdjust_ah s false⟩,
    ⟨_, rfl, asciiAdjust_onlyRegs s true, rfl, (asciiAdjust_flags s true).1, (asciiAdjust_flags s true).2,
      asciiAdjust_al_toNat s true, asciiAdjust_ah s true⟩⟩

section DecimalAdjust
variable (s : State) (sub : Bool)

/-- The high half of DAA and DAS adjusts when AL is above 0x99, or CF is set. -/
def highAdjust (s : State) : Bool := decide (0x99 < (s.r8 .al).toNat) || flagCF s.flags

/-- AL and CF after DAA or DAS, free on the open inputs (log 14). -/
def decimalResult : Byte × Bool :=
  if decimalOpen sub (s.r8 .al) s.flags then (Config.freeByte s.draws, Config.freeBit s.draws)
  else decimalAdjusted sub (s.r8 .al) s.flags

/-- The flags that DAA and DAS write follow the new AL, which may be a free one. -/
theorem decimalAdjust_effect : let t := decimalAdjust sub s
    OnlyRegs [.ax] statusMask s t ∧ t.lastEa = s.lastEa ∧ t.r8 .ah = s.r8 .ah ∧ flagAF t.flags = lowAdjust s ∧
      flagCF t.flags = (decimalResult s sub).2 ∧ t.r8 .al = (decimalResult s sub).1 ∧
      flagSF t.flags = (t.r8 .al).msb ∧ flagZF t.flags = (t.r8 .al == 0) ∧ flagPF t.flags = evenOnes (t.r8 .al) := by
  have hal : (decimalAdjust sub s).r8 .al = (decimalResult s sub).1 := setR8_r8_same s .al _
  refine ⟨(((setR8_onlyRegs s (r := .al) (by decide) _).trans (putFlags_onlyRegs _ (by decide) _)).trans
      (onlyRead_bumpDraws _).onlyRegs).trans (havocFlags_onlyRegs _ (by decide)), rfl, setR8_r8_ne s .al .ah _ (by decide),
    (havocFlags_getLsbD _ (by decide) (by decide)).trans (flagAF_putStatus _ _ _ _ _ _ _ _ (by decide)),
    (havocFlags_getLsbD _ (by decide) (by decide)).trans (flagCF_putStatus _ _ _ _ _ _ _ _ (by decide)), hal, ?_⟩
  rw [hal, ← parity_eq_evenOnes]
  exact ⟨(havocFlags_getLsbD _ (by decide) (by decide)).trans (flagSF_putStatus _ _ _ _ _ _ _ _ (by decide)),
    (havocFlags_getLsbD _ (by decide) (by decide)).trans (flagZF_putStatus _ _ _ _ _ _ _ _ (by decide)),
    (havocFlags_getLsbD _ (by decide) (by decide)).trans (flagPF_putStatus _ _ _ _ _ _ _ _ (by decide))⟩

theorem decimalResult_closed (h : decimalOpen sub (s.r8 .al) s.flags = false) :
    decimalResult s sub = decimalAdjusted sub (s.r8 .al) s.flags := by rw [decimalResult, h, if_neg Bool.false_ne_true]

theorem decimalAdjusted_cf : (decimalAdjusted sub (s.r8 .al) s.flags).2 = highAdjust s := rfl

/-- AL after DAA: each half adds its part, modulo 256. -/
theorem decimalAdjusted_daa : (decimalAdjusted false (s.r8 .al) s.flags).1.toNat =
    ((s.r8 .al).toNat + (if lowAdjust s then 6 else 0) + (if highAdjust s then 0x60 else 0)) % 256 := by
  have e : (decimalAdjusted false (s.r8 .al) s.flags).1 =
      if highAdjust s then (if lowAdjust s then s.r8 .al + 6 else s.r8 .al) + 0x60
      else if lowAdjust s then s.r8 .al + 6 else s.r8 .al := rfl
  rw [e]
  cases lowAdjust s <;> cases highAdjust s <;> simp only [if_true, Bool.false_eq_true, if_false] <;> bv_omega

/-- AL after DAS: each half subtracts its part, modulo 256. -/
theorem decimalAdjusted_das : (decimalAdjusted true (s.r8 .al) s.flags).1.toNat =
    ((s.r8 .al).toNat + 512 - (if lowAdjust s then 6 else 0) - (if highAdjust s then 0x60 else 0)) % 256 := by
  have e : (decimalAdjusted true (s.r8 .al) s.flags).1 =
      if highAdjust s then (if lowAdjust s then s.r8 .al - 6 else s.r8 .al) - 0x60
      else if lowAdjust s then s.r8 .al - 6 else s.r8 .al := rfl
  rw [e]
  cases lowAdjust s <;> cases highAdjust s <;> simp only [if_true, Bool.false_eq_true, if_false] <;> bv_omega

end DecimalAdjust

theorem decimalOpen_eq_false {sub : Bool} {al : Byte} {f : Word}
    (h : flagAF f = false ∨ (sub && flagCF f) = true ∨ al.toNat < 0x9A ∨ 0x9F < al.toNat) : decimalOpen sub al f = false := by
  rcases h with h | h | h
  · rw [decimalOpen, h, Bool.false_and, Bool.false_and]
  · rw [decimalOpen, h, Bool.not_true, Bool.and_false]
  · rw [decimalOpen, decide_eq_false (by omega), Bool.and_false, Bool.false_and]

theorem decimalAdjusts : Claim.DecimalAdjust := by
  rintro s _ _ rfl rfl
  refine ⟨⟨_, rfl, ?_⟩, ⟨_, rfl, ?_⟩⟩
  · obtain ⟨hregs, hea, hah, haf, hcf, hal, hsf, hzf, hpf⟩ := decimalAdjust_effect s false
    refine ⟨hregs, hea, hah, haf, hsf, hzf, hpf, fun h => ?_⟩
    rw [hcf, hal, decimalResult_closed s false (decimalOpen_eq_false (h.imp_right .inr))]
    exact ⟨decimalAdjusted_cf s false, decimalAdjusted_daa s⟩
  · obtain ⟨hregs, hea, hah, haf, hcf, hal, hsf, hzf, hpf⟩ := decimalAdjust_effect s true
    refine ⟨hregs, hea, hah, haf, hsf, hzf, hpf, fun h => ?_⟩
    rw [hcf, hal, decimalResult_closed s true (decimalOpen_eq_false h)]
    exact ⟨decimalAdjusted_cf s true, decimalAdjusted_das s⟩

/-- Settles O31: the adjustments write AL, AH and the flags apart, each by the two conditions on its halves. -/
theorem asciiAndDecimalAdjust : Obligations.AsciiAndDecimalAdjust := ⟨asciiAdjusts, decimalAdjusts⟩

end Sys2Proof.Machine

namespace Sys2Proof.Machine
open Sys2Proof

/-! ### Rotations of a bit vector as sums of rotations by one -/

section Rotation
variable {w : Nat} (x : BitVec w)

/-- The bit of a rotation to the right, counted round the word. -/
theorem getLsbD_rotateRight_mod (r i : Nat) :
    (x.rotateRight r).getLsbD i = (decide (i < w) && x.getLsbD ((r + i) % w)) := by
  by_cases hi : i < w
  · have hr : r % w < w := Nat.mod_lt _ (by omega)
    rw [BitVec.getLsbD_rotateRight, ← Nat.mod_add_mod, decide_eq_true hi, Bool.true_and, Bool.true_and]
    generalize r % w = q at hr ⊢
    by_cases hwrap : i < w - q
    · rw [decide_eq_true hwrap, cond_true, Nat.mod_eq_of_lt (by omega)]
    · rw [decide_eq_false hwrap, cond_false, Nat.mod_eq_sub_mod (by omega), Nat.mod_eq_of_lt (by omega)]
      congr 1
      omega
  · rw [decide_eq_false hi, Bool.false_and, BitVec.getLsbD_of_ge _ _ (by omega)]

theorem rotateLeft_zero : x.rotateLeft 0 = x := by
  rw [BitVec.rotateLeft_def, Nat.zero_mod, BitVec.shiftLeft_zero, Nat.sub_zero, BitVec.ushiftRight_eq_zero le_rfl, BitVec.or_zero]

theorem rotateRight_zero : x.rotateRight 0 = x := by
  rw [BitVec.rotateRight_def, Nat.zero_mod, BitVec.ushiftRight_zero, Nat.sub_zero, BitVec.shiftLeft_eq_zero le_rfl, BitVec.or_zero]

theorem rotateLeft_add (j k : Nat) : (x.rotateLeft j).rotateLeft k = x.rotateLeft (j + k) := by
  apply BitVec.eq_of_getMsbD_eq
  intro i hi
  have hlt : (k + i) % w < w := Nat.mod_lt _ (by omega)
  simp only [BitVec.getMsbD_rotateLeft, hi, hlt, decide_true, Bool.true_and, Nat.add_mod_mod, Nat.add_assoc]

theorem rotateRight_add (j k : Nat) : (x.rotateRight j).rotateRight k = x.rotateRight (j + k) := by
  apply BitVec.eq_of_getLsbD_eq
  intro i hi
  have hlt : (k + i) % w < w := Nat.mod_lt _ (by omega)
  simp only [getLsbD_rotateRight_mod, hi, hlt, decide_true, Bool.true_and, Nat.add_mod_mod, Nat.add_assoc]

/-- After a rotation by one to the left, the top bit is at the bottom and every other bit one place up. -/
theorem getLsbD_rotateLeft_one {i : Nat} (hi : i < w) :
    (x.rotateLeft 1).getLsbD i = if i = 0 then x.msb else x.getLsbD (i - 1) := by
  rw [BitVec.getLsbD_rotateLeft, BitVec.msb_eq_getLsbD_last]
  obtain rfl | hw : w = 1 ∨ 1 < w := by omega
  · simp [show i = 0 by omega]
  · rw [Nat.mod_eq_of_lt hw]
    by_cases h0 : i = 0 <;> simp [h0, hi]

/-- After a rotation by one to the right, the bottom bit is at the top and every other bit one place down. -/
theorem getLsbD_rotateRight_one {i : Nat} (hi : i < w) :
    (x.rotateRight 1).getLsbD i = if i + 1 = w then x.getLsbD 0 else x.getLsbD (i + 1) := by
  rw [getLsbD_rotateRight_mod, decide_eq_true hi, Bool.true_and, Nat.add_comm]
  split
  next htop => rw [htop, Nat.mod_self]
  next htop => rw [Nat.mod_eq_of_lt (by omega)]

end Rotation

/-! ### One step of a shift or rotate (42_logic_shift_rotate.md R409 to R415) -/

section ShiftSteps
variable {n : Nat} (cf : Bool) (x : BitVec n)

theorem lowBit_getLsbD {i : Nat} (hi : i < n) : (lowBit n cf).getLsbD i = (decide (i = 0) && cf) := by
  cases cf with
  | false => simp [lowBit, bitNat]
  | true => simp [lowBit, bitNat, show 0 < n by omega]

theorem topBit_getLsbD (i : Nat) : (topBit n cf).getLsbD i = (decide (i + 1 = n) && cf) := by
  cases cf with
  | false => simp [topBit]
  | true => simp [topBit, BitVec.getLsbD_intMin]

/-- What a step to the left makes of each bit. -/
theorem getLsbD_shiftLeft_lowBit {i : Nat} (hi : i < n) :
    ((x <<< 1) ||| lowBit n cf).getLsbD i = if i = 0 then cf else x.getLsbD (i - 1) := by
  rw [BitVec.getLsbD_or, lowBit_getLsbD cf hi, BitVec.getLsbD_shiftLeft]
  by_cases h0 : i = 0 <;> simp [h0, hi]

/-- What a step to the right makes of each bit. -/
theorem getLsbD_shiftRight_topBit (i : Nat) :
    ((x >>> 1) ||| topBit n cf).getLsbD i = if i + 1 = n then cf else x.getLsbD (i + 1) := by
  rw [BitVec.getLsbD_or, topBit_getLsbD, BitVec.getLsbD_ushiftRight, Nat.add_comm 1 i]
  by_cases htop : i + 1 = n <;> simp [htop]

theorem shiftLeft_lowBit_msb : (x <<< 1) ||| lowBit n x.msb = x.rotateLeft 1 :=
  BitVec.eq_of_getLsbD_eq fun _ hi => by rw [getLsbD_shiftLeft_lowBit _ _ hi, getLsbD_rotateLeft_one _ hi]

theorem shiftRight_topBit_low : (x >>> 1) ||| topBit n (x.getLsbD 0) = x.rotateRight 1 :=
  BitVec.eq_of_getLsbD_eq fun _ hi => by rw [getLsbD_shiftRight_topBit, getLsbD_rotateRight_one _ hi]

theorem shiftRight_topBit_msb : (x >>> 1) ||| topBit n x.msb = x.sshiftRight 1 := by
  apply BitVec.eq_of_getLsbD_eq
  intro i hi
  rw [getLsbD_shiftRight_topBit, BitVec.getLsbD_sshiftRight, Nat.add_comm 1 i]
  by_cases htop : i + 1 = n
  · simp [htop, show ¬ n ≤ i by omega]
  · simp [htop, show ¬ n ≤ i by omega, show i + 1 < n by omega]

/-- RCL turns the operand with CF above it by one. -/
theorem cons_shiftStep_rcl (hn : 0 < n) :
    BitVec.cons (shiftStep .rcl cf x).1 (shiftStep .rcl cf x).2 = (BitVec.cons cf x).rotateLeft 1 := by
  apply BitVec.eq_of_getLsbD_eq
  intro i hi
  rw [shiftStep, getLsbD_rotateLeft_one _ hi, BitVec.msb_cons, BitVec.getLsbD_cons, BitVec.getLsbD_cons]
  by_cases htop : i = n
  · rw [if_pos htop, if_neg (by omega), if_neg (by omega), htop, BitVec.msb_eq_getLsbD_last]
  · rw [if_neg htop, if_neg (c := i - 1 = n) (by omega), getLsbD_shiftLeft_lowBit _ _ (by omega)]

/-- RCR turns the operand with CF above it by one. -/
theorem cons_shiftStep_rcr (hn : 0 < n) :
    BitVec.cons (shiftStep .rcr cf x).1 (shiftStep .rcr cf x).2 = (BitVec.cons cf x).rotateRight 1 := by
  apply BitVec.eq_of_getLsbD_eq
  intro i hi
  simp only [shiftStep, getLsbD_rotateRight_one _ hi, BitVec.getLsbD_cons, getLsbD_shiftRight_topBit,
    Nat.add_right_cancel_iff, if_neg hn.ne]

end ShiftSteps

/-! ### Any number of steps (R407, R409 to R415) -/

section ShiftCounts
variable {n : Nat} {op : ShiftOp} (cf : Bool) (x : BitVec n)

/-- The last step of an iteration, after all the others. -/
theorem shiftIter_succ (k : Nat) :
    shiftIter op (k + 1) cf x = shiftStep op (shiftIter op k cf x).1 (shiftIter op k cf x).2 := by
  induction k generalizing cf x with
  | zero => rfl
  | succ k ih => exact ih _ _

theorem shiftIter_snd_closed {res : Nat → BitVec n} (hzero : res 0 = x)
    (hstep : ∀ k c, (shiftStep op c (res k)).2 = res (k + 1))
    (k : Nat) : (shiftIter op k cf x).2 = res k := by
  induction k with
  | zero => exact hzero.symm
  | succ k ih => rw [shiftIter_succ, ih, hstep]

/-- When one step takes the closed form `res` on by one, whatever CF was, the iteration has that closed form, with the CF that
its last step gives. -/
theorem shiftIter_closed {out : Nat → Bool} {res : Nat → BitVec n} (hzero : res 0 = x)
    (hstep : ∀ k c, shiftStep op c (res k) = (out k, res (k + 1))) (k : Nat) :
    shiftIter op (k + 1) cf x = (out k, res (k + 1)) := by
  rw [shiftIter_succ, shiftIter_snd_closed cf x hzero (fun k c => congrArg Prod.snd (hstep k c)), hstep]

/-- The top bit after a shift to the left by `k` is the one that the next step shifts out. -/
theorem msb_shiftLeft (k : Nat) : (x <<< k).msb = (decide (k + 1 ≤ n) && x.getLsbD (n - (k + 1))) := by
  by_cases h : k + 1 ≤ n
  · rw [BitVec.msb_eq_getLsbD_last, BitVec.getLsbD_shiftLeft, decide_eq_true h, decide_eq_true (by omega),
      decide_eq_false (by omega), Bool.not_false, Bool.true_and, show n - 1 - k = n - (k + 1) by omega]
  · rw [BitVec.shiftLeft_eq_zero (by omega), BitVec.msb_zero, decide_eq_false h, Bool.false_and]

/-- The bottom bit after an arithmetic shift to the right by `k`: from the sign on, the sign. -/
theorem getLsbD_zero_sshiftRight (hn : 0 < n) (k : Nat) :
    (x.sshiftRight k).getLsbD 0 = if k + 1 < n then x.getLsbD k else x.msb := by
  rw [BitVec.getLsbD_sshiftRight, decide_eq_false (by omega), Bool.not_false, Bool.true_and, Nat.add_zero]
  obtain h | h | h : k + 1 < n ∨ k = n - 1 ∨ n ≤ k := by omega
  · rw [if_pos h, if_pos (by omega)]
  · rw [if_pos (by omega), if_neg (by omega), h, BitVec.msb_eq_getLsbD_last]
  · rw [if_neg (by omega), if_neg (by omega)]

theorem shiftStep_shl_shiftLeft (k : Nat) (cf : Bool) : shiftStep .shl cf (x <<< k) =
    (decide (k + 1 ≤ n) && x.getLsbD (n - (k + 1)), x <<< (k + 1)) := by
  rw [shiftStep, msb_shiftLeft, ← BitVec.shiftLeft_add]

theorem shiftStep_shr_shiftRight (k : Nat) (cf : Bool) : shiftStep .shr cf (x >>> k) = (x.getLsbD k, x >>> (k + 1)) := by
  rw [shiftStep, BitVec.getLsbD_ushiftRight, ← BitVec.shiftRight_add, Nat.add_zero]

theorem shiftStep_sar_sshiftRight (hn : 0 < n) (k : Nat) (cf : Bool) : shiftStep .sar cf (x.sshiftRight k) =
    (if k + 1 < n then x.getLsbD k else x.msb, x.sshiftRight (k + 1)) := by
  rw [shiftStep, shiftRight_topBit_msb, ← BitVec.sshiftRight_add, getLsbD_zero_sshiftRight x hn]

theorem shiftStep_rol_rotateLeft (hn : 0 < n) (k : Nat) (cf : Bool) : shiftStep .rol cf (x.rotateLeft k) =
    ((x.rotateLeft (k + 1)).getLsbD 0, x.rotateLeft (k + 1)) := by
  rw [shiftStep, shiftLeft_lowBit_msb, ← rotateLeft_add, getLsbD_rotateLeft_one _ hn, if_pos rfl]

theorem shiftStep_ror_rotateRight (hn : 0 < n) (k : Nat) (cf : Bool) : shiftStep .ror cf (x.rotateRight k) =
    ((x.rotateRight (k + 1)).msb, x.rotateRight (k + 1)) := by
  rw [shiftStep, shiftRight_topBit_low, ← rotateRight_add, BitVec.msb_eq_getLsbD_last, getLsbD_rotateRight_one _ (by omega),
    if_pos (by omega)]

theorem cons_shiftIter_rcl (hn : 0 < n) (k : Nat) :
    BitVec.cons (shiftIter .rcl k cf x).1 (shiftIter .rcl k cf x).2 = (BitVec.cons cf x).rotateLeft k := by
  induction k with
  | zero => exact (rotateLeft_zero _).symm
  | succ k ih => rw [shiftIter_succ, cons_shiftStep_rcl _ _ hn, ih, rotateLeft_add]

theorem cons_shiftIter_rcr (hn : 0 < n) (k : Nat) :
    BitVec.cons (shiftIter .rcr k cf x).1 (shiftIter .rcr k cf x).2 = (BitVec.cons cf x).rotateRight k := by
  induction k with
  | zero => exact (rotateRight_zero _).symm
  | succ k ih => rw [shiftIter_succ, cons_shiftStep_rcr _ _ hn, ih, rotateRight_add]

end ShiftCounts

theorem shiftResults : Claim.ShiftResults := by
  intro n count cf x hwidth hcount
  have hn : 0 < n := by omega
  obtain ⟨k, rfl⟩ := Nat.exists_eq_add_one.mpr hcount
  exact ⟨shiftIter_closed cf x (BitVec.shiftLeft_zero x) (shiftStep_shl_shiftLeft x) k,
    shiftIter_closed cf x (BitVec.ushiftRight_zero x) (shiftStep_shr_shiftRight x) k,
    shiftIter_closed cf x BitVec.sshiftRight_zero (shiftStep_sar_sshiftRight x hn) k⟩

theorem rotateResults : Claim.RotateResults := by
  intro n count cf x hwidth hcount
  have hn : 0 < n := by omega
  obtain ⟨k, rfl⟩ := Nat.exists_eq_add_one.mpr hcount
  exact ⟨shiftIter_closed cf x (rotateLeft_zero x) (shiftStep_rol_rotateLeft x hn) k,
    shiftIter_closed cf x (rotateRight_zero x) (shiftStep_ror_rotateRight x hn) k,
    cons_shiftIter_rcl cf x hn (k + 1), cons_shiftIter_rcr cf x hn (k + 1)⟩

/-- Settles O5: a step takes each closed form on by one; CF with the operand below it is one longer word that RCL and RCR turn. -/
theorem shiftRotateResults : Obligations.ShiftRotateResults := ⟨shiftResults, rotateResults⟩

/-! ### The flags of a shift or rotate (R407, R408) -/

/-- A flag of a masked write, by whether the mask has it. -/
theorem putFlags_flag {m v f : Word} {i : Nat} {b : Bool} (hi : i < 16)
    (hput : m.getLsbD i = true → (putFlags m v f).getLsbD i = b) :
    (putFlags m v f).getLsbD i = if m.getLsbD i then b else f.getLsbD i := by
  cases hm : m.getLsbD i with
  | true => exact hput hm
  | false => rw [putFlags_getLsbD _ _ _ _ hi, hm]; rfl

/-- Status flags written under a narrower mask: the flags in the mask are written, the others kept. -/
theorem statusIs_putFlags_masked {m : Word} (hm : m &&& ~~~statusMask = 0) (c p a z sg o : Bool) (f : Word) :
    StatusIs (putFlags m (packStatus c p a z sg o) f) f (if m.getLsbD 0 then c else flagCF f)
      (if m.getLsbD 2 then p else flagPF f) (if m.getLsbD 4 then a else flagAF f) (if m.getLsbD 6 then z else flagZF f)
      (if m.getLsbD 7 then sg else flagSF f) (if m.getLsbD 11 then o else flagOF f) where
  cf := putFlags_flag (by decide) (flagCF_putStatus c p a z sg o m f)
  pf := putFlags_flag (by decide) (flagPF_putStatus c p a z sg o m f)
  af := putFlags_flag (by decide) (flagAF_putStatus c p a z sg o m f)
  zf := putFlags_flag (by decide) (flagZF_putStatus c p a z sg o m f)
  sf := putFlags_flag (by decide) (flagSF_putStatus c p a z sg o m f)
  of := putFlags_flag (by decide) (flagOF_putStatus c p a z sg o m f)
  rest := kept_mono (putFlags_kept _ _ _) hm

theorem shiftWritten_status (op : ShiftOp) (count : Nat) : shiftWritten op count &&& ~~~statusMask = 0 := by
  unfold shiftWritten
  cases op.isRotate <;> cases count == 1 <;> decide

/-- What a shift or rotate writes: CF; the flags of the result unless it is a rotate; OF when the count is 1. -/
theorem shiftWritten_getLsbD (op : ShiftOp) (count : Nat) :
    (shiftWritten op count).getLsbD 0 = true ∧
    ((shiftWritten op count).getLsbD 2 = true ↔ ¬ op.isRotate = true) ∧
    ((shiftWritten op count).getLsbD 4 = true ↔ ¬ op.isRotate = true) ∧
    ((shiftWritten op count).getLsbD 6 = true ↔ ¬ op.isRotate = true) ∧
    ((shiftWritten op count).getLsbD 7 = true ↔ ¬ op.isRotate = true) ∧
    ((shiftWritten op count).getLsbD 11 = true ↔ count = 1) := by
  rw [← beq_iff_eq (a := count), shiftWritten]
  cases op.isRotate <;> cases count == 1 <;> decide

/-- Settles O6: of the status flags, those that the operation does not write are kept. -/
theorem shiftFlagsStatusIs : Obligations.ShiftFlags := by
  intro n op count cf x f _ _
  obtain ⟨hcf, hpf, haf, hzf, hsf, hof⟩ := shiftWritten_getLsbD op count
  have h := statusIs_putFlags_masked (shiftWritten_status op count) cf (parity x) false (x == 0) x.msb (shiftOF op cf x) f
  simp only [hcf, hpf, haf, hzf, hsf, hof, if_true, ite_not] at h
  rw [← parity_eq_evenOnes, ← beq_zero_eq_decide, ← BitVec.msb_eq_toInt]
  exact h

end Sys2Proof.Machine

namespace Sys2Proof.Machine
open Sys2Proof

/-! ### Jumps (44_control_transfer.md R473 to R477, 46_undefined_opcodes.md R564) -/

section Jumps
variable {ea : Word} {s u : State}

/-- A jump within the segment after the read of its target. -/
theorem OnlyRead.nearTransfer (h : OnlyRead ea s u) (target : Word) :
    Jumped target s (nearTransfer target u) ∧ (Machine.nearTransfer target u).lastEa = ea := by
  obtain ⟨hfetch, ⟨hgpr, hmem⟩, hflags, hsys⟩ := nearTransfer_jumped u target
  exact ⟨⟨hfetch, ⟨hgpr.trans h.gpr, fun a => (hmem a).trans (byteAt_of_mem h.mem a)⟩, hflags.trans h.flags,
    hsys.trans h.ordinary.2⟩, (nearTransfer_lastEa u target).trans h.lastEa⟩

/-- A jump to another segment after the read of its pointer. -/
theorem OnlyRead.farTransfer (h : OnlyRead ea s u) (sv target : Word) :
    JumpedFar sv target s (farTransfer sv target u) ∧ (Machine.farTransfer sv target u).lastEa = ea := by
  obtain ⟨hfetch, ⟨hgpr, hmem⟩, hflags, hsys⟩ := farTransfer_jumped u sv target
  exact ⟨⟨hfetch, ⟨hgpr.trans h.gpr, fun a => (hmem a).trans (byteAt_of_mem h.mem a)⟩, hflags.trans h.flags,
    hsys.trans (systemCs_of_system h.ordinary.2 sv)⟩, (farTransfer_lastEa u sv target).trans h.lastEa⟩

end Jumps

/-- Settles O42: every jump reads its target, which changes nothing but `last_ea`, and then transfers control. -/
theorem jumpForms : Obligations.JumpForms := by
  refine fun s => ⟨fun d => ⟨_, rfl, OnlyRead.refl.nearTransfer _⟩, fun d => ⟨_, rfl, OnlyRead.refl.nearTransfer _⟩,
    fun rm => ⟨_, rfl, (load16_onlyRead s rm).nearTransfer _⟩, fun off sg => ⟨_, rfl, OnlyRead.refl.farTransfer _ _⟩, fun m => ?_,
    fun r => ⟨_, rfl, (loadFarLastEa_onlyRead s).farTransfer _ _⟩⟩
  have h := (loadFar_onlyRead s m).farTransfer (loadFar m s).2.1 (loadFar m s).1
  exact List.forall_iff_forall_mem.mp ⟨⟨_, rfl, h⟩, ⟨_, rfl, h⟩⟩

end Sys2Proof.Machine

namespace Sys2Proof.Machine
open Sys2Proof

/-! ### Conditional jumps (44_control_transfer.md R471, R472, R486 to R489, 46_undefined_opcodes.md R551) -/

/-- Settles O7: each condition is a test of its flags, and the odd ones negate the even ones. -/
theorem conditions : Obligations.Conditions := by
  intro f
  simp only [condition, beq_true, beq_false, true_and]
  intro k hk
  interval_cases k <;> simp [bne]

section ConditionalJumps
variable (s : State)

theorem exec_jcc (d : Byte) : ∀ p ∈ jccForms, exec (p.2 d) s = .next (jcc p.1 d s) :=
  List.forall_iff_forall_mem.mp
    ⟨rfl, rfl, rfl, rfl, rfl, rfl, rfl, rfl, rfl, rfl, rfl, rfl, rfl, rfl, rfl, rfl,
      rfl, rfl, rfl, rfl, rfl, rfl, rfl, rfl, rfl, rfl, rfl, rfl, rfl, rfl, rfl, rfl⟩

theorem exec_loop (d : Byte) : ∀ p ∈ [(Instr.loop d, true), (Instr.loopz d, flagZF s.flags), (Instr.loopnz d, !flagZF s.flags)],
    exec p.1 s = .next (loopIf p.2 d s) :=
  List.forall_iff_forall_mem.mp ⟨rfl, rfl, rfl⟩

theorem exec_jcxz (d : Byte) : exec (.jcxz d) s = .next (jumpIf (s.r16 .cx == 0) d s) := rfl

theorem jumpIf_of_true {c : Bool} (h : c = true) (d : Byte) : jumpIf c d s = nearTransfer (s.ip + d.signExtend 16) s := if_pos h

theorem jumpIf_of_false {c : Bool} (h : c = false) (d : Byte) : jumpIf c d s = s := by rw [h]; rfl

/-- A jump, taken or not, leaves everything but the place in the instruction stream alone. -/
theorem jumpIf_keeps (c : Bool) (d : Byte) : NothingWritten s (jumpIf c d s) ∧ (jumpIf c d s).flags = s.flags ∧
    (jumpIf c d s).lastEa = s.lastEa ∧ (jumpIf c d s).system = s.system := by
  cases c with
  | true =>
    obtain ⟨-, hkept, hflags, hsys⟩ := nearTransfer_jumped s (s.ip + d.signExtend 16)
    exact ⟨hkept, hflags, nearTransfer_lastEa _ _, hsys⟩
  | false => exact ⟨⟨rfl, memKept_of_mem rfl⟩, rfl, rfl, rfl⟩

/-- The state in which LOOP decides: CX is decremented. -/
def loopCounted (s : State) : State := s.setR16 .cx (s.r16 .cx - 1)

theorem loopIf_eq (c : Bool) (d : Byte) : loopIf c d s = jumpIf (decide (s.r16 .cx ≠ 1) && c) d (loopCounted s) := by
  have hcx : (loopCounted s).r16 .cx = s.r16 .cx - 1 := setR16_r16_same s .cx _
  have hne : ((loopCounted s).r16 .cx != 0) = decide (s.r16 .cx ≠ 1) := by
    rw [hcx, Bool.eq_iff_iff, bne_iff_ne, decide_eq_true_iff, ne_eq, ne_eq, sub_eq_zero]
  exact congrArg (fun b => jumpIf (b && c) d (loopCounted s)) hne

end ConditionalJumps

theorem conditionalJump : Claim.ConditionalJump := fun p hp d s =>
  ⟨fun h => ⟨_, (exec_jcc s d p hp).trans (congrArg _ (jumpIf_of_true s h d)), OnlyRead.refl.nearTransfer _⟩,
    fun h => (exec_jcc s d p hp).trans (congrArg _ (jumpIf_of_false s h d))⟩

theorem countedJump : Claim.CountedJump := by
  refine fun d s => ⟨fun p hp => ⟨_, exec_loop s d p hp, ?_⟩, fun h => ⟨_, ?_, OnlyRead.refl.nearTransfer _⟩, fun h => ?_⟩
  · obtain ⟨⟨hgpr, hmem⟩, hflags, hea, hsys⟩ := jumpIf_keeps (loopCounted s) (decide (s.r16 .cx ≠ 1) && p.2) d
    rw [loopIf_eq]
    refine ⟨(r16_of_gpr hgpr .cx).trans (setR16_r16_same s .cx _),
      fun r hr => (r16_of_gpr hgpr r).trans (setR16_r16_ne s .cx r _ (List.ne_of_not_mem_cons hr)), hmem, hflags, hea, hsys,
      fun h1 hp2 => ?_, fun h => ?_⟩
    · rw [jumpIf_of_true _ (by rw [hp2, Bool.and_true]; exact decide_eq_true h1)]
      exact (nearTransfer_jumped _ _).1
    · rw [jumpIf_of_false _ (by rcases h with h | h <;> simp [h])]
      exact ⟨rfl, rfl, rfl⟩
  · rw [exec_jcxz, jumpIf_of_true s (beq_iff_eq.mpr h)]
  · rw [exec_jcxz, jumpIf_of_false s (beq_eq_false_iff_ne.mpr h)]

/-- Settles O41: a jump taken is a near transfer, one not taken does nothing; LOOP decides after the decrement of CX. -/
theorem conditionalJumps : Obligations.ConditionalJumps := ⟨conditionalJump, countedJump⟩

end Sys2Proof.Machine

namespace Sys2Proof.Machine
open Sys2Proof

/-! ### CALL (44_control_transfer.md R478 to R481, 46_undefined_opcodes.md R564) -/

section Calls
variable {ea : Word} {s u : State}

theorem OnlyRead.pushedWords (h : OnlyRead ea s u) : PushedWords [] s u := pushedWords_congr (pushedWords_nil s) h.gpr h.mem

theorem OnlyRead.wf (h : OnlyRead ea s u) (hw : Memory.wf s.mem = true) : Memory.wf u.mem = true := by rwa [h.mem]

/-- A near call after the read of its target. -/
theorem OnlyRead.callNear (h : OnlyRead ea s u) (target : Word) : let t := callNear target u
    PushedWords [s.ip] s t ∧ FetchesAt target t ∧ t.flags = s.flags ∧ t.lastEa = ea ∧ t.system = s.system := by
  have hpush : PushedWords [s.ip] s (Machine.push16 s.ip u) :=
    push16_words s.ip h.pushedWords (congrArg Segs.ss h.seg) h.cfg h.wf (by decide)
  have hcall : Machine.callNear target u = Machine.nearTransfer target (Machine.push16 s.ip u) := by
    rw [Machine.callNear, h.ordinary.1]
  simp only [hcall]
  refine ⟨pushedWords_congr hpush (nearTransfer_gpr _ _) (nearTransfer_mem _ _), (nearTransfer_jumped _ _).1, ?_, ?_, ?_⟩
  · simp [h.flags]
  · simp [h.lastEa]
  · simp [h.ordinary.2]

/-- A far call after the read of its pointer. -/
theorem OnlyRead.callFar (h : OnlyRead ea s u) (sv target : Word) : let t := callFar sv target u
    PushedWords [s.seg.cs, s.ip] s t ∧ FetchesAt target t ∧ t.flags = s.flags ∧ t.lastEa = ea ∧ t.system = s.systemCs sv := by
  have hcs : PushedWords [s.seg.cs] s (Machine.push16 s.seg.cs u) :=
    push16_words s.seg.cs h.pushedWords (congrArg Segs.ss h.seg) h.cfg h.wf (by decide)
  have hpush : PushedWords [s.seg.cs, s.ip] s (Machine.push16 s.ip (Machine.push16 s.seg.cs u)) :=
    push16_words s.ip hcs (by simp [h.seg]) (by simp [h.cfg]) (fun hw => push16_wf u _ (h.wf hw)) (by simp)
  have hcall : Machine.callFar sv target u = Machine.farTransfer sv target (Machine.push16 s.ip (Machine.push16 s.seg.cs u)) := by
    rw [Machine.callFar, h.ordinary.1, h.seg]
  simp only [hcall]
  refine ⟨pushedWords_congr hpush (farTransfer_gpr _ _ _) (farTransfer_mem _ _ _), (farTransfer_jumped _ _ _).1, ?_, ?_, ?_⟩
  · simp [h.flags]
  · simp [h.lastEa]
  · rw [farTransfer_system]
    exact systemCs_of_system (by simp [h.ordinary.2]) sv

end Calls

theorem callNear_effect : Claim.CallNear := fun s =>
  ⟨fun _ => ⟨_, rfl, OnlyRead.refl.callNear _⟩, fun rm => ⟨_, rfl, (load16_onlyRead s rm).callNear _⟩⟩

theorem callFar_effect : Claim.CallFar := by
  refine fun s => ⟨fun off sg => ⟨_, rfl, OnlyRead.refl.callFar _ _⟩, fun m => ?_,
    fun r => ⟨_, rfl, (loadFarLastEa_onlyRead s).callFar _ _⟩⟩
  have h := (loadFar_onlyRead s m).callFar (loadFar m s).2.1 (loadFar m s).1
  exact List.forall_iff_forall_mem.mp ⟨⟨_, rfl, h⟩, ⟨_, rfl, h⟩⟩

/-- Settles O43: every call reads its target before it pushes, and each word pushed stands on those before it. -/
theorem callForms : Obligations.CallForms := ⟨callNear_effect, callFar_effect⟩

end Sys2Proof.Machine

namespace Sys2Proof.Machine
open Sys2Proof

/-! ### RET, RETF and IRET (44_control_transfer.md R482 to R485, R493, 46_undefined_opcodes.md R552) -/

/-- SP has moved up by `n`; no other register and no byte of memory has changed. -/
structure Popped (n : Word) (s u : State) : Prop where
  gpr : u.gpr = s.gpr.set .sp (s.r16 .sp + n)
  mem : u.mem = s.mem
  lastEa : u.lastEa = s.lastEa
  system : u.system = s.system

section Returns
variable {n : Word} {s u : State}

theorem Popped.sp (h : Popped n s u) : u.r16 .sp = s.r16 .sp + n :=
  (congrArg (Gpr.get · .sp) h.gpr).trans (Gpr.get_set_same _ _ _)

theorem Popped.regs (h : Popped n s u) : RegsKeptBut [.sp] s u := fun r hr =>
  (congrArg (Gpr.get · r) h.gpr).trans (Gpr.get_set_ne _ _ _ _ (List.ne_of_not_mem_cons hr))

/-- The bytes that a return takes off the stack. -/
theorem Popped.setSp (h : Popped n s u) (k : Word) : Popped (n + k) s (u.setR16 .sp (u.r16 .sp + k)) where
  gpr := by rw [setR16_gpr, h.sp, h.gpr, Gpr.set_set, BitVec.add_assoc]
  mem := h.mem
  lastEa := h.lastEa
  system := h.system

theorem Popped.pop16 (h : Popped n s u) : Popped (n + 2) s (pop16 u).2 where
  gpr := (pop16_gpr u).trans (h.setSp 2).gpr
  mem := (pop16_mem u).trans h.mem
  lastEa := (pop16_lastEa u).trans h.lastEa
  system := (pop16_system u).trans h.system

theorem Popped.setFlags (h : Popped n s u) (f : Word) : Popped n s (u.setFlags f) := ⟨h.gpr, h.mem, h.lastEa, h.system⟩

theorem popped_refl (s : State) : Popped 0 s s where
  gpr := by rw [show s.r16 .sp + 0 = s.gpr.get .sp from BitVec.add_zero _, Gpr.set_get]
  mem := rfl
  lastEa := rfl
  system := rfl

/-- The next word to be popped, when it stands in memory. -/
theorem Popped.topWord (h : Popped n s u) (hm : s.wordInMemory s.seg.ss (s.r16 .sp + n)) :
    topWord u = s.wordAt s.seg.ss (s.r16 .sp + n) := by
  have hseg : u.seg = s.seg := congrArg System.seg h.system
  rw [Machine.topWord, hseg, h.sp, readWord_memory u _ _ _ (wordInMemory_of_cfg (congrArg System.cfg h.system) _ _ hm),
    wordAt_of_mem h.mem]

theorem Popped.nearTransfer (h : Popped n s u) (target : Word) : let t := nearTransfer target u
    FetchesAt target t ∧ t.r16 .sp = s.r16 .sp + n ∧ RegsKeptBut [.sp] s t ∧ MemKept s t ∧ t.flags = u.flags ∧
      t.lastEa = s.lastEa ∧ t.system = s.system := by
  obtain ⟨hfetch, ⟨hgpr, hmem⟩, hflags, hsys⟩ := nearTransfer_jumped u target
  exact ⟨hfetch, (r16_of_gpr hgpr .sp).trans h.sp, fun r hr => (r16_of_gpr hgpr r).trans (h.regs r hr),
    fun a => (hmem a).trans (byteAt_of_mem h.mem a), hflags, (nearTransfer_lastEa u target).trans h.lastEa, hsys.trans h.system⟩

theorem Popped.farTransfer (h : Popped n s u) (sv target : Word) : let t := farTransfer sv target u
    FetchesAt target t ∧ t.r16 .sp = s.r16 .sp + n ∧ RegsKeptBut [.sp] s t ∧ MemKept s t ∧ t.flags = u.flags ∧
      t.lastEa = s.lastEa ∧ t.system = s.systemCs sv := by
  obtain ⟨hfetch, ⟨hgpr, hmem⟩, hflags, hsys⟩ := farTransfer_jumped u sv target
  exact ⟨hfetch, (r16_of_gpr hgpr .sp).trans h.sp, fun r hr => (r16_of_gpr hgpr r).trans (h.regs r hr),
    fun a => (hmem a).trans (byteAt_of_mem h.mem a), hflags, (farTransfer_lastEa u sv target).trans h.lastEa,
    hsys.trans (systemCs_of_system h.system sv)⟩

end Returns

section ReturnForms
variable (s : State)

theorem retNear_effect (k : Word) : let t := retNear k s
    FetchesAt (topWord s) t ∧ t.r16 .sp = s.r16 .sp + 2 + k ∧ RegsKeptBut [.sp] s t ∧ MemKept s t ∧ t.flags = s.flags ∧
      t.lastEa = s.lastEa ∧ t.system = s.system := by
  obtain ⟨hfetch, hsp, hregs, hmem, hflags, hframe⟩ := ((popped_refl s).pop16.setSp k).nearTransfer (topWord s)
  exact ⟨hfetch, by rw [BitVec.add_assoc]; exact hsp, hregs, hmem, hflags.trans (pop16_flags s), hframe⟩

theorem retFar_effect (k : Word) : let t := retFar k s
    FetchesAt (topWord s) t ∧ t.r16 .sp = s.r16 .sp + 4 + k ∧ RegsKeptBut [.sp] s t ∧ MemKept s t ∧ t.flags = s.flags ∧
      t.lastEa = s.lastEa ∧ t.system = s.systemCs t.seg.cs ∧
      (s.wordInMemory s.seg.ss (s.r16 .sp + 2) → t.seg.cs = s.wordAt s.seg.ss (s.r16 .sp + 2)) := by
  have hip := (popped_refl s).pop16
  obtain ⟨hfetch, hsp, hregs, hmem, hflags, hea, hsys⟩ := (hip.pop16.setSp k).farTransfer (topWord (pop16 s).2) (topWord s)
  exact ⟨hfetch, by rw [BitVec.add_assoc]; exact hsp, hregs, hmem, hflags.trans ((pop16_flags _).trans (pop16_flags s)), hea,
    hsys, hip.topWord⟩

theorem returnFromInterrupt_effect : let t := returnFromInterrupt s
    FetchesAt (topWord s) t ∧ t.r16 .sp = s.r16 .sp + 6 ∧ RegsKeptBut [.sp] s t ∧ MemKept s t ∧ t.lastEa = s.lastEa ∧
    t.system = s.systemCs t.seg.cs ∧ flagsPinned t.flags = true ∧
    (s.wordInMemory s.seg.ss (s.r16 .sp + 2) → t.seg.cs = s.wordAt s.seg.ss (s.r16 .sp + 2)) ∧
    (s.wordInMemory s.seg.ss (s.r16 .sp + 4) → t.flags = pinFlags (s.wordAt s.seg.ss (s.r16 .sp + 4))) := by
  have hip := (popped_refl s).pop16
  have hcs := hip.pop16
  have hfl := hcs.pop16.setFlags (pinFlags (topWord (pop16 (pop16 s).2).2))
  obtain ⟨hfetch, hsp, hregs, hmem, hflags, hea, hsys⟩ := hfl.farTransfer (topWord (pop16 s).2) (topWord s)
  exact ⟨hfetch, hsp, hregs, hmem, hea, hsys, (congrArg flagsPinned hflags).trans (flagsPinned_pinFlags _), hip.topWord,
    fun hm => hflags.trans (congrArg pinFlags (hcs.topWord hm))⟩

end ReturnForms

theorem return_effect : Claim.Return := by
  refine fun s k => ⟨?_, ?_⟩
  · rintro i (⟨rfl, rfl | rfl⟩ | rfl | rfl) <;> exact ⟨_, rfl, retNear_effect s _⟩
  · rintro i (⟨rfl, rfl | rfl⟩ | rfl | rfl) <;> exact ⟨_, rfl, retFar_effect s _⟩

theorem interruptReturn : Claim.InterruptReturn := fun s => ⟨_, rfl, returnFromInterrupt_effect s⟩

/-- Settles O44: every return pops its words one after the other and then transfers control. -/
theorem returnForms : Obligations.ReturnForms := ⟨return_effect, interruptReturn⟩

end Sys2Proof.Machine

namespace Sys2Proof.Machine
open Sys2Proof

/-! ### IRET after an interrupt (60_exceptions.md R621, R632) -/

section InterruptUndone
variable {s t : State}

/-- A word pushed to RAM stands in memory at its slot. -/
theorem PushedWords.wordAt {vs : List Word} (h : PushedWords vs s t) (hwf : Memory.wf s.mem = true) (hcfg : t.cfg = s.cfg)
    (hram : ∀ a ∈ stackBytes s vs.length, s.isRam a) {k : Nat} {v : Word} (hk : vs[k]? = some v) :
    t.wordInMemory s.seg.ss (stackSlot s k) ∧ t.wordAt s.seg.ss (stackSlot s k) = v := by
  have hlt : k < vs.length := (List.getElem?_eq_some_iff.mp hk).1
  have hmem : ∀ a ∈ [lin s.seg.ss (stackSlot s k), lin s.seg.ss (stackSlot s k + 1)], s.isRam a := fun a ha =>
    hram a (List.mem_flatMap.mpr ⟨k, List.mem_range.mpr hlt, ha⟩)
  have hlo := hmem _ List.mem_cons_self
  have hhi := hmem _ (List.mem_cons_of_mem _ List.mem_cons_self)
  obtain ⟨-, -, -, hwords⟩ := h
  obtain ⟨vlo, vhi⟩ := hwords k v hk hwf
  refine ⟨wordInMemory_of_cfg hcfg _ _ ⟨.inl hlo, .inl hhi⟩, ?_⟩
  rw [State.wordAt, vlo hlo, vhi hhi, wordOf_halves]

theorem gpr_eq_of_r16 (h : ∀ r, t.r16 r = s.r16 r) : t.gpr = s.gpr := by
  have parts (u : State) : u.gpr = ⟨u.r16 .ax, u.r16 .cx, u.r16 .dx, u.r16 .bx, u.r16 .sp, u.r16 .bp, u.r16 .si, u.r16 .di⟩ := rfl
  rw [parts s, parts t]
  simp only [h]

/-- A second change of CS overwrites the first. -/
theorem systemCs_of_systemCs {v : Word} (h : t.system = s.systemCs v) (w : Word) : t.systemCs w = s.systemCs w := by
  have hseg : t.seg = { s.seg with cs := v } := congrArg System.seg h
  unfold State.systemCs
  rw [h, hseg]
  rfl

theorem pinFlags_of_flagsPinned {f : Word} (h : flagsPinned f = true) : pinFlags f = f := by
  have h : f &&& 0xF02A = 0xF002 := by simpa [flagsPinned] using h
  have hall : (0x0FD5 : Word) ||| 0xF02A = BitVec.allOnes 16 := rfl
  rw [pinFlags, ← h, ← BitVec.and_or_distrib_left, hall, BitVec.and_allOnes]

end InterruptUndone

/-- Settles O12: IRET pops the three words that the sequence has pushed, which stand in RAM. -/
theorem iretUndoesInterrupt : Obligations.IretUndoesInterrupt := by
  intro n ret s hwf hpin hram
  obtain ⟨hwords, -, -, -, -, hsys⟩ := (interrupt_entered s n ret).1
  generalize interrupt n ret s = u at hwords hsys
  have hword {k : Nat} {v : Word} (hk : [s.flags, s.seg.cs, ret][k]? = some v) :=
    hwords.wordAt hwf (cfg_of_systemCs hsys) hram hk
  obtain ⟨hsp, hregs, hmem, -⟩ := hwords
  have hss : u.seg.ss = s.seg.ss := congrArg (fun y => y.seg.ss) hsys
  have hslot2 : u.r16 .sp = stackSlot s 2 := hsp
  have hslot1 : u.r16 .sp + 2 = stackSlot s 1 := by rw [hslot2, stackSlot, stackSlot]; bv_omega
  have hslot0 : u.r16 .sp + 4 = stackSlot s 0 := by rw [hslot2, stackSlot, stackSlot]; bv_omega
  obtain ⟨hfetch, hspT, hregsT, hmemT, -, hsysT, -, hcsT, hflT⟩ := returnFromInterrupt_effect u
  have hip : topWord u = ret := by
    rw [topWord, hss, hslot2, readWord_memory u _ _ _ (hword rfl).1, (hword rfl).2]
  have hcs : (returnFromInterrupt u).seg.cs = s.seg.cs := by
    rw [hss, hslot1] at hcsT
    rw [hcsT (hword rfl).1, (hword rfl).2]
  have hfl : (returnFromInterrupt u).flags = s.flags := by
    rw [hss, hslot0] at hflT
    rw [hflT (hword rfl).1, (hword rfl).2, pinFlags_of_flagsPinned hpin]
  have hgpr : (returnFromInterrupt u).gpr = s.gpr := gpr_eq_of_r16 fun r => by
    by_cases hr : r = .sp
    · rw [hr, hspT, hsp]
      exact BitVec.sub_add_cancel _ _
    · have hr : r ∉ [Reg16.sp] := by simpa using hr
      exact (hregsT r hr).trans (hregs r hr)
  refine ⟨_, rfl, hip ▸ hfetch, hfl, hgpr, ?_, fun a ha => (hmemT a).trans (hmem a ha)⟩
  rw [hsysT, hcs, systemCs_of_systemCs hsys]
  rfl

end Sys2Proof.Machine

namespace Sys2Proof.Machine
open Sys2Proof

/-! ### Flag instructions (45_processor_control.md R520 to R526) -/

section FlagInstructions
variable (s : State)

/-- The bit of the form is set or cleared; only STI sets the inhibit. -/
theorem exec_flagForm : ∀ p ∈ flagForms, exec p.2.2 s = .next
    ((if p.2.1 then setFlagBits p.1 s else clearFlagBits p.1 s).setInhibit (if p.2.2 = .sti then true else s.inhibit)) := by
  simp only [flagForms, List.forall_mem_cons, List.not_mem_nil, false_imp_iff, implies_true, and_true]
  exact ⟨rfl, rfl, rfl, rfl, rfl, rfl⟩

/-- Setting and clearing bits are writes under a mask. -/
theorem setFlagBits_eq (m : Word) : setFlagBits m s = s.setFlags (putFlags m m s.flags) := by
  rw [setFlagBits, putFlags, BitVec.and_self]
  congr 1
  ext i hi
  simp only [BitVec.getElem_or, BitVec.getElem_and, BitVec.getElem_not]
  cases s.flags[i] <;> cases m[i] <;> rfl

theorem clearFlagBits_eq (m : Word) : clearFlagBits m s = s.setFlags (putFlags m 0 s.flags) := by
  simp [clearFlagBits, putFlags]

theorem flagForm_eq (m : Word) (b : Bool) :
    (if b then setFlagBits m s else clearFlagBits m s) = s.setFlags (putFlags m (if b then m else 0) s.flags) := by
  cases b
  · exact clearFlagBits_eq s m
  · exact setFlagBits_eq s m

theorem cmc_flags : flagCF (s.flags ^^^ cfMask) = !flagCF s.flags ∧
    (s.flags ^^^ cfMask) &&& ~~~cfMask = s.flags &&& ~~~cfMask := by
  refine ⟨?_, ?_⟩
  · rw [flagCF, BitVec.getLsbD_xor, show cfMask.getLsbD 0 = true from rfl, Bool.xor_true]
    rfl
  · ext i hi
    simp only [BitVec.getElem_xor, BitVec.getElem_and, BitVec.getElem_not]
    cases cfMask[i] <;> simp

end FlagInstructions

/-- Settles O46: a flag instruction writes FLAGS under a mask of one bit, and STI the inhibit besides; CMC flips the bit of CF. -/
theorem flagInstructions : Obligations.FlagInstructions := by
  refine ⟨fun p hp s => ⟨_, exec_flagForm s p hp, ?_⟩,
    fun s => ⟨_, rfl, (cmc_flags s).1, (cmc_flags s).2, ⟨rfl, memKept_of_mem rfl⟩, ⟨rfl, rfl⟩, rfl⟩⟩
  rw [flagForm_eq]
  refine ⟨?_, putFlags_kept _ _ _, ⟨rfl, memKept_of_mem rfl⟩, rfl, rfl, ?_⟩
  · refine (putFlags_put _ _ _).trans ?_
    split
    · exact BitVec.and_self
    · exact BitVec.zero_and
  · by_cases hsti : p.2.2 = .sti
    · rw [if_pos hsti, if_pos hsti]
      rfl
    · rw [if_neg hsti, if_neg hsti]
      rfl

end Sys2Proof.Machine

namespace Sys2Proof.Machine
open Sys2Proof

/-! ### Refused encodings (46_undefined_opcodes.md R563, 47_v20_v30_extensions.md R595) -/

theorem refusedByteForms : Claim.RefusedByteForms := by
  simp only [Claim.RefusedByteForms, byteGroup5Forms, List.forall_mem_cons, List.not_mem_nil, false_imp_iff, implies_true, and_true]
  and_intros <;> exact fun _ => rfl

theorem refusedNecOpcodes : Claim.RefusedNecOpcodes := by
  simp only [Claim.RefusedNecOpcodes, necOnlyForms, List.forall_mem_cons, List.not_mem_nil, false_imp_iff, implies_true, and_true]
  and_intros <;> exact fun _ => rfl

/-- Settles O55: the meaning of each form is a refusal, whatever the state. -/
theorem refusedEncodings : Obligations.RefusedEncodings := ⟨refusedByteForms, refusedNecOpcodes⟩

end Sys2Proof.Machine

namespace Sys2Proof.Machine
open Sys2Proof

/-! ### Inputs (60_exceptions.md R625, R626, R637, log 7) -/

/-- Settles O19: each event writes the pins; that of NMI also sets the latch on a rising edge. -/
theorem interruptInputs : Obligations.InterruptInputs := fun s rest l v =>
  ⟨fun h => ⟨nmiLevel l (s.setScript rest), step_event h, rfl, rfl, ⟨rfl, memKept_of_mem rfl⟩, rfl⟩,
   fun h => ⟨(s.setScript rest).setPins { s.pins with intr := l, vector := v }, step_event h, rfl, rfl, ⟨rfl, memKept_of_mem rfl⟩,
    rfl⟩,
   fun h => ⟨(s.setScript rest).setPins { s.pins with test := l }, step_event h, rfl, rfl, ⟨rfl, memKept_of_mem rfl⟩, rfl⟩⟩

end Sys2Proof.Machine

namespace Sys2Proof.Machine
open Sys2Proof

/-! ### BOUND (47_v20_v30_extensions.md R587) -/

section Bound
variable {ea : Word} {s u : State}

/-- An interrupt taken after the read of an operand. -/
theorem OnlyRead.interrupt (h : OnlyRead ea s u) (n : Byte) (ret : Word) :
    Entered n ret s.flags s (interrupt n ret u) ∧ (interrupt n ret u).lastEa = ea := by
  obtain ⟨hent, hea⟩ := interrupt_entered u n ret
  rw [h.flags] at hent
  exact ⟨hent.mono h.gpr h.mem h.ordinary.2, hea.trans h.lastEa⟩

variable (s)

theorem exec_bound {r : Reg16} {m : Mem} {i : Instr} (hi : i ∈ [Instr.boundMod01 r m, Instr.boundMod2 r m]) :
    exec i s = .next (boundOp r m s) := by
  simp only [List.mem_cons, List.not_mem_nil, or_false] at hi
  rcases hi with rfl | rfl <;> rfl

theorem boundOp_outside {r : Reg16} {m : Mem}
    (h : (s.r16 r).toInt < (loadFar m s).1.toInt ∨ (loadFar m s).2.1.toInt < (s.r16 r).toInt) :
    boundOp r m s = interrupt 5 (if s.cfg.boundReturnsNext then s.ip else s.dec.startIp) (loadFar m s).2.2 := by
  have hr := loadFar_onlyRead s m
  rw [← hr.ordinary.1, ← hr.dec]
  exact if_pos h

theorem boundOp_inside {r : Reg16} {m : Mem}
    (h : ¬ ((s.r16 r).toInt < (loadFar m s).1.toInt ∨ (loadFar m s).2.1.toInt < (s.r16 r).toInt)) :
    boundOp r m s = (loadFar m s).2.2 := if_neg h

end Bound

/-- Settles O52: the two bounds are read, which writes nothing, and INT 5 is taken or not. -/
theorem boundCheck : Obligations.BoundCheck := by
  rintro r m s _ _ i hi rfl rfl
  have hr := loadFar_onlyRead s m
  refine ⟨fun h => ⟨_, exec_bound s hi, ?_⟩, fun hlo hhi => ⟨_, exec_bound s hi, ?_⟩⟩
  · rw [boundOp_outside s h]
    exact hr.interrupt 5 _
  · rw [boundOp_inside s (not_or.mpr ⟨not_lt.mpr hlo, not_lt.mpr hhi⟩)]
    exact ⟨⟨hr.gpr, memKept_of_mem hr.mem⟩, hr.flags, hr.lastEa, hr.ordinary⟩

end Sys2Proof.Machine

namespace Sys2Proof.Machine
open Sys2Proof

/-! ### Words pushed and nothing else (40_data_transfer.md R306, 47_v20_v30_extensions.md R585, R592) -/

/-- The words of a list have been pushed; of the parts that a frame speaks of nothing else has changed. -/
structure OnlyPushed (vs : List Word) (s t : State) : Prop where
  words : PushedWords vs s t
  wf : Memory.wf s.mem = true → Memory.wf t.mem = true
  flags : t.flags = s.flags
  lastEa : t.lastEa = s.lastEa
  ordinary : Ordinary s t

section OnlyPushed
variable {vs ws : List Word} {s t u : State}

theorem OnlyPushed.append (h : OnlyPushed vs s u) (g : OnlyPushed ws u t) (hl : vs.length + ws.length ≤ 32768) :
    OnlyPushed (vs ++ ws) s t where
  words := h.words.append g.words (congrArg (fun y => y.seg.ss) h.ordinary.2) (congrArg System.cfg h.ordinary.2) h.wf hl
  wf hw := g.wf (h.wf hw)
  flags := g.flags.trans h.flags
  lastEa := g.lastEa.trans h.lastEa
  ordinary := ⟨g.ordinary.1.trans h.ordinary.1, g.ordinary.2.trans h.ordinary.2⟩

/-- What follows a push without touching a register or memory. -/
theorem OnlyPushed.onlyRead (h : OnlyPushed vs s u) (g : OnlyRead u.lastEa u t) : OnlyPushed vs s t where
  words := pushedWords_congr h.words g.gpr g.mem
  wf hw := g.mem ▸ h.wf hw
  flags := g.flags.trans h.flags
  lastEa := g.lastEa.trans h.lastEa
  ordinary := ⟨g.ordinary.1.trans h.ordinary.1, g.ordinary.2.trans h.ordinary.2⟩

theorem push16_onlyPushed (s : State) (v : Word) : OnlyPushed [v] s (push16 v s) where
  words := push16_words v (pushedWords_nil s) rfl rfl id (by decide)
  wf := push16_wf s v
  flags := push16_flags s v
  lastEa := push16_lastEa s v
  ordinary := ⟨push16_ip s v, push16_system s v⟩

theorem OnlyPushed.push (h : OnlyPushed vs s u) (v : Word) (hl : vs.length < 32768) : OnlyPushed (vs ++ [v]) s (push16 v u) :=
  h.append (push16_onlyPushed u v) hl

/-- Pushes do not look at BP. -/
theorem OnlyPushed.setBp (h : OnlyPushed vs s t) (v : Word) : OnlyPushed vs (s.setR16 .bp v) (t.setR16 .bp v) := by
  obtain ⟨⟨hsp, hregs, hmem, hwords⟩, hwf, hfl, hea, hord⟩ := h
  refine ⟨⟨hsp, fun r hr => ?_, hmem, hwords⟩, hwf, hfl, hea, hord⟩
  by_cases hb : r = .bp
  · rw [hb, setR16_r16_same, setR16_r16_same]
  · rw [setR16_r16_ne _ _ _ _ hb, setR16_r16_ne _ _ _ _ hb, hregs r hr]

end OnlyPushed

theorem push16_r16_ne (s : State) (v : Word) {r : Reg16} (h : r ≠ .sp) : (push16 v s).r16 r = s.r16 r :=
  (push16_pushed s v).2.1 r (by simpa using h)

/-- PUSHA reads no register that a push has changed: SP is read before the first one (47_v20_v30_extensions.md R585). -/
theorem pushaOp_eq (s : State) : pushaOp s = push16 (s.r16 .di) (push16 (s.r16 .si) (push16 (s.r16 .bp) (push16 (s.r16 .sp)
    (push16 (s.r16 .bx) (push16 (s.r16 .dx) (push16 (s.r16 .cx) (push16 (s.r16 .ax) s))))))) := by
  simp [pushaOp, push16_r16_ne]

theorem pushAll : Claim.PushAll := by
  intro s
  have h := (((((((push16_onlyPushed s (s.r16 .ax)).push (s.r16 .cx) (by simp)).push (s.r16 .dx) (by simp)).push (s.r16 .bx)
    (by simp)).push (s.r16 .sp) (by simp)).push (s.r16 .bp) (by simp)).push (s.r16 .si) (by simp)).push (s.r16 .di) (by simp)
  rw [← pushaOp_eq] at h
  exact ⟨_, rfl, h.words, h.flags, h.lastEa, h.ordinary⟩

end Sys2Proof.Machine

namespace Sys2Proof.Machine
open Sys2Proof

/-! ### POPA (47_v20_v30_extensions.md R586) -/

/-- `n` bytes have been popped, each word of `l` into its register; of the parts that a frame speaks of, only general registers have
changed. -/
structure PoppedInto (l : List (Nat × Reg16)) (n : Nat) (s u : State) : Prop where
  sp : u.r16 .sp = s.r16 .sp + BitVec.ofNat 16 n
  mem : u.mem = s.mem
  flags : u.flags = s.flags
  lastEa : u.lastEa = s.lastEa
  ordinary : Ordinary s u
  loaded : ∀ p ∈ l, s.wordInMemory s.seg.ss (s.r16 .sp + BitVec.ofNat 16 p.1) →
    u.r16 p.2 = s.wordAt s.seg.ss (s.r16 .sp + BitVec.ofNat 16 p.1)

section PoppedInto
variable {l : List (Nat × Reg16)} {n : Nat} {s u : State}

theorem PoppedInto.refl : PoppedInto [] 0 s s := ⟨(BitVec.add_zero _).symm, rfl, rfl, rfl, ⟨rfl, rfl⟩, nofun⟩

theorem PoppedInto.topWord (h : PoppedInto l n s u) (hm : s.wordInMemory s.seg.ss (s.r16 .sp + BitVec.ofNat 16 n)) :
    topWord u = s.wordAt s.seg.ss (s.r16 .sp + BitVec.ofNat 16 n) := by
  have hseg : u.seg = s.seg := congrArg System.seg h.ordinary.2
  have hcfg : u.cfg = s.cfg := congrArg System.cfg h.ordinary.2
  rw [Machine.topWord, hseg, h.sp, readWord_memory u _ _ _ (wordInMemory_of_cfg hcfg _ _ hm), wordAt_of_mem h.mem]

theorem PoppedInto.sp_add_two (h : PoppedInto l n s u) : u.r16 .sp + 2 = s.r16 .sp + BitVec.ofNat 16 (n + 2) := by
  rw [h.sp, BitVec.add_assoc, BitVec.ofNat_add]
  rfl

/-- A word that is discarded. -/
theorem PoppedInto.pop16 (h : PoppedInto l n s u) (hl : ∀ p ∈ l, p.2 ≠ .sp) : PoppedInto l (n + 2) s (pop16 u).2 where
  sp := (pop16_r16_sp u).trans h.sp_add_two
  mem := (pop16_mem u).trans h.mem
  flags := (pop16_flags u).trans h.flags
  lastEa := (pop16_lastEa u).trans h.lastEa
  ordinary := ⟨(pop16_ip u).trans h.ordinary.1, (pop16_system u).trans h.ordinary.2⟩
  loaded p hp hm := (pop16_regsKeptBut u p.2 (by simpa using hl p hp)).trans (h.loaded p hp hm)

/-- A word that goes into a register which no earlier word has gone into. -/
theorem PoppedInto.popReg (h : PoppedInto l n s u) {r : Reg16} (hr : r ≠ .sp) (hl : ∀ p ∈ l, p.2 ∉ [r, .sp]) :
    PoppedInto (l ++ [(n, r)]) (n + 2) s (popReg r u) := by
  obtain ⟨hval, hsp, hregs, -⟩ := popReg_effect u r
  have hpop := h.pop16 fun p hp e => hl p hp (by simp [e])
  refine ⟨(hsp hr).trans h.sp_add_two, hpop.mem, hpop.flags, hpop.lastEa, hpop.ordinary, fun p hp hm => ?_⟩
  rcases List.mem_append.mp hp with hp | hp
  · exact (hregs p.2 (hl p hp)).trans (h.loaded p hp hm)
  · obtain rfl := List.mem_singleton.mp hp
    exact hval.trans (h.topWord hm)

end PoppedInto

theorem popAll : Claim.PopAll := by
  intro s
  have h := ((((((((PoppedInto.refl (s := s)).popReg (r := .di) (by decide) (by decide)).popReg (r := .si) (by decide)
    (by decide)).popReg (r := .bp) (by decide) (by decide)).pop16 (by decide)).popReg (r := .bx) (by decide) (by decide)).popReg
    (r := .dx) (by decide) (by decide)).popReg (r := .cx) (by decide) (by decide)).popReg (r := .ax) (by decide) (by decide)
  exact ⟨popaOp s, rfl, h.sp, memKept_of_mem h.mem, h.flags, h.lastEa, h.ordinary, h.loaded⟩

/-- Settles O51: PUSHA is eight pushes of the registers as they were, POPA eight pops, one of them discarded. -/
theorem pushPopAll : Obligations.PushPopAll := ⟨pushAll, popAll⟩

end Sys2Proof.Machine

namespace Sys2Proof.Machine
open Sys2Proof

/-! ### ENTER and LEAVE (47_v20_v30_extensions.md R592, R593) -/

section Enter
variable {vs : List Word} {s u : State}

/-- The word at an offset of the stack segment is none of the bytes of the first `n` words pushed. -/
def OffStack (n : Nat) (s : State) (off : Word) : Prop :=
  ∀ j < n, ∀ a ∈ [lin s.seg.ss off, lin s.seg.ss (off + 1)],
    a ≠ lin s.seg.ss (stackSlot s j) ∧ a ≠ lin s.seg.ss (stackSlot s j + 1)

/-- Pushes leave alone the words that they do not reach. -/
theorem PushedWords.wordAt_kept (h : PushedWords vs s u) {off : Word} (ho : OffStack vs.length s off) :
    u.wordAt s.seg.ss off = s.wordAt s.seg.ss off := by
  have hkept : ∀ a ∈ [lin s.seg.ss off, lin s.seg.ss (off + 1)], u.byteAt a = s.byteAt a := by
    refine fun a ha => h.2.2.1 a fun hmem => ?_
    simp only [stackBytes, List.mem_flatMap, List.mem_range, List.mem_pair] at hmem
    obtain ⟨j, hj, hmem⟩ := hmem
    obtain ⟨hlo, hhi⟩ := ho j hj a ha
    exact hmem.elim hlo hhi
  rw [State.wordAt, State.wordAt, hkept _ (by simp), hkept _ (by simp)]

/-- The outer frame pointers that ENTER copies from a BP of `b`, as they are in `s`, where `n` words have been pushed before them: each
is the word in memory, unless a push has overwritten that. -/
def CopiesOf (copies : List Word) (n : Nat) (b : Word) (s : State) : Prop :=
  ∀ k v, copies[k]? = some v → s.wordInMemory s.seg.ss (b - BitVec.ofNat 16 (2 * (k + 1))) →
    OffStack (n + k) s (b - BitVec.ofNat 16 (2 * (k + 1))) → v = s.wordAt s.seg.ss (b - BitVec.ofNat 16 (2 * (k + 1)))

theorem copiesOf_cons {copies : List Word} {n : Nat} {b v : Word} (hv : s.wordInMemory s.seg.ss (b - 2) → OffStack n s (b - 2) →
      v = s.wordAt s.seg.ss (b - 2)) (h : CopiesOf copies (n + 1) (b - 2) s) : CopiesOf (v :: copies) n b s := by
  intro k w hk hm ho
  cases k with
  | zero =>
    obtain rfl : v = w := by simpa using hk
    exact hv hm ho
  | succ k =>
    have e : b - BitVec.ofNat 16 (2 * (k + 1 + 1)) = b - 2 - BitVec.ofNat 16 (2 * (k + 1)) := by
      rw [two_mul_succ, BitVec.sub_sub, BitVec.add_comm]
    rw [e] at hm ho ⊢
    exact h k w hk hm (by rwa [Nat.add_right_comm, Nat.add_assoc])

/-- One copy: BP moves down to the next outer frame pointer, which is read and pushed. -/
theorem enterCopies_succ (n : Nat) (u : State) : ∃ (v : Word) (t : State), OnlyRead u.lastEa (u.setR16 .bp (u.r16 .bp - 2)) t ∧
    (u.wordInMemory u.seg.ss (u.r16 .bp - 2) → v = u.wordAt u.seg.ss (u.r16 .bp - 2)) ∧
    enterCopies (n + 1) u = enterCopies n (push16 v t) :=
  have h := OnlyRead.refl (s := u.setR16 .bp (u.r16 .bp - 2))
  ⟨_, _, h.readWord .ss u.seg.ss (u.r16 .bp - 2), readWord_memory (u.setR16 .bp (u.r16 .bp - 2)) .ss u.seg.ss _, rfl⟩

/-- The copies are pushed on top of what ENTER has pushed before them; BP moves on meanwhile. -/
theorem enterCopies_pushes (n : Nat) (h : OnlyPushed vs s (u.setR16 .bp (s.r16 .bp))) (hl : vs.length + n ≤ 32768) :
    ∃ copies : List Word, copies.length = n ∧ CopiesOf copies vs.length (u.r16 .bp) s ∧
      OnlyPushed (vs ++ copies) s ((enterCopies n u).setR16 .bp (s.r16 .bp)) := by
  induction n generalizing vs u with
  | zero => exact ⟨[], rfl, nofun, by rwa [List.append_nil]⟩
  | succ n ih =>
    have hseg : u.seg = s.seg := congrArg System.seg h.ordinary.2
    have hcfg : u.cfg = s.cfg := congrArg System.cfg h.ordinary.2
    obtain ⟨v, t, ht, hval, hrun⟩ := enterCopies_succ n u
    have hread : OnlyRead u.lastEa (u.setR16 .bp (s.r16 .bp)) (t.setR16 .bp (s.r16 .bp)) :=
      ⟨congrArg (fun g => g.set .bp (s.r16 .bp)) ht.gpr, ht.mem, ht.flags, ht.lastEa, ht.ordinary⟩
    have hpush := (h.onlyRead hread).append ((push16_onlyPushed t v).setBp (s.r16 .bp)) (by simp; omega)
    obtain ⟨copies, hlen, hcopies, hpushed⟩ := ih hpush (by simp; omega)
    have hbp : (push16 v t).r16 .bp = u.r16 .bp - 2 :=
      (push16_r16_ne t v (by decide)).trans ((r16_of_gpr ht.gpr .bp).trans (setR16_r16_same u .bp _))
    rw [hbp, List.length_append] at hcopies
    rw [hseg] at hval
    refine ⟨v :: copies, by rw [List.length_cons, hlen], copiesOf_cons (fun hm ho => ?_) hcopies, ?_⟩
    · rw [hval (wordInMemory_of_cfg hcfg _ _ hm)]
      exact h.words.wordAt_kept ho
    · rw [hrun]
      simpa using hpushed

/-- ENTER pushes BP, the copies and, at a level above 0, the new frame pointer. -/
theorem enterOp_pushes (size : Word) (level : Byte) (s : State) {n : Nat} (hn : n = level.toNat % 32) :
    ∃ (copies : List Word) (u : State), copies.length = n - 1 ∧ CopiesOf copies 1 (s.r16 .bp) s ∧
      OnlyPushed (s.r16 .bp :: copies ++ if n = 0 then [] else [s.r16 .sp - 2]) s (u.setR16 .bp (s.r16 .bp)) ∧
      enterOp size level s = (u.setR16 .bp (s.r16 .sp - 2)).setR16 .sp (u.r16 .sp - size) := by
  have hlevel : (level &&& 0x1F).toNat = n := by
    rw [hn, BitVec.toNat_and]
    exact Nat.and_two_pow_sub_one_eq_mod _ 5
  have hframe : (push16 (s.r16 .bp) s).r16 .sp = s.r16 .sp - 2 := (push16_pushed s _).1
  have hfirst : OnlyPushed [s.r16 .bp] s ((push16 (s.r16 .bp) s).setR16 .bp (s.r16 .bp)) :=
    (push16_onlyPushed s (s.r16 .bp)).setBp (s.r16 .bp)
  have hbp : (push16 (s.r16 .bp) s).r16 .bp = s.r16 .bp := push16_r16_ne s _ (by decide)
  simp only [enterOp, hlevel, hframe]
  cases n with
  | zero => exact ⟨[], _, rfl, nofun, hfirst, rfl⟩
  | succ n =>
    have hn : n < 32 := by omega
    obtain ⟨copies, hlen, hcopies, hpushed⟩ := enterCopies_pushes n hfirst (by simp; omega)
    rw [hbp] at hcopies
    exact ⟨copies, _, hlen, hcopies,
      hpushed.append ((push16_onlyPushed _ (s.r16 .sp - 2)).setBp (s.r16 .bp)) (by simp; omega), rfl⟩

end Enter

/-- Settles O53: what ENTER has pushed is a list of words, with BP on its way aside; LEAVE is a pop into BP from the frame. -/
theorem stackFrames : Obligations.StackFrames := by
  refine ⟨fun size level s n hn => ⟨enterOp size level s, rfl, ?_⟩, fun s => ⟨popReg .bp (s.setR16 .sp (s.r16 .bp)), rfl, ?_⟩⟩
  · obtain ⟨copies, u, hlen, hcopies, ⟨hpushed, -, hfl, hea, hord⟩, e⟩ := enterOp_pushes size level s hn
    have hcount : (s.r16 .bp :: copies ++ if n = 0 then [] else [s.r16 .sp - 2]).length = n + 1 := by
      split <;> simp <;> omega
    have ⟨hsp, hregs, hmem, _⟩ := hpushed
    rw [hcount] at hsp hmem
    have husp : u.r16 .sp = s.r16 .sp - BitVec.ofNat 16 (2 * (n + 1)) := hsp
    rw [e]
    refine ⟨rfl, ?_, fun r hr => ?_, hmem, hfl, hea, hord, copies, hlen, pushedWords_congr hpushed ?_ rfl,
      fun k v hk _ hm ho => hcopies k v hk hm fun j hj => ho j (by omega)⟩
    · rw [setR16_r16_same, husp]
    · simp only [List.mem_cons, List.not_mem_nil, or_false, not_or] at hr
      rw [setR16_r16_ne _ _ _ _ hr.1, setR16_r16_ne _ _ _ _ hr.2, ← hregs r (by simpa using hr.1), setR16_r16_ne _ _ _ _ hr.2]
    · rw [setR16_r16_same, BitVec.sub_add_cancel]
      rfl
  · obtain ⟨hbp, hsp, hregs, hmem, hfl, hea, hord⟩ := popReg_effect (s.setR16 .sp (s.r16 .bp)) .bp
    have hframe : (s.setR16 .sp (s.r16 .bp)).r16 .sp = s.r16 .bp := setR16_r16_same s .sp _
    refine ⟨by rw [hsp (by decide), hframe], fun hm => ?_, fun r hr => ?_, hmem, hfl, hea, hord⟩
    · rw [hbp, topWord, hframe]
      exact readWord_memory (s.setR16 .sp (s.r16 .bp)) _ _ _ hm
    · simp only [List.mem_cons, List.not_mem_nil, or_false, not_or] at hr
      rw [hregs r (by simp [hr]), setR16_r16_ne _ _ _ _ hr.1]

end Sys2Proof.Machine

namespace Sys2Proof.Machine
open Sys2Proof

/-! ### One round of a BCD string instruction (47_v20_v30_extensions.md R594, log 20) -/

/-- The address of the source byte `k`. -/
def bcdSource (s : State) (k : Nat) : BitVec 20 := lin (s.sreg (s.segOr .ds)) (s.r16 .si + BitVec.ofNat 16 k)

/-- The address of the destination byte `k`. -/
def bcdTarget (s : State) (k : Nat) : BitVec 20 := lin s.seg.es (s.r16 .di + BitVec.ofNat 16 k)

theorem bcdSource_congr {s t : State} (hg : t.gpr = s.gpr) (hs : t.system = s.system) (k : Nat) : bcdSource t k = bcdSource s k := by
  have hseg : t.seg = s.seg := congrArg System.seg hs
  have hdec : t.dec = s.dec := congrArg System.dec hs
  rw [bcdSource, bcdSource, State.segOr, State.segOr, State.sreg, State.sreg, hseg, hdec, r16_of_gpr hg]

theorem bcdTarget_congr {s t : State} (hg : t.gpr = s.gpr) (hs : t.system = s.system) (k : Nat) : bcdTarget t k = bcdTarget s k := by
  rw [bcdTarget, bcdTarget, show t.seg = s.seg from congrArg System.seg hs, r16_of_gpr hg]

/-- The source byte and the destination byte of a round, and the state after they have been read. -/
def bcdRead (k : Word) (s : State) : Byte × Byte × State :=
  let a := readByte (accessOf (s.segOr .ds)) (s.sreg (s.segOr .ds)) (s.r16 .si + k) s
  let d := readByte .es a.2.seg.es (a.2.r16 .di + k) a.2
  (a.1, d.1, d.2)

/-- The result byte of a round and its carry; `last` marks a byte of one digit. -/
def bcdResult (op : BcdOp) (last : Bool) (k : Word) (c : Bool) (s : State) : Byte × Bool :=
  let p := bcdRead k s
  let free := Config.freeByte p.2.2.draws
  let fc := Config.freeBit p.2.2.draws
  if last then bcdOddByte op p.2.1 p.1 free c fc
  else match bcdByte op p.2.1 p.1 c with
    | none => (free, fc)
    | some r => r

/-- The state after a round: CMP4S stores nothing. -/
def bcdNext (op : BcdOp) (last : Bool) (k : Word) (c : Bool) (s : State) : State :=
  let u := (bcdRead k s).2.2.bumpDraws
  if op = .cmp then u else writeByte .es u.seg.es (u.r16 .di + k) (bcdResult op last k c s).1 u

theorem bcdLoop_succ (op : BcdOp) (odd : Bool) (n k : Nat) (c z : Bool) (s : State) :
    let r := bcdResult op (odd && n == 0) (BitVec.ofNat 16 k) c s
    bcdLoop op odd (n + 1) (BitVec.ofNat 16 k) c z s = bcdLoop op odd n (BitVec.ofNat 16 (k + 1)) r.2 (z && r.1 == 0)
      (bcdNext op (odd && n == 0) (BitVec.ofNat 16 k) c s) := by
  rw [BitVec.ofNat_add]
  cases op <;> rfl

theorem bcdRead_onlyRead (k : Word) (s : State) : OnlyRead s.lastEa s (bcdRead k s).2.2.bumpDraws :=
  ((OnlyRead.refl.readByte _ _ _).readByte _ _ _).bumpDraws

/-- The bytes before `k` have been done: of the parts that a frame speaks of, only those bytes of the destination may have changed, and
for CMP4S none. -/
structure BcdRun (op : BcdOp) (k : Nat) (s u : State) : Prop where
  gpr : u.gpr = s.gpr
  flags : u.flags = s.flags
  lastEa : u.lastEa = s.lastEa
  ordinary : Ordinary s u
  wf : Memory.wf s.mem = true → Memory.wf u.mem = true
  kept : ∀ a, op = .cmp ∨ (∀ j < k, a ≠ bcdTarget s j) → u.byteAt a = s.byteAt a

section BcdRun
variable {op : BcdOp} {k : Nat} {s u t : State}

theorem BcdRun.refl : BcdRun op 0 s s := ⟨rfl, rfl, rfl, ⟨rfl, rfl⟩, id, fun _ _ => rfl⟩

theorem BcdRun.cfg (h : BcdRun op k s u) : u.cfg = s.cfg := congrArg System.cfg h.ordinary.2

theorem BcdRun.onlyRead (h : BcdRun op k s u) (g : OnlyRead u.lastEa u t) : BcdRun op k s t where
  gpr := g.gpr.trans h.gpr
  flags := g.flags.trans h.flags
  lastEa := g.lastEa.trans h.lastEa
  ordinary := ⟨g.ordinary.1.trans h.ordinary.1, g.ordinary.2.trans h.ordinary.2⟩
  wf hw := g.mem ▸ h.wf hw
  kept a ha := (byteAt_of_mem g.mem a).trans (h.kept a ha)

theorem BcdRun.target (h : BcdRun op k s u) : lin u.seg.es (u.r16 .di + BitVec.ofNat 16 k) = bcdTarget s k :=
  bcdTarget_congr h.gpr h.ordinary.2 k

theorem BcdRun.write (h : BcdRun op k s u) (hop : op ≠ .cmp) (v : Byte) :
    BcdRun op (k + 1) s (writeByte .es u.seg.es (u.r16 .di + BitVec.ofNat 16 k) v u) where
  gpr := (writeByte_gpr ..).trans h.gpr
  flags := (writeByte_flags ..).trans h.flags
  lastEa := (writeByte_lastEa ..).trans h.lastEa
  ordinary := ⟨(writeByte_ip ..).trans h.ordinary.1, (writeByte_system ..).trans h.ordinary.2⟩
  wf hw := writeByte_wf _ _ _ _ _ (h.wf hw)
  kept a ha := by
    have ha := ha.resolve_left hop
    rw [writeByte_byteAt_ne _ _ _ _ _ _ (h.target ▸ ha k (Nat.lt_succ_self k))]
    exact h.kept a (.inr fun j hj => ha j (Nat.lt_succ_of_lt hj))

theorem BcdRun.next (h : BcdRun op k s u) (last c : Bool) : BcdRun op (k + 1) s (bcdNext op last (BitVec.ofNat 16 k) c u) := by
  have hr := h.onlyRead (bcdRead_onlyRead (BitVec.ofNat 16 k) u)
  unfold bcdNext
  split
  · next hop => exact ⟨hr.gpr, hr.flags, hr.lastEa, hr.ordinary, hr.wf, fun a _ => hr.kept a (.inl hop)⟩
  · next hop => exact hr.write hop _

theorem BcdRun.loop (h : BcdRun op k s u) (odd : Bool) (n : Nat) (c z : Bool) :
    BcdRun op (k + n) s (bcdLoop op odd n (BitVec.ofNat 16 k) c z u).2.2 := by
  induction n generalizing k c z u with
  | zero => exact h
  | succ n ih =>
    rw [bcdLoop_succ, ← Nat.succ_add_eq_add_succ]
    exact ih (h.next _ _) _ _

end BcdRun

/-- The rounds of a BCD string instruction: the carry, whether all bytes of the result are zero, and the state. -/
def bcdRounds (op : BcdOp) (s : State) : Bool × Bool × State :=
  bcdLoop op ((s.r8 .cl).toNat % 2 == 1) (((s.r8 .cl).toNat + 1) / 2) 0 false true s

section BcdString
variable (op : BcdOp) (s : State)

theorem bcdRounds_run : BcdRun op (((s.r8 .cl).toNat + 1) / 2) s (bcdRounds op s).2.2 := by
  have h := (BcdRun.refl (op := op) (s := s)).loop ((s.r8 .cl).toNat % 2 == 1) (((s.r8 .cl).toNat + 1) / 2) false true
  rwa [Nat.zero_add] at h

/-- After the rounds only status flags are written. -/
theorem bcdString_onlyRegs : OnlyRegs [] statusMask (bcdRounds op s).2.2 (bcdString op s) := by
  refine (putFlags_onlyRegs _ (m := cfMask ||| zfMask) (by decide) _).trans (havocFlags_onlyRegs _ ?_)
  split <;> decide

theorem bcdString_frame : (bcdString op s).gpr = s.gpr ∧ FlagsKeptBut statusMask s (bcdString op s) ∧
    (bcdString op s).lastEa = s.lastEa ∧ Ordinary s (bcdString op s) ∧
    ∀ a, op = .cmp ∨ (∀ j < ((s.r8 .cl).toNat + 1) / 2, a ≠ bcdTarget s j) → (bcdString op s).byteAt a = s.byteAt a := by
  obtain ⟨-, hflags, hmem, hip, hsys⟩ := bcdString_onlyRegs op s
  have h := bcdRounds_run op s
  exact ⟨h.gpr, hflags.trans (congrArg (· &&& ~~~statusMask) h.flags), h.lastEa, ⟨hip.trans h.ordinary.1, hsys.trans h.ordinary.2⟩,
    fun a ha => (hmem a).trans (h.kept a ha)⟩

end BcdString

theorem decimalStrings : Claim.DecimalStrings := by
  intro s
  refine ⟨fun i hi => ?_, ⟨bcdString .cmp s, rfl, ?_⟩⟩
  · obtain ⟨op, e⟩ : ∃ op, exec i s = .next (bcdString op s) := by
      simp only [List.mem_cons, List.not_mem_nil, or_false] at hi
      rcases hi with rfl | rfl
      · exact ⟨.add, rfl⟩
      · exact ⟨.sub, rfl⟩
    obtain ⟨hgpr, hflags, hea, hord, hkept⟩ := bcdString_frame op s
    refine ⟨_, e, hgpr, hflags, hea, hord, fun a ha => hkept a (.inr fun j hj e => ha ?_)⟩
    exact List.mem_map.mpr ⟨j, List.mem_range.mpr hj, e.symm⟩
  · obtain ⟨hgpr, hflags, hea, hord, hkept⟩ := bcdString_frame .cmp s
    exact ⟨⟨hgpr, fun a => hkept a (.inl rfl)⟩, hflags, hea, hord⟩

end Sys2Proof.Machine

namespace Sys2Proof.Machine
open Sys2Proof

/-! ### Decimal digits (47_v20_v30_extensions.md R594) -/

/-- The digit `r.1` and the carry or borrow `r.2` are those of two digits and a carry or borrow. -/
structure DigitIs (op : BcdOp) (d a : Nat) (c : Bool) (r : Nat × Bool) : Prop where
  le : r.1 ≤ 9
  add : op = .add → r.1 + 10 * bitNat r.2 = d + a + bitNat c
  sub : op ≠ .add → r.1 + a + bitNat c = d + 10 * bitNat r.2

theorem bcdDigit_eq (op : BcdOp) {d a : Nat} (c : Bool) (hd : d ≤ 9) (ha : a ≤ 9) :
    ∃ r, bcdDigit op d a c = some r ∧ DigitIs op d a c r := by
  have hdigits : ¬ (9 < d ∨ 9 < a) := by omega
  have hc := bitNat_le c
  have hbit (p : Prop) [Decidable p] : bitNat (decide p) = if p then 1 else 0 := by simp [bitNat]
  cases op with
  | add =>
    refine ⟨_, if_neg hdigits, by simp only; omega, fun _ => ?_, fun h => absurd rfl h⟩
    simp only [hbit]
    split <;> omega
  | sub | cmp =>
    refine ⟨_, if_neg hdigits, by simp only; omega, nofun, fun _ => ?_⟩
    simp only [hbit]
    split <;> omega

/-- The two digits of a byte, the low one first. -/
theorem bcdByte_eq (op : BcdOp) {d a : Byte} (c : Bool) (hd : d.toNat % 16 ≤ 9 ∧ d.toNat / 16 ≤ 9)
    (ha : a.toNat % 16 ≤ 9 ∧ a.toNat / 16 ≤ 9) : ∃ lo hi r, DigitIs op (d.toNat % 16) (a.toNat % 16) c lo ∧
      DigitIs op (d.toNat / 16) (a.toNat / 16) lo.2 hi ∧ bcdByte op d a c = some r ∧ r.2 = hi.2 ∧
      r.1.toNat % 16 = lo.1 ∧ r.1.toNat / 16 = hi.1 := by
  obtain ⟨lo, elo, hlo⟩ := bcdDigit_eq op c hd.1 ha.1
  obtain ⟨hi, ehi, hhi⟩ := bcdDigit_eq op lo.2 hd.2 ha.2
  have hlo9 := hlo.le
  have hhi9 := hhi.le
  refine ⟨lo, hi, _, hlo, hhi, by simp only [bcdByte, elo, ehi]; rfl, rfl, ?_, ?_⟩
  · rw [BitVec.toNat_ofNat]
    omega
  · rw [BitVec.toNat_ofNat]
    omega

/-- The low digit of a last byte of one digit; its high digit is free. -/
theorem bcdOddByte_eq (op : BcdOp) {d a : Byte} (free : Byte) (c fc : Bool) (hd : d.toNat % 16 ≤ 9) (ha : a.toNat % 16 ≤ 9) :
    ∃ lo, DigitIs op (d.toNat % 16) (a.toNat % 16) c lo ∧ (bcdOddByte op d a free c fc).1.toNat % 16 = lo.1 := by
  obtain ⟨lo, e, hlo⟩ := bcdDigit_eq op c hd ha
  have hlo9 := hlo.le
  refine ⟨lo, hlo, ?_⟩
  have hlow : ((free &&& 0xF0) ||| BitVec.ofNat 8 lo.1) &&& 0x0F = BitVec.ofNat 8 lo.1 &&& 0x0F := by
    rw [BitVec.and_or_distrib_right, BitVec.and_assoc, show (0xF0 : Byte) &&& 0x0F = 0#8 from rfl, BitVec.and_zero, BitVec.zero_or]
  simp only [bcdOddByte, e]
  rw [← toNat_lowDigit, hlow, toNat_lowDigit, BitVec.toNat_ofNat]
  omega

theorem decimalByte : Claim.DecimalByte := by
  intro d a c hd0 hd1 ha0 ha1
  refine ⟨?_, ?_⟩
  · obtain ⟨lo, hi, r, hlo, hhi, e, hr, h0, h1⟩ := bcdByte_eq .add c ⟨hd0, hd1⟩ ⟨ha0, ha1⟩
    have elo := hlo.add rfl
    have ehi := hhi.add rfl
    rw [← hr] at ehi
    have hlo9 := hlo.le
    have hhi9 := hhi.le
    exact ⟨r, e, by omega, by omega, by omega⟩
  · obtain ⟨lo, hi, r, hlo, hhi, e, hr, h0, h1⟩ := bcdByte_eq .sub c ⟨hd0, hd1⟩ ⟨ha0, ha1⟩
    have elo := hlo.sub nofun
    have ehi := hhi.sub nofun
    rw [← hr] at ehi
    have hlo9 := hlo.le
    have hhi9 := hhi.le
    exact ⟨r, e, e, by omega, by omega, by omega⟩

/-- Over `n` digits, numbers of value `d` and `a` have given the result `res` and the carry or borrow `c`. -/
structure NumberIs (op : BcdOp) (n d a res : Nat) (c : Bool) : Prop where
  lt : res < 10 ^ n
  add : op = .add → res + 10 ^ n * bitNat c = d + a
  sub : op ≠ .add → res + a = d + 10 ^ n * bitNat c

section NumberIs
variable {op : BcdOp} {n d a res : Nat} {c : Bool}

theorem NumberIs.zero : NumberIs op 0 0 0 0 false := ⟨by decide, fun _ => rfl, fun _ => rfl⟩

/-- One digit more. -/
theorem NumberIs.digit (h : NumberIs op n d a res c) {x y : Nat} {r : Nat × Bool} (g : DigitIs op x y c r) :
    NumberIs op (n + 1) (d + 10 ^ n * x) (a + 10 ^ n * y) (res + 10 ^ n * r.1) r.2 where
  lt := by
    have := h.lt
    have := Nat.mul_le_mul_left (10 ^ n) g.le
    rw [Nat.pow_succ]
    omega
  add hop := by
    have e := congrArg (10 ^ n * ·) (g.add hop)
    have := h.add hop
    simp only [Nat.mul_add] at e
    rw [Nat.pow_succ, Nat.mul_assoc]
    omega
  sub hop := by
    have e := congrArg (10 ^ n * ·) (g.sub hop)
    have := h.sub hop
    simp only [Nat.mul_add] at e
    rw [Nat.pow_succ, Nat.mul_assoc]
    omega

theorem NumberIs.sum (h : NumberIs .add n d a res c) : res = (d + a) % 10 ^ n ∧ c = decide (10 ^ n ≤ d + a) := by
  have hlt := h.lt
  have e := h.add rfl
  refine ⟨by rw [← e, Nat.add_mul_mod_self_left, Nat.mod_eq_of_lt hlt], ?_⟩
  cases c <;> simp [bitNat] at e ⊢ <;> omega

theorem NumberIs.difference (h : NumberIs op n d a res c) (hop : op ≠ .add) (ha : a < 10 ^ n) :
    res = (d + 10 ^ n - a) % 10 ^ n ∧ c = decide (d < a) ∧ (res = 0 ↔ d = a) := by
  have hlt := h.lt
  have e := h.sub hop
  cases c with
  | false =>
    have e : res + a = d := by simpa [bitNat] using e
    refine ⟨?_, by simp; omega, by omega⟩
    rw [show d + 10 ^ n - a = res + 10 ^ n by omega, Nat.add_mod_right, Nat.mod_eq_of_lt hlt]
  | true =>
    have e : res + a = d + 10 ^ n := by simpa [bitNat] using e
    refine ⟨?_, by simp; omega, by omega⟩
    rw [show d + 10 ^ n - a = res by omega, Nat.mod_eq_of_lt hlt]

end NumberIs

end Sys2Proof.Machine

namespace Sys2Proof.Machine
open Sys2Proof

/-! ### Packed numbers in memory (47_v20_v30_extensions.md R594) -/

section Digits
variable (s : State) (sv off : Word)

theorem digit_low (k : Nat) : s.digit sv off (2 * k) = (s.byteAt (lin sv (off + BitVec.ofNat 16 k))).toNat % 16 := by
  rw [State.digit, Nat.mul_div_cancel_left k (by decide), if_pos (Nat.mul_mod_right 2 k)]

theorem digit_high (k : Nat) : s.digit sv off (2 * k + 1) = (s.byteAt (lin sv (off + BitVec.ofNat 16 k))).toNat / 16 := by
  rw [State.digit, show (2 * k + 1) / 2 = k by omega, if_neg (by omega)]

theorem digits_succ (n : Nat) : s.digits sv off (n + 1) = s.digits sv off n + 10 ^ n * s.digit sv off n := rfl

variable {s} {t : State} {sv off}

/-- A number depends only on its bytes. -/
theorem digits_congr {n : Nat}
    (h : ∀ k < (n + 1) / 2, t.byteAt (lin sv (off + BitVec.ofNat 16 k)) = s.byteAt (lin sv (off + BitVec.ofNat 16 k))) :
    t.digits sv off n = s.digits sv off n := by
  induction n with
  | zero => rfl
  | succ n ih =>
    have hdigit : t.digit sv off n = s.digit sv off n := by rw [State.digit, State.digit, h (n / 2) (by omega)]
    rw [digits_succ, digits_succ, hdigit, ih fun k hk => h k (by omega)]

theorem digits_lt {n : Nat} (h : ∀ k < n, s.digit sv off k ≤ 9) : s.digits sv off n < 10 ^ n := by
  induction n with
  | zero => exact Nat.one_pos
  | succ n ih =>
    have := ih fun k hk => h k (Nat.lt_succ_of_lt hk)
    have := Nat.mul_le_mul_left (10 ^ n) (h n (Nat.lt_succ_self n))
    rw [digits_succ, Nat.pow_succ]
    omega

end Digits

/-- Digit `k` of the destination, and of the source. -/
abbrev targetDigit (s : State) (k : Nat) : Nat := s.digit s.seg.es (s.r16 .di) k
abbrev sourceDigit (s : State) (k : Nat) : Nat := s.digit (s.sreg (s.segOr .ds)) (s.r16 .si) k

/-- The number that the first `n` digits of the destination stand for, and those of the source. -/
abbrev targetNumber (s : State) (n : Nat) : Nat := s.digits s.seg.es (s.r16 .di) n
abbrev sourceNumber (s : State) (n : Nat) : Nat := s.digits (s.sreg (s.segOr .ds)) (s.r16 .si) n

/-- The operands of Claim.DecimalDigits: `n` decimal digits each, in memory, the destination in RAM, and no byte of it stored before it
is read as a source byte. -/
structure DecimalOperands (op : BcdOp) (n : Nat) (s : State) : Prop where
  small : n < 256
  wf : Memory.wf s.mem = true
  digits : ∀ k < n, targetDigit s k ≤ 9 ∧ sourceDigit s k ≤ 9
  places : ∀ k < (n + 1) / 2, s.isRam (bcdTarget s k) ∧ s.isMemory (bcdSource s k)
  apart : op = .cmp ∨ ∀ k < (n + 1) / 2, ∀ j < k, bcdSource s k ≠ bcdTarget s j

section Rounds
variable {op : BcdOp} {n k : Nat} {s u : State}

theorem bcdTarget_ne {j k : Nat} (s : State) (hj : j < k) (hk : k < 65536) : bcdTarget s k ≠ bcdTarget s j := by
  intro h
  have e := congrArg BitVec.toNat (lin_inj _ _ _ h)
  simp only [BitVec.toNat_add, BitVec.toNat_ofNat] at e
  omega

theorem bcdRead_memory (s : State) (k : Nat) (hs : s.isMemory (bcdSource s k)) (hd : s.isMemory (bcdTarget s k)) :
    (bcdRead (BitVec.ofNat 16 k) s).1 = s.byteAt (bcdSource s k) ∧
      (bcdRead (BitVec.ofNat 16 k) s).2.1 = s.byteAt (bcdTarget s k) := by
  refine ⟨readByte_memory s (accessOf (s.segOr .ds)) _ _ hs, ?_⟩
  have hr := OnlyRead.refl (s := s).readByte (accessOf (s.segOr .ds)) (s.sreg (s.segOr .ds)) (s.r16 .si + BitVec.ofNat 16 k)
  have ht := bcdTarget_congr hr.gpr hr.ordinary.2 k
  rw [← ht] at hd
  refine (readByte_memory _ .es _ _ ((isMemory_of_cfg hr.cfg _).mpr hd)).trans ?_
  exact (congrArg _ ht).trans (byteAt_of_mem hr.mem _)

/-- A round reads the bytes that were there at the start. -/
theorem BcdRun.reads (h : BcdRun op k s u) (ho : DecimalOperands op n s) (hk : k < (n + 1) / 2) :
    (bcdRead (BitVec.ofNat 16 k) u).1 = s.byteAt (bcdSource s k) ∧
      (bcdRead (BitVec.ofNat 16 k) u).2.1 = s.byteAt (bcdTarget s k) := by
  obtain ⟨hram, hmemory⟩ := ho.places k hk
  have hsmall := ho.small
  have hs := bcdSource_congr h.gpr h.ordinary.2 k
  have hd := bcdTarget_congr h.gpr h.ordinary.2 k
  obtain ⟨esource, etarget⟩ := bcdRead_memory u k (hs ▸ (isMemory_of_cfg h.cfg _).mpr hmemory)
    (hd ▸ (isMemory_of_cfg h.cfg _).mpr (.inl hram))
  rw [esource, etarget, hs, hd]
  exact ⟨h.kept _ (ho.apart.imp_right fun h => h k hk), h.kept _ (.inr fun j hj => bcdTarget_ne s hj (by omega))⟩

/-- The result of a round with two digits. -/
theorem BcdRun.fullResult (h : BcdRun op k s u) (ho : DecimalOperands op n s) (hk : 2 * k + 1 < n) (c : Bool) :
    ∃ lo hi, let r := bcdResult op false (BitVec.ofNat 16 k) c u
      DigitIs op (targetDigit s (2 * k)) (sourceDigit s (2 * k)) c lo ∧
      DigitIs op (targetDigit s (2 * k + 1)) (sourceDigit s (2 * k + 1)) lo.2 hi ∧
      r.2 = hi.2 ∧ r.1.toNat % 16 = lo.1 ∧ r.1.toNat / 16 = hi.1 := by
  obtain ⟨ha, hd⟩ := h.reads ho (by omega)
  have h0 := ho.digits (2 * k) (by omega)
  have h1 := ho.digits (2 * k + 1) hk
  simp only [digit_low, digit_high] at h0 h1 ⊢
  obtain ⟨lo, hi, r, hlo, hhi, e, hr⟩ := bcdByte_eq op c ⟨h0.1, h1.1⟩ ⟨h0.2, h1.2⟩
  refine ⟨lo, hi, hlo, hhi, ?_⟩
  have hresult : bcdResult op false (BitVec.ofNat 16 k) c u = r := by
    simp only [bcdResult, ha, hd, bcdSource, bcdTarget, e]
    rfl
  rw [hresult]
  exact hr

/-- The result of the round with the one digit of an odd number of digits. -/
theorem BcdRun.oddResult (h : BcdRun op k s u) (ho : DecimalOperands op n s) (hk : 2 * k < n) (c : Bool) :
    ∃ lo, DigitIs op (targetDigit s (2 * k)) (sourceDigit s (2 * k)) c lo ∧
      (bcdResult op true (BitVec.ofNat 16 k) c u).1.toNat % 16 = lo.1 := by
  obtain ⟨ha, hd⟩ := h.reads ho (by omega)
  have h0 := ho.digits (2 * k) hk
  simp only [digit_low] at h0 ⊢
  have e : bcdResult op true (BitVec.ofNat 16 k) c u = bcdOddByte op (s.byteAt (bcdTarget s k)) (s.byteAt (bcdSource s k))
      (Config.freeByte (bcdRead (BitVec.ofNat 16 k) u).2.2.draws) c (Config.freeBit (bcdRead (BitVec.ofNat 16 k) u).2.2.draws) := by
    rw [← ha, ← hd]
    rfl
  rw [e]
  exact bcdOddByte_eq op _ c _ h0.1 h0.2

/-- What a round stores: its result, in its byte and no earlier one. -/
theorem BcdRun.stores (h : BcdRun op k s u) (ho : DecimalOperands op n s) (hk : k < (n + 1) / 2) (hop : op ≠ .cmp) (last c : Bool) :
    (bcdNext op last (BitVec.ofNat 16 k) c u).byteAt (bcdTarget s k) = (bcdResult op last (BitVec.ofNat 16 k) c u).1 ∧
    (bcdNext op last (BitVec.ofNat 16 k) c u).digits s.seg.es (s.r16 .di) (2 * k) = u.digits s.seg.es (s.r16 .di) (2 * k) := by
  have hr := bcdRead_onlyRead (BitVec.ofNat 16 k) u
  have hread := h.onlyRead hr
  have hsmall := ho.small
  have hnext : bcdNext op last (BitVec.ofNat 16 k) c u = writeByte .es _ _ _ (bcdRead (BitVec.ofNat 16 k) u).2.2.bumpDraws := if_neg hop
  rw [hnext]
  refine ⟨?_, digits_congr fun j hj => ?_⟩
  · rw [← hread.target]
    exact writeByte_byteAt_same _ _ _ _ _ (hread.wf ho.wf) ((kindAt_of_cfg hread.cfg _).trans (hread.target ▸ (ho.places k hk).1))
  · rw [writeByte_byteAt_ne _ _ _ _ _ _ (hread.target ▸ (bcdTarget_ne s (by omega) (by omega)).symm)]
    exact byteAt_of_mem hr.mem _

end Rounds

/-- After `k` full rounds: the digits done so far have given `res` and the carry, which is stored, but by CMP4S. -/
structure BcdSum (op : BcdOp) (k res : Nat) (s : State) (c z : Bool) (u : State) : Prop where
  run : BcdRun op k s u
  number : NumberIs op (2 * k) (targetNumber s (2 * k)) (sourceNumber s (2 * k)) res c
  stored : op ≠ .cmp → u.digits s.seg.es (s.r16 .di) (2 * k) = res
  zero : z = decide (res = 0)

/-- What the rounds over `n` digits give: the result, which is stored, but by CMP4S, and for an even `n` the carry and whether the result
is zero. -/
def BcdDone (op : BcdOp) (n : Nat) (s : State) (r : Bool × Bool × State) : Prop :=
  ∃ res c, NumberIs op n (targetNumber s n) (sourceNumber s n) res c ∧
    (op ≠ .cmp → r.2.2.digits s.seg.es (s.r16 .di) n = res) ∧ (r.2.1 = true → res = 0) ∧
    (n % 2 = 0 → r.1 = c ∧ r.2.1 = decide (res = 0))

section Sums
variable {op : BcdOp} {n k res : Nat} {s u : State} {c z : Bool}

theorem byte_isZero (b : Byte) : (b == 0) = decide (b.toNat % 16 = 0 ∧ b.toNat / 16 = 0) := by
  rw [Bool.eq_iff_iff, beq_iff_eq, decide_eq_true_iff, ← toNat_eq_zero_iff]
  omega

theorem BcdSum.zeroRounds : BcdSum op 0 0 s false true s := ⟨.refl, .zero, fun _ => rfl, rfl⟩

/-- A round with two digits. -/
theorem BcdSum.full (h : BcdSum op k res s c z u) (ho : DecimalOperands op n s) (hk : 2 * k + 1 < n) :
    ∃ res', let r := bcdResult op false (BitVec.ofNat 16 k) c u
      BcdSum op (k + 1) res' s r.2 (z && r.1 == 0) (bcdNext op false (BitVec.ofNat 16 k) c u) := by
  obtain ⟨lo, hi, hlo, hhi, hcarry, hlow, hhigh⟩ := h.run.fullResult ho hk c
  refine ⟨res + 10 ^ (2 * k) * lo.1 + 10 ^ (2 * k + 1) * hi.1, h.run.next _ _, ?_, fun hop => ?_, ?_⟩
  · rw [hcarry]
    exact (h.number.digit hlo).digit hhi
  · obtain ⟨hbyte, hdigits⟩ := h.run.stores ho (by omega) hop false c
    rw [show 2 * (k + 1) = 2 * k + 1 + 1 from rfl, digits_succ, digits_succ, hdigits, h.stored hop, digit_low, digit_high]
    rw [bcdTarget] at hbyte
    rw [hbyte, hlow, hhigh]
  · rw [h.zero, byte_isZero, hlow, hhigh, ← Bool.decide_and]
    simp [and_assoc]

/-- The round with the last digit of an odd number of digits: its carry is free. -/
theorem BcdSum.odd (h : BcdSum op k res s c z u) (ho : DecimalOperands op n s) (hk : n = 2 * k + 1) :
    let r := bcdResult op true (BitVec.ofNat 16 k) c u
    BcdDone op n s (r.2, z && r.1 == 0, bcdNext op true (BitVec.ofNat 16 k) c u) := by
  obtain ⟨lo, hlo, hlow⟩ := h.run.oddResult ho (by omega) c
  subst hk
  refine ⟨_, _, h.number.digit hlo, fun hop => ?_, fun hz => ?_, by omega⟩
  · obtain ⟨hbyte, hdigits⟩ := h.run.stores ho (by omega) hop true c
    rw [bcdTarget] at hbyte
    rw [digits_succ, hdigits, h.stored hop, digit_low, hbyte, hlow]
  · simp only [h.zero, byte_isZero, hlow, Bool.and_eq_true, decide_eq_true_iff] at hz
    simp [hz]

/-- The rounds that are left, the last one with one digit when `n` is odd. -/
theorem BcdSum.rounds (h : BcdSum op k res s c z u) (ho : DecimalOperands op n s) (m : Nat) (hk : 2 * k ≤ n) (hm : k + m = (n + 1) / 2) :
    BcdDone op n s (bcdLoop op (n % 2 == 1) m (BitVec.ofNat 16 k) c z u) := by
  induction m generalizing k res c z u with
  | zero =>
    obtain rfl : n = 2 * k := by omega
    exact ⟨res, c, h.number, h.stored, fun hz => of_decide_eq_true (h.zero.symm.trans hz), fun _ => ⟨rfl, h.zero⟩⟩
  | succ m ih =>
    rw [bcdLoop_succ]
    by_cases hlast : n = 2 * k + 1
    · obtain rfl : m = 0 := by omega
      rw [show (n % 2 == 1 && 0 == 0) = true by simp; omega]
      exact h.odd ho hlast
    · rw [show (n % 2 == 1 && m == 0) = false by simp; omega]
      obtain ⟨res', hfull⟩ := h.full ho (by omega)
      exact ih hfull (by omega) (by omega)

end Sums

theorem bcdRounds_done {op : BcdOp} {s : State} (ho : DecimalOperands op (s.r8 .cl).toNat s) :
    BcdDone op (s.r8 .cl).toNat s (bcdRounds op s) :=
  BcdSum.zeroRounds.rounds ho _ (Nat.zero_le _) (Nat.zero_add _)

/-- CF and ZF are those of the rounds: only the other status flags are free. -/
theorem bcdString_flags (op : BcdOp) {s : State} (h : 0 < (s.r8 .cl).toNat) :
    flagCF (bcdString op s).flags = (bcdRounds op s).1 ∧ flagZF (bcdString op s).flags = (bcdRounds op s).2.1 := by
  have hmask : (if (s.r8 .cl).toNat = 0 then statusMask else pfMask ||| afMask ||| sfMask ||| ofMask) =
      pfMask ||| afMask ||| sfMask ||| ofMask := if_neg (by omega)
  exact ⟨(havocFlags_getLsbD _ (by decide) (by rw [hmask]; decide)).trans (flagCF_putStatus _ _ _ _ _ _ _ _ (by decide)),
    (havocFlags_getLsbD _ (by decide) (by rw [hmask]; decide)).trans (flagZF_putStatus _ _ _ _ _ _ _ _ (by decide))⟩

/-- The end of a BCD string instruction: its result, CF and ZF. -/
theorem bcdString_done {op : BcdOp} {s : State} (ho : DecimalOperands op (s.r8 .cl).toNat s) (h : 0 < (s.r8 .cl).toNat) :
    let t := bcdString op s
    BcdDone op (s.r8 .cl).toNat s (flagCF t.flags, flagZF t.flags, t) := by
  obtain ⟨hcf, hzf⟩ := bcdString_flags op h
  obtain ⟨res, c, hnumber, hstored, hdone⟩ := bcdRounds_done ho
  rw [← hcf, ← hzf] at hdone
  have hkept : (bcdString op s).digits s.seg.es (s.r16 .di) (s.r8 .cl).toNat =
      (bcdRounds op s).2.2.digits s.seg.es (s.r16 .di) (s.r8 .cl).toNat := digits_congr fun _ _ => rfl
  exact ⟨res, c, hnumber, fun hop => hkept.trans (hstored hop), hdone⟩

/-- The difference, CF and ZF of SUB4S and CMP4S. -/
theorem BcdDone.difference {op : BcdOp} {n : Nat} {s : State} {r : Bool × Bool × State} (h : BcdDone op n s r) (hop : op ≠ .add)
    (ho : DecimalOperands op n s) :
    (op ≠ .cmp → r.2.2.digits s.seg.es (s.r16 .di) n = (targetNumber s n + 10 ^ n - sourceNumber s n) % 10 ^ n) ∧
    (n % 2 = 0 → r.1 = decide (targetNumber s n < sourceNumber s n) ∧ r.2.1 = decide (targetNumber s n = sourceNumber s n)) ∧
    (r.2.1 = true → targetNumber s n = sourceNumber s n) := by
  obtain ⟨res, c, hnumber, hstored, hzero, heven⟩ := h
  obtain ⟨hres, hc, hiff⟩ := hnumber.difference hop (digits_lt fun k hk => (ho.digits k hk).2)
  refine ⟨fun h => (hstored h).trans hres, fun hn => ?_, fun hz => hiff.mp (hzero hz)⟩
  obtain ⟨hcf, hzf⟩ := heven hn
  exact ⟨hcf.trans hc, hzf.trans (decide_eq_decide.mpr hiff)⟩

theorem decimalDigits : Claim.DecimalDigits := by
  rintro s _ _ _ _ _ rfl hpos rfl rfl rfl rfl hwf hdigits hplaces
  rw [← segOr_eq_getD] at hdigits hplaces ⊢
  have operands (op : BcdOp)
      (hap : op = .cmp ∨ ∀ k < ((s.r8 .cl).toNat + 1) / 2, ∀ j < k, bcdSource s k ≠ bcdTarget s j) :
      DecimalOperands op (s.r8 .cl).toNat s := ⟨(s.r8 .cl).isLt, hwf, hdigits, hplaces, hap⟩
  refine ⟨fun hap => ⟨⟨bcdString .add s, rfl, ?_⟩, ⟨bcdString .sub s, rfl, ?_⟩⟩, ⟨bcdString .cmp s, rfl, ?_⟩⟩
  · obtain ⟨res, c, hnumber, hstored, hzero, heven⟩ := bcdString_done (operands .add (.inr hap)) hpos
    obtain ⟨hres, hc⟩ := hnumber.sum
    rw [hc, hres] at heven
    exact ⟨(hstored nofun).trans hres, heven, fun hz => hres.symm.trans (hzero hz)⟩
  · have ho := operands .sub (.inr hap)
    exact ((bcdString_done ho hpos).difference nofun ho).imp_left fun h => h nofun
  · have ho := operands .cmp (.inl rfl)
    exact ((bcdString_done ho hpos).difference nofun ho).2

/-- Settles O54: a round reads both bytes, and stores the digits of their sum or difference; the rounds are added up digit by digit. -/
theorem decimalStringOperations : Obligations.DecimalStringOperations := ⟨decimalStrings, decimalByte, decimalDigits⟩

end Sys2Proof.Machine
